-- ==== Sys2Proof/Word.lean ====
section
/-! DEFINITION. Word types of the Itjen 2410: what the manual treats as bits (00 Conventions). -/

namespace Sys2Proof

/-- A byte of image memory. -/
abbrev Byte := BitVec 8

/-- A byte address of the 16 MiB image memory space (00 Memory Data). -/
abbrev Addr := BitVec 24

/-- A free-running 16-bit ring index (00 Counts that Wrap, R38). -/
abbrev Idx := BitVec 16

/-- A media position: a 32-bit count of lines that wraps (R137). -/
abbrev Pos := BitVec 32

/-- A row of dots, dot 0 first; `true` is an on-dot or a fired dot (R2). -/
abbrev Dots := List Bool

end Sys2Proof
end

