-- ==== Sys2Proof/Syntax.lean ====
section
/-! DEFINITION. The commands of the part: one constructor for each row of spec/opcode_table.json.
Operands are what the row's rule examines: a written value, an address, a pin level (log 11).
Commands reach the machine from its queue; output pulses inside one command are not state (log 12). -/

namespace Sys2Proof

/-- Width of a processor write cycle (R18: byte, halfword and full-word cycles all pass). -/
inductive Width where
  | byte
  | half
  | word
  deriving DecidableEq, Repr

/-- One command: a processor cycle, a transfer of the part, or an event of one of its units. -/
inductive Instr where
  /-- R36: assertion of the reset line. -/
  | resetAssert
  /-- R19: release of the reset line with the levels of the two strap pins. -/
  | resetRelease (asel0 asel1 : Bool)
  /-- R23: a full write of 1 to the engage word. -/
  | engage
  /-- R24: completion of the geometry block transfers. -/
  | geometryCheck
  /-- R25: completion of the producer word read. -/
  | engageSuccess
  /-- R78: control code 1. -/
  | pause
  /-- R78: control code 2. -/
  | resume
  /-- R79: control code 3. -/
  | cancelLabel
  /-- R80: control code 4. -/
  | cancelAll
  /-- R81: control code 5. -/
  | restart
  /-- R77: control code 6. -/
  | status
  /-- R77: a full write of the control word with another value. -/
  | otherControlCode (value : BitVec 32)
  /-- R21, R39: a full write of the producer word. -/
  | producerWrite (value : BitVec 32)
  /-- R177: a full write of the mask word. -/
  | maskWordWrite (value : BitVec 32)
  /-- R179: a full write of the end-of-service word. -/
  | endOfService (value : BitVec 32)
  /-- R178: a full read of the vector word. -/
  | acknowledge
  /-- R28: any other processor write. A byte is the low 8 bits of `data`, a halfword the low 16. -/
  | processorWrite (width : Width) (addr : Addr) (data : BitVec 32)
  /-- R41: completion of the item fetch in flight. -/
  | itemFetchComplete
  /-- R47: the output hold's segment moves to the segment queue. -/
  | segmentHandover
  /-- R49: the pending FEED or CALIBRATE is handed to the Label Control Unit. -/
  | operationHandover
  /-- R53: completion of the settings re-read. -/
  | settingsRereadComplete
  /-- R61: completion of the oldest pending label format record read. -/
  | formatRecordRead
  /-- R85: completion of the row fetch of the first PENDING slot. -/
  | rowFetchComplete
  /-- R56: grant of the oldest queued outcome write. -/
  | outcomeWrite
  /-- R177: grant of the waiting vector write. -/
  | vectorWordWrite
  /-- R180: the writes of a status block refresh. -/
  | statusRefresh
  /-- R181: the end of a 100 ms status timer period. -/
  | statusTimer
  /-- R136: expiry of the line timer. -/
  | linePeriodExpiry
  /-- R65: every ARMING condition holds. -/
  | copyStart
  /-- R70: the horizon lets a stalled copy go on. -/
  | stallRestart
  /-- R121: completion of a slice's shift. -/
  | shiftComplete
  /-- R123: the burst counter reaches compare A. -/
  | burstCompareA
  /-- R123: the burst counter reaches compare B. -/
  | burstCompareB
  /-- R109: the rest timer passes the cool time. -/
  | coolTimeExpiry
  /-- R150: the third sensor sample of a forward line; the three levels, `true` is HIGH. -/
  | lineSensing (s7 s8 s9 : Bool)
  /-- R164: a 1 ms sample of the head-open switch. -/
  | hopenSample (isOpen : Bool)
  /-- R171: the 10 ms schedule asks for a conversion. -/
  | periodicConversion
  /-- R171: completion of a conversion with its code. -/
  | conversionSample (code : Byte)
  /-- R169: expiry of the settle timer with the level of PSGD. -/
  | settleExpiry (psgd : Bool)
  /-- R169: a fall of PSGD. -/
  | psgdFall
  /-- R170: the dwell count reaches the dwell time. -/
  | dwellExpiry
  deriving DecidableEq, Repr

end Sys2Proof
end

