-- ==== Sys2Proof/Config.lean ====
section
/-! DEFINITION. Constants of the part. The manual leaves no value open that an event computes, so
there is no opaque free value here. -/

namespace Sys2Proof

/-- What a byte of memory that nothing has written reads as. DESIGN CHOICE, unsafe (log 1). -/
def Config.unwritten : Byte := 0

/-- Size of the image memory space: 16 MiB (00 Memory Data). -/
def Config.memorySize : Nat := 0x1000000

/-- Size of the anchor block (R19). -/
def Config.anchorSize : Nat := 0x1000

/-- Places of the segment queue (R82). -/
def Config.queueSize : Nat := 8

/-- Slots of the line buffer (R83). -/
def Config.bufferSize : Nat := 8

/-- Entries of the edge queue and of the passed list (R149). -/
def Config.edgeSize : Nat := 16

/-- Bytes a transfer moves at most (R31). -/
def Config.transferBytes : Nat := 16

/-- Bytes of the status block body, 104H to 13FH (R180). -/
def Config.bodyBytes : Nat := 60

/-- Ticks of 0.5 µs in a millisecond (00 Terms: Tick). -/
def Config.ticksPerMs : Nat := 2000

end Sys2Proof
end

