-- ==== Sys2Proof/Machine/State.lean ====
section
/-! DEFINITION. The state of the Itjen 2410 as plain data, one structure for each unit, and the state
the reset line leaves. Counts the manual bounds are `Nat`; what wraps or is masked is a bit vector. -/

namespace Sys2Proof.Machine

/-! ## Stops -/

/-- Reasons the machine stops. There are none: every rule of the spec gives its event an effect, and
printer faults are engine states and attention events (R73, R176; log 36). -/
inductive Fault where
  deriving DecidableEq, Repr

/-- Reasons a command has no meaning here. -/
inductive Refusal where
  /-- Raised by `exec` for a row without a meaning (no row is left); safe. -/
  | notModelled (mnemonic : String)
  deriving DecidableEq, Repr

/-! ## Records of memory -/

/-- Image memory: address and byte pairs in canonical form (log 1). -/
abbrev Memory := List Host.Cell

/-- R1, R37: the geometry accepted by a successful engage. -/
structure Geometry where
  /-- head dots D -/
  dots : Nat
  /-- strobe groups G -/
  groups : Nat
  /-- band height H -/
  height : Nat
  /-- band count B -/
  bands : Nat
  imageBase : Nat
  ringBase : Nat
  /-- ring capacity N -/
  slots : Nat
  deriving DecidableEq, Repr

inductive GuardMode where
  | pass
  | block
  deriving DecidableEq, Repr

inductive MediaKind where
  | gapped
  | continuous
  deriving DecidableEq, Repr

inductive PolarityDefault where
  | auto
  | gapHigh
  | gapLow
  deriving DecidableEq, Repr

/-- R184: the settings in effect, after their clamps. -/
structure Settings where
  eRef : Nat
  tMax : Nat
  f1 : Nat
  f2 : Nat
  f3 : Nat
  coolTime : Nat
  /-- K[0] to K[15] -/
  factors : List Nat
  /-- T[0] to T[16] -/
  thermistor : List Int
  thetaSlow : Nat
  thetaHold : Nat
  thetaTrip : Nat
  slowCap : Nat
  tGap : Nat
  /-- the simultaneous dot limit L -/
  dotLimit : Nat
  rampCount : Nat
  startRows : Nat
  restartRows : Nat
  media : MediaKind
  polarity : PolarityDefault
  guardLength : Nat
  tofAdjust : Nat
  settleTime : Nat
  dwellTime : Nat
  presentOffset : Nat
  freeThreshold : Nat
  guard : GuardMode
  /-- the sensor distance S -/
  sensorDistance : Nat
  maxGap : Nat
  maxPitch : Nat
  pitchTolerance : Nat
  calLimit : Nat
  defaultLength : Nat
  /-- the clamped periods of entries 0 to rampCount − 1 -/
  periods : List Nat
  deriving DecidableEq, Repr

/-! ## Attention sources -/

/-- R176: the five sources, in priority order. -/
inductive Source where
  | fault
  | media
  | ring
  | label
  | bands
  deriving DecidableEq, Repr

/-- R176: the record of one source. -/
structure SourceRecord where
  pending : Bool
  inService : Bool
  code : Nat
  arg : BitVec 16
  count : Nat
  deriving DecidableEq, Repr

/-- One value for each source. -/
structure PerSource (α : Type) where
  fault : α
  media : α
  ring : α
  label : α
  bands : α
  deriving DecidableEq, Repr

/-- R180: the engage result of the status block. -/
inductive EngageResult where
  | none
  | success
  | refused
  deriving DecidableEq, Repr

/-- Attention and Status Unit (R176 to R182). -/
structure Asu where
  records : PerSource SourceRecord
  /-- `true` masks the source -/
  masks : PerSource Bool
  offer : Option Source
  /-- ms into the 100 ms period, or stopped -/
  statusTimer : Option Nat
  sequence : BitVec 32
  /-- the body captured at the odd write of the refresh in progress -/
  capture : Option (List Byte)
  settingsResult : Nat
  engageResult : EngageResult
  offendingField : Nat
  deriving DecidableEq, Repr

/-! ## Bus Path Unit -/

/-- R31: a transfer of class 4 or 5 waiting at the arbiter. Row transfers are not listed: they are the
bytes a PENDING slot has not got. -/
inductive Transfer where
  /-- transfer `k` of the geometry block -/
  | geometry (k : Nat)
  /-- transfer `k` of the settings block at engage -/
  | settings (k : Nat)
  | producer
  /-- the format record of the label with this LABEL index -/
  | format (label : Idx)
  | item
  /-- transfer `k` of a SETTINGS item's re-read -/
  | reread (k : Nat)
  | outcome (addr : Nat) (data : BitVec 32)
  | vector
  | statusOdd
  | statusBody (k : Nat)
  | statusEven
  deriving DecidableEq, Repr

inductive Engagement where
  | notEngaged
  | engaging
  | engaged
  deriving DecidableEq, Repr

/-- What the reads of an engage in progress have returned (R23). -/
structure EngageReads where
  geometry : List Byte
  /-- the geometry once it has passed R24 -/
  accepted : Option Geometry
  settings : List Byte
  producer : List Byte
  deriving DecidableEq, Repr

/-- Bus Path Unit (R18 to R36). -/
structure Bpu where
  resetLine : Bool
  /-- the strap value sampled at the release; none while the reset line is asserted -/
  straps : Option (BitVec 2)
  engagement : Engagement
  reads : EngageReads
  geometry : Option Geometry
  guard : GuardMode
  latch : Option Idx
  waiting : List Transfer
  deriving DecidableEq, Repr

/-! ## Band Hold Table -/

structure BandEntry where
  hold : Nat
  tag : BitVec 16
  deriving DecidableEq, Repr

/-- Band Hold Table (R4). -/
structure Bht where
  entries : List BandEntry
  free : Nat
  /-- the release list: ring index and band -/
  release : List (Idx × Nat)
  threshold : Nat
  deriving DecidableEq, Repr

/-! ## Ring Reader -/

inductive ItemKind where
  | label
  | band
  | repeatRow
  | blank
  | endCopy
  | feed
  | calibrate
  | settings
  | unknown
  deriving DecidableEq, Repr

/-- R56: results of an item. -/
inductive ItemResult where
  | done
  | refused
  | cancelled
  | failed
  deriving DecidableEq, Repr

/-- R40: an entry of the item table. -/
structure ItemEntry where
  index : Idx
  kind : ItemKind
  complete : Bool
  result : Option ItemResult
  /-- R46: the refusal reason, 0 for an item not refused -/
  reason : Nat
  /-- byte 13 of the outcome for LABEL and SETTINGS items -/
  byte13 : Nat
  /-- bytes 14 to 15 of the outcome for LABEL items -/
  half14 : Nat
  /-- the tag of a LABEL item at its first walk (log 55) -/
  tag : BitVec 16
  /-- retires without an outcome (R58) -/
  silent : Bool
  deriving DecidableEq, Repr

/-- R82: a segment. -/
inductive Segment where
  | rows (band first count copy : Nat) (label : Idx)
  | repeatRun (count copy : Nat) (label : Idx)
  | blankRun (count copy : Nat) (label : Idx)
  | copyEnd (copy : Nat) (label : Idx)
  deriving DecidableEq, Repr

/-- R41: what the output hold may carry. -/
inductive Held where
  | segment (seg : Segment)
  | feed (index : Idx) (lines : Nat)
  | calibrate (index : Idx)
  | settings (index : Idx)
  deriving DecidableEq, Repr

/-- R41: the walk label record. -/
structure WalkLabel where
  index : Idx
  total : Nat
  tag : BitVec 16
  closing : Option Idx
  /-- good and spoiled counts, once the label's last copy has ended before its body closed (R54) -/
  ended : Option (Nat × Nat)
  deriving DecidableEq, Repr

/-- R41: the item fetch in flight. -/
structure ItemFetch where
  index : Idx
  /-- the item's bytes once its transfer has been granted -/
  data : List Byte
  /-- a producer write has withdrawn the item (R41) -/
  doomed : Bool
  deriving DecidableEq, Repr

/-- Ring Reader (R37 to R60). -/
structure Rrd where
  producer : Idx
  take : Idx
  walk : Idx
  retire : Idx
  table : List ItemEntry
  inside : Bool
  label : Option WalkLabel
  supplyCopy : Nat
  impliedClose : Bool
  fetch : Option ItemFetch
  hold : Option Held
  /-- the bytes of a settings re-read in progress -/
  reread : Option (List Byte)
  deriving DecidableEq, Repr

/-! ## Label Control Unit -/

/-- R61: a label context. -/
structure Context where
  tag : BitVec 16
  total : Nat
  formatAddr : Addr
  length : Nat
  label : Idx
  closing : Option Idx
  /-- the format state is READ -/
  formatRead : Bool
  /-- the format record's bytes once its transfer has been granted -/
  formatData : List Byte
  darkness : Int
  speedCap : Nat
  reprintFlag : Bool
  permission : Bool
  good : Nat
  spoiled : Nat
  copy : Nat
  reprintMark : Bool
  strobed : Bool
  stalls : Nat
  stretches : Nat
  thermalStops : Nat
  deriving DecidableEq, Repr

inductive HoldReason where
  | pause
  | thermal
  deriving DecidableEq, Repr

inductive PresentReason where
  | atEnd
  | stop
  deriving DecidableEq, Repr

inductive CalReason where
  | item
  | arming
  deriving DecidableEq, Repr

/-- The engine states of chapter 4.2 with their reasons. -/
inductive Engine where
  | unconfigured
  | idle
  | arming
  | seeking
  | printing
  | stalled
  | holding (r : HoldReason)
  | presenting (r : PresentReason)
  | feeding
  | calibrating (r : CalReason)
  | faulted
  deriving DecidableEq, Repr

/-- R73, R176: the six fault reasons. -/
inductive FaultReason where
  | thermalTrip
  | thermSensor
  | supply
  | headOpen
  | paperOut
  | gapMissing
  deriving DecidableEq, Repr

/-- R74: the fault set. -/
structure FaultSet where
  thermalTrip : Bool
  thermSensor : Bool
  supply : Bool
  headOpen : Bool
  paperOut : Bool
  gapMissing : Bool
  deriving DecidableEq, Repr

/-- R63: the operation in execution; `feed` is `none` for a CALIBRATE. -/
structure Operation where
  index : Idx
  feed : Option Nat
  deriving DecidableEq, Repr

/-- R66: a seek, or a feed to the next TOF. -/
structure SeekRun where
  start : Pos
  target : Option Pos
  deriving DecidableEq, Repr

/-- Label Control Unit (R61 to R81). -/
structure Lcu where
  printing : Option Context
  staged : Option Context
  engine : Engine
  faults : FaultSet
  pauseLatch : Bool
  restTof : Option Pos
  operation : Option Operation
  stalls : Nat
  stretches : Nat
  thermalStops : Nat
  /-- the TOF of the current copy, once fixed (R65) -/
  copyTof : Option Pos
  /-- the current copy has started (R87) -/
  started : Bool
  seek : Option SeekRun
  /-- the copy-end TOF that PRESENTING(END) makes the rest TOF (R69) -/
  presentTof : Option Pos
  /-- the label was cancelled during its backfeed, so R64 chooses at its end (R79) -/
  armCancelled : Bool
  /-- the head has opened since PAPER_OUT entered the fault set (R74) -/
  openedSincePaperOut : Bool
  deriving DecidableEq, Repr

/-! ## Row Supply Unit -/

/-- R83: a slot of the line buffer that holds an element. -/
inductive Slot where
  /-- `got` is what the fetch's transfers have returned so far; `image` is none while PENDING -/
  | row (band row copy : Nat) (label : Idx) (got : List Byte) (image : Option Dots)
  | run (isRepeat : Bool) (count copy : Nat) (label : Idx)
  | endMark (copy : Nat) (label : Idx)
  deriving DecidableEq, Repr

/-- R83: the repeat image. -/
structure RepeatImage where
  image : Dots
  copy : Nat
  label : Idx
  deriving DecidableEq, Repr

/-- Row Supply Unit (R82 to R97). -/
structure Rsu where
  queue : List Segment
  buffer : List Slot
  filling : Bool
  repeatImage : Option RepeatImage
  /-- label and copy number -/
  discard : Option (Idx × Nat)
  /-- a delivery waits for the head slot's fetch (R88) -/
  waiting : Bool
  deriving DecidableEq, Repr

/-! ## Strobe Energy Unit -/

/-- R105, R106: a slice of a line record. -/
structure Slice where
  duration : Nat
  dots : Dots
  /-- the firing dots of each strobe group -/
  counts : List Nat
  deriving DecidableEq, Repr

/-- R106: a line record. -/
structure LineRecord where
  /-- copy number and label, or none -/
  owner : Option (Nat × Idx)
  slices : List Slice
  /-- for each strobe group, the on-dots of class 0 to 3 -/
  classCounts : List (List Nat)
  fired : Dots
  deriving DecidableEq, Repr

/-- Strobe Energy Unit (R98). -/
structure Seu where
  h1 : Dots
  h2 : Dots
  band : Nat
  /-- ms at rest, or stopped -/
  restTimer : Option Nat
  record : LineRecord
  forecast : LineRecord
  deriving DecidableEq, Repr

/-! ## Head Drive Unit -/

inductive LineState where
  | idle
  | awaiting
  | active
  deriving DecidableEq, Repr

/-- R122: a burst: its strobe groups and its dot total. -/
structure Burst where
  groups : List Nat
  dots : Nat
  deriving DecidableEq, Repr

/-- R118: the shift state; `loaded` is a slice shifted and not yet latched. Slices count from 1. -/
inductive Shift where
  | idle
  | shifting (slice dots : Nat)
  | loaded (slice : Nat)
  deriving DecidableEq, Repr

/-- R123: the burst counter at work: slice (from 1) and burst (from 0) being fired, the count, the two
compares, and whether the strobes are still active (the count is below A). -/
structure Firing where
  slice : Nat
  burst : Nat
  count : Nat
  compareA : Nat
  compareB : Nat
  active : Bool
  deriving DecidableEq, Repr

/-- Head Drive Unit (R118). -/
structure Hdu where
  state : LineState
  line : Option LineRecord
  bursts : List (List Burst)
  /-- the recovery gap in effect at the line's start (R119) -/
  tGap : Nat
  shift : Shift
  /-- R121, R129: the head's shift register, dot 0 first; a stage that no dot has reached since reset is not
  listed (log 56) -/
  register : Dots
  latch : Option Dots
  firing : Option Firing
  /-- STB0 to STB7 -/
  strobes : List Bool
  /-- the line clock; with no line in progress it keeps its last count (log 54) -/
  clock : Nat
  forecastTime : Nat
  fired : BitVec 32
  deriving DecidableEq, Repr

/-! ## Motion Unit -/

inductive Motion where
  | rest
  | forward
  | backward
  deriving DecidableEq, Repr

/-- R147: the target of the DISTANCE source. -/
inductive Target where
  | at (p : Pos)
  /-- the print line + max(1, S − guard length), renewed at each planning point -/
  | renewed
  | unbounded
  deriving DecidableEq, Repr

/-- R138: the planning source. -/
inductive PlanSource where
  | horizon
  | distance (t : Target)
  | decelerate
  deriving DecidableEq, Repr

/-- R144: the cause of a rest. -/
inductive RestCause where
  | horizonExhausted
  | targetReached
  | decelerated
  | backfeedEnded
  deriving DecidableEq, Repr

structure LineTimer where
  period : Nat
  elapsed : Nat
  deriving DecidableEq, Repr

/-- R133: an installed ramp table; its count is the length of `periods`. -/
structure RampTable where
  periods : List Nat
  slowCap : Nat
  deriving DecidableEq, Repr

/-- Motion Unit (R132). -/
structure Mtu where
  motion : Motion
  dirForward : Bool
  ramp : Nat
  timer : Option LineTimer
  /-- index and period planned for the next line -/
  latch : Option (Nat × Nat)
  position : Pos
  source : PlanSource
  /-- the index limit is 0 (a calibration run) -/
  limitZero : Bool
  tailRunOn : Bool
  backfeed : Nat
  table : Option RampTable
  pendingTable : Option RampTable
  /-- a stop has been decided and waits for the line end (R144) -/
  stopping : Option RestCause
  deriving DecidableEq, Repr

/-! ## Media Sensing Unit -/

inductive Polarity where
  | unknown
  | gapHigh
  | gapLow
  deriving DecidableEq, Repr

inductive Phase where
  | start
  | body
  | gap
  deriving DecidableEq, Repr

/-- R152: the level run; `high` is its raw level. -/
structure LevelRun where
  high : Bool
  first : Pos
  length : Nat
  /-- GAP_MISSING has been reported for this run (R159) -/
  reported : Bool
  deriving DecidableEq, Repr

/-- R152: the confirmed gap being passed. -/
structure OpenGap where
  edge : Pos
  exact : Bool
  pitch : Nat
  deriving DecidableEq, Repr

/-- R153: an entry of the edge queue. -/
structure Edge where
  tof : Pos
  gap : Nat
  pitch : Nat
  deriving DecidableEq, Repr

inductive CalPhase where
  | learning
  | measuring
  | finishing
  deriving DecidableEq, Repr

/-- R161: a calibration run. -/
structure CalRun where
  phase : CalPhase
  count : Nat
  measured : Option Edge
  savedPolarity : Polarity
  /-- the saved source is CALIBRATED -/
  savedCalibrated : Bool
  deriving DecidableEq, Repr

/-- Media Sensing Unit (R149). -/
structure Msu where
  polarity : Polarity
  /-- the polarity's source is CALIBRATED -/
  calibrated : Bool
  phase : Phase
  run : Option LevelRun
  openGap : Option OpenGap
  refEdge : Option Pos
  senseMark : Pos
  queue : List Edge
  /-- most recent first; its head is the current TOF -/
  passed : List Edge
  /-- registration is VALID -/
  valid : Bool
  calPitch : Nat
  calGap : Nat
  lastPitch : Nat
  cal : Option CalRun
  headOpen : Bool
  agree : Nat
  lastSample : Option Bool
  /-- the switch state has been set once since the reset release (R164) -/
  switchKnown : Bool
  /-- position and nominal period of the forward line still to be sensed -/
  sensing : Option (Pos × Nat)
  deriving DecidableEq, Repr

/-! ## Head Supply and Temperature Unit -/

inductive Supply where
  | off
  | settling
  | on
  deriving DecidableEq, Repr

/-- R173: the thermal grade. -/
inductive Grade where
  | normal
  | slow
  | hold
  | trip
  deriving DecidableEq, Repr

structure SettleTimer where
  time : Nat
  elapsed : Nat
  deriving DecidableEq, Repr

/-- Head Supply and Temperature Unit (R167). -/
structure Htu where
  supply : Supply
  settle : Option SettleTimer
  /-- ms counted in dwell states; none while the supply is not ON -/
  dwell : Option Nat
  theta : Int
  grade : Grade
  trip : Bool
  sensorValid : Bool
  /-- ms to the next periodic conversion, or stopped -/
  schedule : Option Nat
  /-- conversions requested and not completed -/
  conversions : Nat
  deriving DecidableEq, Repr

/-! ## The whole part -/

/-- The part: its units, the settings in effect, image memory, the millisecond prescaler and the queue
of commands that wait, first in, first out. -/
structure State where
  bpu : Bpu
  bht : Bht
  rrd : Rrd
  lcu : Lcu
  rsu : Rsu
  seu : Seu
  hdu : Hdu
  mtu : Mtu
  msu : Msu
  htu : Htu
  asu : Asu
  /-- the units' settings, none before the first successful engage; a failed engage keeps them (log 20) -/
  settings : Option Settings
  mem : Memory
  /-- ticks into the current millisecond (the model's own, log 3) -/
  prescaler : Nat
  pending : List Instr
  deriving DecidableEq, Repr

/-! ## Reset values, each by the rule of its unit -/

/-- R182: a source record after reset. -/
def SourceRecord.clear : SourceRecord :=
  { pending := false, inService := false, code := 0, arg := 0, count := 0 }

/-- One value for all five sources. -/
def PerSource.all {α : Type} (x : α) : PerSource α :=
  { fault := x, media := x, ring := x, label := x, bands := x }

/-- R182. -/
def Asu.reset : Asu :=
  { records := PerSource.all SourceRecord.clear, masks := PerSource.all true, offer := none,
    statusTimer := none, sequence := 0, capture := none, settingsResult := 0,
    engageResult := .none, offendingField := 0 }

/-- No read of an engage has returned. -/
def EngageReads.empty : EngageReads :=
  { geometry := [], accepted := none, settings := [], producer := [] }

/-- R36: the reset line is asserted. -/
def Bpu.reset : Bpu :=
  { resetLine := true, straps := none, engagement := .notEngaged, reads := EngageReads.empty,
    geometry := none, guard := .pass, latch := none, waiting := [] }

/-- R17: the unengaged condition. -/
def Bht.reset : Bht := { entries := [], free := 0, release := [], threshold := 1 }

/-- R60. -/
def Rrd.reset : Rrd :=
  { producer := 0, take := 0, walk := 0, retire := 0, table := [], inside := false, label := none,
    supplyCopy := 1, impliedClose := false, fetch := none, hold := none, reread := none }

/-- R74: the empty fault set. -/
def FaultSet.empty : FaultSet :=
  { thermalTrip := false, thermSensor := false, supply := false, headOpen := false,
    paperOut := false, gapMissing := false }

/-- R63. -/
def Lcu.reset : Lcu :=
  { printing := none, staged := none, engine := .unconfigured, faults := FaultSet.empty,
    pauseLatch := false, restTof := none, operation := none, stalls := 0, stretches := 0,
    thermalStops := 0, copyTof := none, started := false, seek := none, presentTof := none,
    armCancelled := false, openedSincePaperOut := false }

/-- R95. -/
def Rsu.reset : Rsu :=
  { queue := [], buffer := [], filling := true, repeatImage := none, discard := none,
    waiting := false }

/-- R98, R106: an empty line record. -/
def LineRecord.empty : LineRecord := { owner := none, slices := [], classCounts := [], fired := [] }

/-- R98: band 5 is the band of 25 °C. -/
def Seu.reset : Seu :=
  { h1 := [], h2 := [], band := 5, restTimer := none, record := LineRecord.empty,
    forecast := LineRecord.empty }

/-- The eight strobe lines inactive. -/
def strobesOff : List Bool := List.replicate 8 false

/-- R118. -/
def Hdu.reset : Hdu :=
  { state := .idle, line := none, bursts := [], tGap := 0, shift := .idle, register := [], latch := none,
    firing := none, strobes := strobesOff, clock := 0, forecastTime := 0, fired := 0 }

/-- R148. -/
def Mtu.reset : Mtu :=
  { motion := .rest, dirForward := true, ramp := 0, timer := none, latch := none, position := 0,
    source := .horizon, limitZero := false, tailRunOn := false, backfeed := 0, table := none,
    pendingTable := none, stopping := none }

/-- R164, R166. -/
def Msu.reset : Msu :=
  { polarity := .unknown, calibrated := false, phase := .start, run := none, openGap := none,
    refEdge := none, senseMark := 0, queue := [], passed := [], valid := false, calPitch := 0,
    calGap := 0, lastPitch := 0, cal := none, headOpen := true, agree := 0, lastSample := none,
    switchKnown := false, sensing := none }

/-- R175. -/
def Htu.reset : Htu :=
  { supply := .off, settle := none, dwell := none, theta := 25, grade := .normal, trip := false,
    sensorValid := true, schedule := none, conversions := 0 }

/-- The part right after reset, with the reset line still asserted (log 2) and memory unlisted. -/
def State.reset : State :=
  { bpu := Bpu.reset, bht := Bht.reset, rrd := Rrd.reset, lcu := Lcu.reset, rsu := Rsu.reset,
    seu := Seu.reset, hdu := Hdu.reset, mtu := Mtu.reset, msu := Msu.reset, htu := Htu.reset,
    asu := Asu.reset, settings := none, mem := [], prescaler := 0, pending := [] }

end Sys2Proof.Machine
end

