-- ==== Sys2Proof/Machine/Ops.lean ====
section
/-! DEFINITION. Shared operations: bytes and memory, wrapping counts, accessors of the state, requests
at the memory port, and the engine state. -/

namespace Sys2Proof.Machine

/-! ## Little-endian fields (R183) -/

/-- The unsigned number of a little-endian field. -/
def leNat : List Byte → Nat
  | [] => 0
  | b :: bs => b.toNat + 256 * leNat bs

/-- The low `n` bytes of a number, least significant first. -/
def leBytes : Nat → Nat → List Byte
  | 0, _ => []
  | n + 1, x => BitVec.ofNat 8 x :: leBytes n (x / 256)

/-- The field of `n` bytes at offset `at_` of a record. -/
def field (at_ n : Nat) (record : List Byte) : Nat := leNat ((record.drop at_).take n)

/-- The signed byte at offset `at_` of a record. -/
def signedField (at_ : Nat) (record : List Byte) : Int :=
  (BitVec.ofNat 8 (field at_ 1 record)).toInt

/-! ## Memory -/

/-- One byte of memory. -/
def Memory.read (m : Memory) (a : Nat) : Byte :=
  match m with
  | [] => Config.unwritten
  | (k, v) :: rest => if k = a then v else Memory.read rest a

/-- Write one byte, keeping the canonical form: rising addresses, no entry that an unlisted byte
already reads as. -/
def Memory.write (m : Memory) (a : Nat) (v : Byte) : Memory :=
  match m with
  | [] => if v = Config.unwritten then [] else [(a, v)]
  | (k, w) :: rest =>
    if a < k then (if v = Config.unwritten then (k, w) :: rest else (a, v) :: (k, w) :: rest)
    else if a = k then (if v = Config.unwritten then rest else (a, v) :: rest)
    else (k, w) :: Memory.write rest a v

/-- The canonical form: addresses strictly rising, inside the space, no unwritten value listed. -/
def Memory.wf : Memory → Bool
  | [] => true
  | [(k, v)] => decide (k < Config.memorySize) && decide (v ≠ Config.unwritten)
  | (k, v) :: (k', v') :: rest =>
    decide (k < k') && decide (v ≠ Config.unwritten) && Memory.wf ((k', v') :: rest)

/-- An address within the 16 MiB space (log 34). -/
def wrapAddr (a : Nat) : Nat := a % Config.memorySize

/-- `n` bytes from address `a`, ascending. -/
def Memory.readBytes (m : Memory) (a : Nat) : Nat → List Byte
  | 0 => []
  | n + 1 => Memory.read m (wrapAddr a) :: Memory.readBytes m (a + 1) n

/-- Write bytes from address `a`, ascending. -/
def Memory.writeBytes (m : Memory) (a : Nat) : List Byte → Memory
  | [] => m
  | b :: bs => Memory.writeBytes (Memory.write m (wrapAddr a) b) (a + 1) bs

/-- Write bytes into the state's memory. -/
def State.store (s : State) (a : Nat) (bytes : List Byte) : State :=
  { s with mem := Memory.writeBytes s.mem a bytes }

/-! ## Counts that wrap (00 Counts that Wrap) -/

/-- Signed distance from `b` to `a`: positive when `a` lies ahead of `b` (R137). -/
def ahead (a b : Pos) : Int := (a - b).toInt

/-- Lines from `b` forward to `a`, 0 when `a` does not lie ahead. -/
def linesAhead (a b : Pos) : Nat := (ahead a b).toNat

/-- Unsigned distance of ring index `i` from `base` (R38). -/
def ringDist (i base : Idx) : Nat := (i - base).toNat

/-- Add to a count that stays at its limit. -/
def satAdd (limit x y : Nat) : Nat := min limit (x + y)

/-- Add 1 to a 16-bit count that stays at 65535. -/
def satSucc (x : Nat) : Nat := satAdd 65535 x 1

/-- Clamp to a range (00 Numbers). -/
def clamp (lo hi x : Nat) : Nat := max lo (min x hi)

/-! ## Accessors -/

/-- Stands where no geometry is in effect. -/
def Geometry.absent : Geometry :=
  { dots := 0, groups := 0, height := 0, bands := 0, imageBase := 0, ringBase := 0, slots := 0 }

/-- The geometry in effect. -/
def State.geo (s : State) : Geometry := s.bpu.geometry.getD Geometry.absent

/-- Stands where no settings are in effect. -/
def Settings.absent : Settings :=
  { eRef := 0, tMax := 0, f1 := 0, f2 := 0, f3 := 0, coolTime := 0, factors := [],
    thermistor := [], thetaSlow := 0, thetaHold := 0, thetaTrip := 0, slowCap := 0, tGap := 0,
    dotLimit := 0, rampCount := 0, startRows := 0, restartRows := 0, media := .gapped,
    polarity := .auto, guardLength := 0, tofAdjust := 0, settleTime := 0, dwellTime := 0,
    presentOffset := 0, freeThreshold := 0, guard := .pass, sensorDistance := 0, maxGap := 0,
    maxPitch := 0, pitchTolerance := 0, calLimit := 0, defaultLength := 0, periods := [] }

/-- The settings in effect. -/
def State.cfg (s : State) : Settings := s.settings.getD Settings.absent

/-- R1: bytes of a row. -/
def Geometry.rowBytes (g : Geometry) : Nat := g.dots / 8

/-- R1: bytes of a band. -/
def Geometry.bandBytes (g : Geometry) : Nat := g.height * g.rowBytes

/-- R1: bytes of the image window. -/
def Geometry.windowBytes (g : Geometry) : Nat := g.bands * g.bandBytes

/-- R2: the address of row `r` of band `b`. -/
def Geometry.rowAddr (g : Geometry) (b r : Nat) : Nat :=
  g.imageBase + (b * g.height + r) * g.rowBytes

/-- R37: the address of the slot of ring index `i`. -/
def Geometry.slotAddr (g : Geometry) (i : Idx) : Nat := g.ringBase + 16 * (i.toNat % g.slots)

/-- R103: dots of a strobe group. -/
def Geometry.groupDots (g : Geometry) : Nat := g.dots / g.groups

/-- A row with every dot off. -/
def Geometry.blankRow (g : Geometry) : Dots := List.replicate g.dots false

/-- R19: the anchor base of a strap value. -/
def anchorOf (straps : BitVec 2) : Nat :=
  match straps.toNat with
  | 0 => 0x0FF000
  | 1 => 0x3FF000
  | 2 => 0x7FF000
  | _ => 0xFFF000

/-- The anchor base, while the reset line is released. -/
def State.anchor? (s : State) : Option Nat := s.bpu.straps.map anchorOf

/-- The anchor base where one exists (the part makes no anchor access without one). -/
def State.anchor (s : State) : Nat := s.anchor?.getD 0

/-- The media is gapped (field 18 of the settings). -/
def State.gapped (s : State) : Bool := s.cfg.media == .gapped

/-- The engine is in one of the engaged states (R63). -/
def State.configured (s : State) : Bool := s.lcu.engine != .unconfigured

/-- Clear all reads of an engage. -/
def State.clearReads (s : State) : State := { s with bpu.reads := EngageReads.empty }

/-! ## Requests at the memory port (R31, R32) -/

/-- Append a transfer to those waiting. -/
def State.request (s : State) (t : Transfer) : State :=
  { s with bpu.waiting := s.bpu.waiting ++ [t] }

/-- R177: at most one vector write waits; a request while one waits is merged into it. -/
def requestVector (s : State) : State :=
  if s.bpu.waiting.contains .vector then s else s.request .vector

/-- R180: the six transfers of a refresh, in order. -/
def refreshTransfers : List Transfer :=
  [.statusOdd, .statusBody 0, .statusBody 1, .statusBody 2, .statusBody 3, .statusEven]

/-- R181: request a refresh; at most one waits with its odd write not granted. -/
def requestRefresh (s : State) : State :=
  if s.bpu.waiting.contains .statusOdd then s
  else { s with bpu.waiting := s.bpu.waiting ++ refreshTransfers }

/-- Split the waiting transfers at the first odd sequence write not yet granted, and drop its refresh. -/
def withoutWaitingRefresh : List Transfer → List Transfer
  | [] => []
  | .statusOdd :: rest =>
    rest.filter (fun t => !(refreshTransfers.contains t))
  | t :: rest => t :: withoutWaitingRefresh rest

/-- R55: the refresh of a retire advance follows the advance's outcome writes, so one that already
waits is taken to the end (log 14). -/
def requestRefreshLast (s : State) : State :=
  { s with bpu.waiting := withoutWaitingRefresh s.bpu.waiting ++ refreshTransfers }

/-- R35: transfers withdrawn by RESTART. Row fetches go with their slots. -/
def Transfer.withdrawnByRestart : Transfer → Bool
  | .item => true
  | .format _ => true
  | .reread _ => true
  | _ => false

/-- Drop every waiting transfer that `p` names. -/
def State.withdraw (s : State) (p : Transfer → Bool) : State :=
  { s with bpu.waiting := s.bpu.waiting.filter (fun t => !p t) }

/-! ## The engine state -/

/-- R170: the states in which the dwell timer is held at 0. -/
def Engine.kept : Engine → Bool
  | .arming => true
  | .printing => true
  | .stalled => true
  | .holding _ => true
  | _ => false

/-- R170: the states in which the dwell timer counts. -/
def Engine.dwells : Engine → Bool
  | .idle => true
  | .seeking => true
  | .presenting _ => true
  | .feeding => true
  | .calibrating _ => true
  | .faulted => true
  | _ => false

/-- R170: set the dwell count to 0 where it runs. -/
def clearDwell (s : State) : State := { s with htu.dwell := s.htu.dwell.map (fun _ => 0) }

/-- Change the engine state: an entry into a kept state clears the dwell count (R170), and a change
requests a refresh (R181). -/
def setEngine (e : Engine) (s : State) : State :=
  if s.lcu.engine = e then s
  else
    let s1 : State := { s with lcu.engine := e }
    requestRefresh (if e.kept then clearDwell s1 else s1)

/-- The current copy's context, changed in place. -/
def State.updatePrinting (s : State) (f : Context → Context) : State :=
  { s with lcu.printing := s.lcu.printing.map f }

end Sys2Proof.Machine
end

