-- ==== Sys2Proof/Machine/Flags.lean ====
section
/-! DEFINITION. Attention flags: sources, events, the offer, acknowledge and end-of-service
(R176 to R179), and the fault set (R74). -/

namespace Sys2Proof.Machine

/-- R176: the priority of a source, 0 the highest; it is also the source's number. -/
def Source.priority : Source → Nat
  | .fault => 0
  | .media => 1
  | .ring => 2
  | .label => 3
  | .bands => 4

/-- The sources in priority order. -/
def Source.inOrder : List Source := [.fault, .media, .ring, .label, .bands]

/-- R178: the source a number names; 5 to 7 name none. -/
def Source.ofNumber : Nat → Option Source
  | 0 => some .fault
  | 1 => some .media
  | 2 => some .ring
  | 3 => some .label
  | 4 => some .bands
  | _ => none

def PerSource.get {α : Type} (p : PerSource α) : Source → α
  | .fault => p.fault
  | .media => p.media
  | .ring => p.ring
  | .label => p.label
  | .bands => p.bands

def PerSource.set {α : Type} (p : PerSource α) (n : Source) (x : α) : PerSource α :=
  match n with
  | .fault => { p with fault := x }
  | .media => { p with media := x }
  | .ring => { p with ring := x }
  | .label => { p with label := x }
  | .bands => { p with bands := x }

def PerSource.map {α β : Type} (p : PerSource α) (f : α → β) : PerSource β :=
  { fault := f p.fault, media := f p.media, ring := f p.ring, label := f p.label,
    bands := f p.bands }

/-! ## Codes (R176) -/

def FaultReason.code : FaultReason → Nat
  | .thermalTrip => 1
  | .thermSensor => 2
  | .supply => 3
  | .headOpen => 4
  | .paperOut => 5
  | .gapMissing => 6

/-- Codes of the MEDIA source. -/
def Code.calDone : Nat := 1
def Code.calFailed : Nat := 2
def Code.pitchMismatch : Nat := 3
def Code.edgeOverflow : Nat := 4
def Code.regLost : Nat := 5
def Code.headOpen : Nat := 6
def Code.headClosed : Nat := 7

/-- Codes of the RING source. -/
def Code.itemRefused : Nat := 1
def Code.producerRefused : Nat := 2
def Code.implicitEnd : Nat := 3
def Code.lateWrite : Nat := 4
def Code.lateWriteBlocked : Nat := 5
def Code.controlRefused : Nat := 6
def Code.settingsClamped : Nat := 7

/-- Codes of the LABEL source. -/
def Code.labelRetired : Nat := 1
def Code.feedDone : Nat := 2
def Code.settingsTaken : Nat := 3
def Code.overlong : Nat := 4

/-- The code of the BANDS source. -/
def Code.bandsFree : Nat := 1

/-! ## The offer -/

/-- R177: `n` has higher priority than every source in service. -/
def Asu.outranks (a : Asu) (n : Source) : Bool :=
  Source.inOrder.all fun m => !((a.records.get m).inService) || decide (n.priority < m.priority)

/-- R177: pending, unmasked, and of higher priority than every source in service. -/
def Asu.eligible (a : Asu) (n : Source) : Bool :=
  (a.records.get n).pending && !(a.masks.get n) && a.outranks n

/-- R177: the offer the flags and masks give; none while UNCONFIGURED. -/
def offerOf (s : State) : Option Source :=
  if s.configured then Source.inOrder.find? s.asu.eligible else none

/-- R177: recompute the offer. `event` is the source an event was recorded on, if one was. While
ENGAGED a change of the offered source, or an event on the offered source, requests a vector write. -/
def recomputeOffer (event : Option Source) (s : State) : State :=
  let new := offerOf s
  let s1 : State := { s with asu.offer := new }
  if s.bpu.engagement = .engaged ∧ (new ≠ s.asu.offer ∨ (new ≠ none ∧ event = new)) then
    requestVector s1
  else s1

/-- R176: the record of a source after an event. -/
def SourceRecord.record (r : SourceRecord) (code : Nat) (arg : BitVec 16) : SourceRecord :=
  { r with pending := true, code := code, arg := arg, count := satAdd 255 r.count 1 }

/-- R176: raise an event on a source. -/
def raise (n : Source) (code : Nat) (arg : BitVec 16) (s : State) : State :=
  recomputeOffer (some n)
    { s with asu.records := s.asu.records.set n ((s.asu.records.get n).record code arg) }

/-- An argument wider than 16 bits is raised as its low 16 bits (R176). -/
def argOf (x : Nat) : BitVec 16 := BitVec.ofNat 16 x

/-- R178: judge an acknowledge of source number `n`. -/
def acknowledge (n : Nat) (s : State) : State :=
  match Source.ofNumber n with
  | none => s
  | some src =>
    let r := s.asu.records.get src
    if s.configured && r.pending && s.asu.outranks src then
      let taken : SourceRecord := { r with inService := true, pending := false, count := 0 }
      recomputeOffer none { s with asu.records := s.asu.records.set src taken }
    else s

/-- R179: clear the in-service flag of the highest-priority source in service. -/
def endService (s : State) : State :=
  if s.configured then
    match Source.inOrder.find? (fun n => (s.asu.records.get n).inService) with
    | none => s
    | some n =>
      let ended : SourceRecord := { s.asu.records.get n with inService := false }
      recomputeOffer none { s with asu.records := s.asu.records.set n ended }
  else s

/-- R20, R177: bits 0 to 4 of a mask word. -/
def masksOf (v : BitVec 32) : PerSource Bool :=
  { fault := v.getLsbD 0, media := v.getLsbD 1, ring := v.getLsbD 2, label := v.getLsbD 3,
    bands := v.getLsbD 4 }

/-- R177: set the masks. -/
def setMasks (v : BitVec 32) (s : State) : State :=
  recomputeOffer none { s with asu.masks := masksOf v }

/-- R182: RESTART clears the flags and the counts and keeps the codes and arguments; the vector word is
written when the offer changes (log 23). -/
def restartFlags (s : State) : State :=
  let idle (r : SourceRecord) : SourceRecord :=
    { r with pending := false, inService := false, count := 0 }
  recomputeOffer none { s with asu.records := s.asu.records.map idle }

/-- The level of ATTN_N: low while something is offered (R177). -/
def State.attnN (s : State) : Bool := s.asu.offer.isNone

/-! ## The fault set (R74) -/

def FaultSet.get (f : FaultSet) : FaultReason → Bool
  | .thermalTrip => f.thermalTrip
  | .thermSensor => f.thermSensor
  | .supply => f.supply
  | .headOpen => f.headOpen
  | .paperOut => f.paperOut
  | .gapMissing => f.gapMissing

def FaultSet.set (f : FaultSet) (r : FaultReason) (v : Bool) : FaultSet :=
  match r with
  | .thermalTrip => { f with thermalTrip := v }
  | .thermSensor => { f with thermSensor := v }
  | .supply => { f with supply := v }
  | .headOpen => { f with headOpen := v }
  | .paperOut => { f with paperOut := v }
  | .gapMissing => { f with gapMissing := v }

/-- R185: the fault set as a byte, bit n − 1 for reason n. -/
def FaultSet.byte (f : FaultSet) : Nat :=
  f.thermalTrip.toNat + 2 * f.thermSensor.toNat + 4 * f.supply.toNat + 8 * f.headOpen.toNat
    + 16 * f.paperOut.toNat + 32 * f.gapMissing.toNat

/-- R78: the set holds no reason other than SUPPLY and GAP_MISSING. -/
def FaultSet.latchedOnly (f : FaultSet) : Bool :=
  !(f.thermalTrip || f.thermSensor || f.headOpen || f.paperOut)

/-- R78, R81: SUPPLY and GAP_MISSING leave the set. -/
def FaultSet.dropLatched (f : FaultSet) : FaultSet := { f with supply := false, gapMissing := false }

/-- R63: the state an engaged part takes from its fault set. -/
def restState (f : FaultSet) : Engine := if f = FaultSet.empty then .idle else .faulted

/-- R74: a reason whose condition clears leaves the set. -/
def clearFault (r : FaultReason) (s : State) : State :=
  { s with lcu.faults := s.lcu.faults.set r false }

end Sys2Proof.Machine
end

