-- ==== Sys2Proof/Machine/Bands.lean ====
section
/-! DEFINITION. The Band Hold Table and the guard (R3 to R17, R27, R28). -/

namespace Sys2Proof.Machine

/-- R4: the table after a successful engage with `bands` bands. -/
def Bht.engaged (bands threshold : Nat) : Bht :=
  { entries := List.replicate bands { hold := 0, tag := 0 }, free := bands, release := [],
    threshold := threshold }

/-- R16: RESTART clears every entry and keeps the threshold. -/
def Bht.cleared (t : Bht) : Bht :=
  { t with entries := t.entries.map (fun _ => { hold := 0, tag := 0 }), free := t.entries.length,
           release := [] }

/-- The hold count of band `b`. -/
def Bht.holdOf (t : Bht) (b : Nat) : Nat := (t.entries[b]?.map (fun e => e.hold)).getD 0

/-- The last tag of band `b`. -/
def Bht.tagOf (t : Bht) (b : Nat) : BitVec 16 := (t.entries[b]?.map (fun e => e.tag)).getD 0

/-- R7: band `b` is HELD. -/
def Bht.held (t : Bht) (b : Nat) : Bool := decide (0 < t.holdOf b)

/-- R5: acceptance of the item at ring index `i` naming band `b`, for a label with tag `tag`. -/
def Bht.accept (t : Bht) (i : Idx) (b : Nat) (tag : BitVec 16) : Bht :=
  { t with
    entries := t.entries.modify b (fun e => { hold := e.hold + 1, tag := tag })
    free := if b < t.entries.length ∧ t.holdOf b = 0 then t.free - 1 else t.free
    release := t.release ++ [(i, b)] }

/-- R8: the retire of the item at ring index `i`: the head record is removed when it is the item's. -/
def Bht.releaseItem (t : Bht) (i : Idx) : Bht :=
  match t.release with
  | [] => t
  | (j, b) :: rest =>
    if j = i then
      { t with
        entries := t.entries.modify b (fun e => { e with hold := e.hold - 1 })
        free := if b < t.entries.length ∧ t.holdOf b = 1 then t.free + 1 else t.free
        release := rest }
    else t

/-- R8: the band whose hold the retire of ring index `i` releases. -/
def Bht.releasedBand (t : Bht) (i : Idx) : Option Nat :=
  match t.release with
  | [] => none
  | (j, b) :: _ => if j = i then some b else none

/-- R12: judge the crossing of one advance that began with `before` free bands. -/
def judgeBandsFree (before : Nat) (s : State) : State :=
  if before < s.bht.threshold ∧ s.bht.threshold ≤ s.bht.free then
    raise .bands Code.bandsFree (argOf s.bht.free) s
  else s

/-! ## Late writes -/

/-- R3: the band a processor write address maps to. -/
def Geometry.bandAt (g : Geometry) (a : Nat) : Option Nat :=
  if g.imageBase ≤ a ∧ a < g.imageBase + g.windowBytes then
    some ((a - g.imageBase) / g.bandBytes)
  else none

/-- R27: the ring slot an address lies in. -/
def Geometry.slotAt (g : Geometry) (a : Nat) : Option Nat :=
  if g.ringBase ≤ a ∧ a < g.ringBase + 16 * g.slots then some ((a - g.ringBase) / 16) else none

/-- R27: some index of the owned span occupies slot `k`. -/
def ownsSlot (g : Geometry) (retire producer : Idx) (k : Nat) : Bool :=
  decide ((k + g.slots - retire.toNat % g.slots) % g.slots < ringDist producer retire)

/-- R13, R27: the argument of the late-write event a write at `a` raises, or none for a write that is
not late. -/
def lateWrite (s : State) (a : Nat) : Option Nat :=
  if s.bpu.engagement = .engaged then
    match s.geo.bandAt a with
    | some b => if s.bht.held b then some b else none
    | none =>
      match s.geo.slotAt a with
      | some k =>
        if ownsSlot s.geo s.rrd.retire s.rrd.producer k then some (0x80 + k) else none
      | none => none
  else none

end Sys2Proof.Machine
end

