-- ==== Sys2Proof/Machine/Operands.lean ====
section
/-! DEFINITION. How the records of memory are read: the geometry block and its check (R24), the settings
block and its clamps (R184), ring items (R42 to R45), the format record and the rows of dots (R2). -/

namespace Sys2Proof.Machine

/-! ## Geometry block -/

/-- The geometry block's fields (chapter 12.2), from its 32 bytes. -/
def readGeometry (b : List Byte) : Geometry :=
  { dots := field 0 2 b, groups := field 2 2 b, height := field 4 2 b, bands := field 6 2 b,
    imageBase := field 8 4 b, ringBase := field 12 4 b, slots := field 16 2 b }

/-- Two runs of bytes share no byte. -/
def apart (a la b lb : Nat) : Bool := decide (a + la ≤ b) || decide (b + lb ≤ a)

/-- R24: the twelve conditions, in the order they are tested. -/
def geometryTests (g : Geometry) (anchor : Nat) : List Bool :=
  [ decide (128 ≤ g.dots) && decide (g.dots ≤ 1024) && g.dots % 32 == 0,
    g.groups == 1 || g.groups == 2 || g.groups == 4 || g.groups == 8,
    g.height == 8 || g.height == 16 || g.height == 32 || g.height == 64,
    decide (2 ≤ g.bands) && decide (g.bands ≤ 64),
    g.imageBase % 4 == 0,
    g.ringBase % 16 == 0,
    g.slots == 16 || g.slots == 32 || g.slots == 64 || g.slots == 128 || g.slots == 256,
    decide (g.imageBase + g.windowBytes ≤ Config.memorySize),
    decide (g.ringBase + 16 * g.slots ≤ Config.memorySize),
    apart g.imageBase g.windowBytes anchor Config.anchorSize,
    apart g.ringBase (16 * g.slots) anchor Config.anchorSize,
    apart g.imageBase g.windowBytes g.ringBase (16 * g.slots) ]

/-- The number, from `n`, of the first test that fails; 0 when none does. -/
def firstFailing (n : Nat) : List Bool → Nat
  | [] => 0
  | ok :: rest => if ok then firstFailing (n + 1) rest else n

/-- R24: the offending field number, or 0 for a geometry that passes. -/
def geometryCheck (g : Geometry) (anchor : Nat) : Nat := firstFailing 1 (geometryTests g anchor)

/-! ## Settings block -/

/-- R133: clamp the ramp periods entry by entry; `above` is the clamped period of the entry before. -/
def clampPeriods (above : Option Nat) : List Nat → List Nat
  | [] => []
  | p :: ps =>
    let raised := max 200 p
    let q := match above with
      | none => raised
      | some a => min a raised
    q :: clampPeriods (some q) ps

/-- `n` consecutive fields of `w` bytes from offset `at_`. -/
def fieldList (at_ w : Nat) (b : List Byte) : Nat → List Nat
  | 0 => []
  | n + 1 => field at_ w b :: fieldList (at_ + w) w b n

/-- T[0] to T[16] as written (signed bytes). -/
def rawThermistor (b : List Byte) : List Int :=
  (fieldList 0x18 1 b 17).map fun x => (BitVec.ofNat 8 x).toInt

/-- Media kind by its encoding; other values become GAPPED (R184). -/
def mediaOf (x : Nat) : MediaKind := if x = 1 then .continuous else .gapped

/-- Polarity default by its encoding; other values become AUTO (R184). -/
def polarityOf (x : Nat) : PolarityDefault :=
  if x = 1 then .gapHigh else if x = 2 then .gapLow else .auto

/-- Guard mode by its encoding; other values become PASS (R29, R184). -/
def guardOf (x : Nat) : GuardMode := if x = 1 then .block else .pass

/-- R184: the settings a block gives under geometry `g`, with every clamp. -/
def readSettings (g : Geometry) (b : List Byte) : Settings :=
  let slow := clamp 0 127 (field 0x29 1 b)
  let hold := max (slow + 1) (clamp 0 127 (field 0x2A 1 b))
  let trip := max (hold + 1) (clamp 0 127 (field 0x2B 1 b))
  let count := clamp 1 32 (field 0x30 1 b)
  { eRef := clamp 16 8191 (field 0x00 2 b)
    tMax := clamp 16 16383 (field 0x02 2 b)
    f1 := min 128 (field 0x04 1 b)
    f2 := min 128 (field 0x05 1 b)
    f3 := min 128 (field 0x06 1 b)
    coolTime := field 0x07 1 b
    factors := fieldList 0x08 1 b 16
    thermistor := (rawThermistor b).map (fun t => max (-40) t)
    thetaSlow := slow
    thetaHold := hold
    thetaTrip := trip
    slowCap := min (field 0x2C 1 b) (count - 1)
    tGap := clamp 2 255 (field 0x2D 1 b)
    dotLimit := clamp g.groupDots g.dots (field 0x2E 2 b)
    rampCount := count
    startRows := clamp 1 255 (field 0x31 1 b)
    restartRows := clamp 1 255 (field 0x32 1 b)
    media := mediaOf (field 0x33 1 b)
    polarity := polarityOf (field 0x34 1 b)
    guardLength := clamp 1 255 (field 0x35 1 b)
    tofAdjust := field 0x36 1 b
    settleTime := clamp 1 255 (field 0x37 1 b)
    dwellTime := field 0x38 1 b
    presentOffset := field 0x39 1 b
    freeThreshold := clamp 1 g.bands (field 0x3A 1 b)
    guard := guardOf (field 0x3B 1 b)
    sensorDistance := field 0x3C 2 b
    maxGap := field 0x3E 2 b
    maxPitch := field 0x40 2 b
    pitchTolerance := field 0x42 1 b
    calLimit := clamp 1 65535 (field 0x44 2 b)
    defaultLength := clamp 1 65535 (field 0x46 2 b)
    periods := clampPeriods none (fieldList 0x48 2 b count) }

/-- R173, R184: a threshold is clamped to 0 to 127 and then raised; either change counts, also where the
raise ends at the value written. -/
def thresholdClamped (raw final : Nat) : Bool := decide (127 < raw) || final != raw

/-- R184: each field that can be clamped, by number, with whether its clamp changed it. -/
def clampedFields (g : Geometry) (b : List Byte) : List (Nat × Bool) :=
  let c := readSettings g b
  let differs (n x at_ w : Nat) : Nat × Bool := (n, x != field at_ w b)
  [ differs 1 c.eRef 0x00 2, differs 2 c.tMax 0x02 2,
    differs 3 c.f1 0x04 1, differs 4 c.f2 0x05 1, differs 5 c.f3 0x06 1,
    (8, c.thermistor != rawThermistor b),
    (9, thresholdClamped (field 0x29 1 b) c.thetaSlow),
    (10, thresholdClamped (field 0x2A 1 b) c.thetaHold),
    (11, thresholdClamped (field 0x2B 1 b) c.thetaTrip),
    differs 12 c.slowCap 0x2C 1, differs 13 c.tGap 0x2D 1, differs 14 c.dotLimit 0x2E 2,
    differs 15 c.rampCount 0x30 1, differs 16 c.startRows 0x31 1, differs 17 c.restartRows 0x32 1,
    (18, decide (1 < field 0x33 1 b)), (19, decide (2 < field 0x34 1 b)),
    differs 20 c.guardLength 0x35 1, differs 22 c.settleTime 0x37 1,
    differs 25 c.freeThreshold 0x3A 1, (26, decide (1 < field 0x3B 1 b)),
    differs 31 c.calLimit 0x44 2, differs 32 c.defaultLength 0x46 2,
    (33, c.periods != fieldList 0x48 2 b c.rampCount) ]

/-- R184: the number of the first clamped field, or 0. -/
def firstClamped (g : Geometry) (b : List Byte) : Nat :=
  match (clampedFields g b).find? (fun f => f.2) with
  | some f => f.1
  | none => 0

/-- R133: the ramp table of the settings. -/
def Settings.rampTable (c : Settings) : RampTable := { periods := c.periods, slowCap := c.slowCap }

/-! ## Ring items (R42, chapter 12.3) -/

/-- R40, R42: the kind byte 0 names. -/
def kindOf (b : List Byte) : ItemKind :=
  match field 0 1 b with
  | 1 => .label
  | 2 => .band
  | 3 => .repeatRow
  | 4 => .blank
  | 5 => .endCopy
  | 6 => .feed
  | 7 => .calibrate
  | 8 => .settings
  | _ => .unknown

/-- Bytes 2 to 3: copies, band index, count or lines. -/
def itemWord (b : List Byte) : Nat := field 2 2 b

/-- R43: the copies total; 0 becomes 1 and a value above 999 becomes 999. -/
def itemCopies (b : List Byte) : Nat := clamp 1 999 (itemWord b)

/-- R43: the format record address, its two lowest bits taken as zero. -/
def itemFormatAddr (b : List Byte) : Addr := BitVec.ofNat 24 (field 4 3 b / 4 * 4)

/-- R43: the tag. -/
def itemTag (b : List Byte) : BitVec 16 := BitVec.ofNat 16 (field 8 2 b)

/-- R43: the length; 0 becomes the default label length. -/
def itemLength (c : Settings) (b : List Byte) : Nat :=
  if field 10 2 b = 0 then c.defaultLength else field 10 2 b

/-- R44: a row count of 0, or one past the band's last row, becomes H − first row. -/
def bandRows (height first count : Nat) : Nat :=
  if count = 0 ∨ height < first + count then height - first else count

/-! ## Label format record (chapter 12.3) -/

/-- R61: the context after its format record has been read under `rampCount` entries. -/
def Context.withFormat (c : Context) (rampCount : Nat) (b : List Byte) : Context :=
  let flag := field 2 1 b % 2 == 1
  { c with formatRead := true, formatData := [],
           darkness := max (-15) (min 15 (signedField 0 b)),
           speedCap := min (field 1 1 b) (rampCount - 1),
           reprintFlag := flag, permission := flag }

/-! ## Rows of dots (R2) -/

/-- The dots of a byte, most significant bit first. -/
def byteDots (b : Byte) : Dots :=
  [b.getLsbD 7, b.getLsbD 6, b.getLsbD 5, b.getLsbD 4,
   b.getLsbD 3, b.getLsbD 2, b.getLsbD 1, b.getLsbD 0]

/-- R2: the dots of a row's bytes, in dot order. -/
def rowDots : List Byte → Dots
  | [] => []
  | b :: bs => byteDots b ++ rowDots bs

end Sys2Proof.Machine
end

