-- ==== Sys2Proof/Machine/Rows.lean ====
section
/-! DEFINITION. Row supply: the segment queue, the line buffer, its fill and fetches, the delivery of a
line, the copy end, the flushes and the readiness horizon (R82 to R97). -/

namespace Sys2Proof.Machine

/-! ## Elements of the stream (R82, R83) -/

def Segment.copy : Segment → Nat
  | .rows _ _ _ c _ => c
  | .repeatRun _ c _ => c
  | .blankRun _ c _ => c
  | .copyEnd c _ => c

def Segment.label : Segment → Idx
  | .rows _ _ _ _ l => l
  | .repeatRun _ _ l => l
  | .blankRun _ _ l => l
  | .copyEnd _ l => l

/-- R82: the lines a segment stands for. -/
def Segment.lines : Segment → Nat
  | .rows _ _ n _ _ => n
  | .repeatRun n _ _ => n
  | .blankRun n _ _ => n
  | .copyEnd _ _ => 0

def Segment.isEnd : Segment → Bool
  | .copyEnd _ _ => true
  | _ => false

def Slot.copy : Slot → Nat
  | .row _ _ c _ _ _ => c
  | .run _ _ c _ => c
  | .endMark c _ => c

def Slot.label : Slot → Idx
  | .row _ _ _ l _ _ => l
  | .run _ _ _ l => l
  | .endMark _ l => l

/-- R83: the lines of a slot. -/
def Slot.lines : Slot → Nat
  | .row .. => 1
  | .run _ n _ _ => n
  | .endMark .. => 0

def Slot.isEnd : Slot → Bool
  | .endMark .. => true
  | _ => false

/-- An element of the stream as the horizon reads it. -/
structure Element where
  isEnd : Bool
  lines : Nat
  copy : Nat
  label : Idx
  deriving DecidableEq, Repr

def Slot.element (x : Slot) : Element :=
  { isEnd := x.isEnd, lines := x.lines, copy := x.copy, label := x.label }

def Segment.element (x : Segment) : Element :=
  { isEnd := x.isEnd, lines := x.lines, copy := x.copy, label := x.label }

/-- R83: the stream: the occupied slots from the head, then the queued segments. -/
def Rsu.stream (r : Rsu) : List Element :=
  r.buffer.map Slot.element ++ r.queue.map Segment.element

/-- R62: the stream holds an element of this copy. -/
def Rsu.holds (r : Rsu) (label : Idx) (copy : Nat) : Bool :=
  r.stream.any fun e => e.label == label && e.copy == copy

/-- R65: the last copy in the stream has its COPY_END in the stream. -/
def Rsu.lastClosed (r : Rsu) : Bool :=
  match r.stream.getLast? with
  | some e => e.isEnd
  | none => false

/-! ## Filling (R83, R84) -/

/-- R83: the slot the head segment gives, and what is left of the segment. -/
def Segment.takeSlot : Segment → Slot × Option Segment
  | .rows b f n c l =>
    (.row b f c l [] none, if n ≤ 1 then none else some (.rows b (f + 1) (n - 1) c l))
  | .repeatRun n c l => (.run true n c l, none)
  | .blankRun n c l => (.run false n c l, none)
  | .copyEnd c l => (.endMark c l, none)

/-- Take elements while a slot is empty and the queue holds a segment, at most `n` of them. -/
def Rsu.takeUpTo : Nat → Rsu → Rsu
  | 0, r => r
  | n + 1, r =>
    if r.buffer.length < Config.bufferSize then
      match r.queue with
      | [] => r
      | seg :: rest =>
        let (slot, left) := seg.takeSlot
        Rsu.takeUpTo n { r with buffer := r.buffer ++ [slot], queue := left.toList ++ rest }
    else r

/-- R84: fill by hysteresis: FILLING begins at 4 or fewer occupied slots and ends at 8. -/
def Rsu.fill (r : Rsu) : Rsu :=
  if r.filling ∨ r.buffer.length ≤ 4 then
    let r1 := Rsu.takeUpTo Config.bufferSize r
    { r1 with filling := decide (r1.buffer.length < Config.bufferSize) }
  else r

/-- R84: the fill proceeds while the part is ENGAGED. -/
def fillBuffer (s : State) : State :=
  if s.bpu.engagement = .engaged then { s with rsu := s.rsu.fill } else s

/-! ## Row fetches (R85) -/

/-- The slot's fetch has transfers that have not been granted. -/
def Slot.needs (g : Geometry) : Slot → Bool
  | .row _ _ _ _ got none => decide (got.length < g.rowBytes)
  | _ => false

/-- A row fetch transfer waits. -/
def rowWaits (s : State) : Bool := s.rsu.buffer.any (Slot.needs s.geo)

/-- Grant the next transfer of the first row fetch that waits: at most 16 bytes (R2, R31). -/
def grantRowIn (g : Geometry) (m : Memory) : List Slot → List Slot
  | [] => []
  | .row b r c l got none :: rest =>
    if got.length < g.rowBytes then
      let n := min Config.transferBytes (g.rowBytes - got.length)
      .row b r c l (got ++ m.readBytes (g.rowAddr b r + got.length) n) none :: rest
    else .row b r c l got none :: grantRowIn g m rest
  | x :: rest => x :: grantRowIn g m rest

/-- R85: lines of the occupied slots up to the first whose row has not arrived (log 5). -/
def readyLines (g : Geometry) : List Slot → Nat
  | [] => 0
  | x :: rest => if x.needs g then 0 else x.lines + readyLines g rest

/-- R85: the waiting row fetches are urgent. -/
def urgent (s : State) : Bool :=
  s.lcu.engine == .printing && s.mtu.motion == .forward
    && decide (readyLines s.geo s.rsu.buffer ≤ 1)

/-- The first slot still PENDING. -/
def firstPending : List Slot → Bool
  | [] => false
  | .row _ _ _ _ _ none :: _ => true
  | _ :: rest => firstPending rest

/-- R85: the first PENDING slot becomes COMPLETE; transfers of its fetch not granted before read memory
as it stands. -/
def completeRowIn (g : Geometry) (m : Memory) : List Slot → List Slot
  | [] => []
  | .row b r c l got none :: rest =>
    let bytes := got ++ m.readBytes (g.rowAddr b r + got.length) (g.rowBytes - got.length)
    .row b r c l [] (some (rowDots bytes)) :: rest
  | x :: rest => x :: completeRowIn g m rest

/-! ## Delivery (R87) -/

/-- A delivered line: its dots and the copy and label it carries, or none. -/
structure Line where
  dots : Dots
  owner : Option (Nat × Idx)
  deriving DecidableEq, Repr

/-- The copy number and label of the current copy. -/
def Context.owner (c : Context) : Nat × Idx := (c.copy, c.label)

/-- The current copy, once it has started. -/
def State.currentOwner (s : State) : Option (Nat × Idx) :=
  if s.lcu.started then s.lcu.printing.map Context.owner else none

/-- R87: the repeat image for a run of this copy and label, or a blank row. -/
def Rsu.repeatFor (r : Rsu) (blank : Dots) (copy : Nat) (label : Idx) : Dots :=
  match r.repeatImage with
  | some i => if i.copy = copy ∧ i.label = label then i.image else blank
  | none => blank

/-- R87: the row the head of the stream gives, with the supply after it; none while the head slot is
PENDING (R88). -/
def Rsu.headRow (r : Rsu) (blank : Dots) : Option (Dots × Rsu) :=
  match r.buffer with
  | [] => some (blank, r)
  | .row _ _ c l _ image :: rest =>
    image.map fun i =>
      (i, { r with buffer := rest, repeatImage := some { image := i, copy := c, label := l } })
  | .run isRepeat n c l :: rest =>
    let left := if n ≤ 1 then rest else .run isRepeat (n - 1) c l :: rest
    some (if isRepeat then r.repeatFor blank c l else blank, { r with buffer := left })
  | .endMark .. :: _ => some (blank, r)

/-! ## Copy end (R89) and flushes (R93, R94) -/

/-- R67, R89: the END slot of the copy is at the head, so every row has been delivered. -/
def Rsu.atEnd (r : Rsu) (copy : Nat) (label : Idx) : Bool :=
  match r.buffer with
  | .endMark c l :: _ => c == copy && l == label
  | _ => false

/-- R89: the elements of the ended copy leave the stream. The discard mark is set when its COPY_END is
still to arrive (log 17). -/
def Rsu.endCopy (r : Rsu) (copy : Nat) (label : Idx) : Rsu :=
  let mine (e : Element) : Bool := e.copy == copy && e.label == label
  let endSeen := r.stream.any fun e => mine e && e.isEnd
  { r with
    buffer := r.buffer.filter (fun x => !mine x.element)
    queue := r.queue.filter (fun x => !mine x.element)
    repeatImage := none
    discard := if endSeen then r.discard else some (label, copy)
    waiting := false }

/-- R93: the full flush. -/
def Rsu.flushed : Rsu := Rsu.reset

/-- R94: the label flush. -/
def Rsu.flushLabel (r : Rsu) (label : Idx) : Rsu :=
  { r with
    buffer := r.buffer.filter (fun x => x.label != label)
    queue := r.queue.filter (fun x => x.label != label)
    repeatImage := none
    discard := if r.discard.any (fun m => m.1 == label) then none else r.discard
    filling := true
    waiting := false }

/-! ## The readiness horizon (R90, R91) -/

/-- A copy of the stream: its lines, whether its COPY_END is in the stream, its label. -/
structure CopyRun where
  lines : Nat
  closed : Bool
  label : Idx
  deriving DecidableEq, Repr

/-- R90: the stream as a run of copies; `open_` is the copy being gathered. -/
def copyRuns (open_ : Option CopyRun) : List Element → List CopyRun
  | [] => open_.toList
  | e :: rest =>
    let soFar := (open_.map (fun r => r.lines)).getD 0
    let run : CopyRun := { lines := soFar + e.lines, closed := e.isEnd, label := e.label }
    if e.isEnd then run :: copyRuns none rest else copyRuns (some run) rest

/-- The length of a label, from the context that holds it (R68). -/
def State.lengthOf (s : State) (label : Idx) : Nat :=
  match s.lcu.printing with
  | some c => if c.label = label then c.length else (s.lcu.staged.map (fun d => d.length)).getD 0
  | none => (s.lcu.staged.map (fun d => d.length)).getD 0

/-- R91: S − guard length, 0 where that is 0 or less. -/
def Settings.senseAhead (c : Settings) : Nat := c.sensorDistance - c.guardLength

/-- R68, R90, R91: the end of a copy whose lines ahead begin at `start`: on gapped media the next queued
TOF, on continuous media its label's length past its TOF; unknown when the start is. A copy that has started
has moved past its TOF, so that its remaining length is what counts. -/
def copyEndOf (s : State) (start tof : Option Pos) (tofs : List Pos) (label : Idx) : Option Pos :=
  match start with
  | none => none
  | some _ =>
    if s.gapped then tofs.head? else tof.map fun p => p + BitVec.ofNat 32 (s.lengthOf label)

/-- The lines from `start` to `fin`. -/
def spanOf (start : Option Pos) (fin : Pos) : Nat :=
  match start with
  | some p => linesAhead fin p
  | none => 0

/-- R90, R91: the running sum over the copies; the first of the list starts at `start` and has its TOF at
`tof`. -/
def horizonSum (s : State) (start tof : Option Pos) (tofs : List Pos) (sum : Nat) : List CopyRun → Nat
  | [] => sum
  | r :: rest =>
    match r.closed, copyEndOf s start tof tofs r.label with
    | true, some e => horizonSum s (some e) (some e) tofs.tail (sum + spanOf start e) rest
    | true, none =>
      let lines := sum + r.lines
      horizonSum s none none tofs.tail
        (if s.gapped && start.isSome then max lines s.cfg.senseAhead else lines) rest
    | false, some e => sum + min r.lines (spanOf start e)
    | false, none => sum + r.lines

/-- R90: where the first copy starts: the print line once it has started, its TOF before. -/
def State.firstStart (s : State) : Option Pos :=
  if s.lcu.started then some s.mtu.position else s.lcu.copyTof

/-- R90: the readiness horizon, saturating at 65535. -/
def horizon (s : State) : Nat :=
  min 65535 (horizonSum s s.firstStart s.lcu.copyTof (s.msu.queue.map (fun e => e.tof)) 0
    (copyRuns none s.rsu.stream))

/-- R65, R70, R71: the horizon reaches `rows`, or is at least 1 while the last copy in the stream has
its COPY_END there. -/
def horizonReady (s : State) (rows : Nat) : Bool :=
  decide (rows ≤ horizon s) || (decide (1 ≤ horizon s) && s.rsu.lastClosed)

end Sys2Proof.Machine
end

