-- ==== Sys2Proof/Machine/Energy.lean ====
section
/-! DEFINITION. Strobe energy: the temperature band, durations, classes, slices and line records, the
history shift and the forecast (R98 to R117). -/

namespace Sys2Proof.Machine

/-- R100: the temperature band of θ. -/
def bandOf (theta : Int) : Nat := (max 0 (min 15 ((theta + 20) / 8))).toNat

/-- R101: the base duration. -/
def baseDuration (c : Settings) (band : Nat) (darkness : Int) : Nat :=
  min (c.eRef * (c.factors[band]?.getD 0) * (32 + darkness).toNat / 4096) c.tMax

/-- R104: the duration of a class. -/
def classDuration (c : Settings) (tBase : Nat) : Nat → Nat
  | 0 => tBase
  | 1 => tBase * c.f1 / 128
  | 2 => tBase * c.f2 / 128
  | _ => tBase * c.f3 / 128

/-- R103: the class 2 × h1 + h2 of each on-dot; an off-dot has none. Dots past a history row's end count
as not fired. -/
def classify : Dots → Dots → Dots → List (Option Nat)
  | [], _, _ => []
  | on :: row, h1, h2 =>
    (if on then some (2 * (h1.headD false).toNat + (h2.headD false).toNat) else none)
      :: classify row h1.tail h2.tail

/-- Split a list into `g` runs of `n`. -/
def chunks {α : Type} (n : Nat) : Nat → List α → List (List α)
  | 0, _ => []
  | g + 1, l => l.take n :: chunks n g (l.drop n)

/-- Insert into a strictly rising list, keeping each value once. -/
def insertValue (v : Nat) (vs : List Nat) : List Nat :=
  vs.filter (fun w => decide (w < v)) ++ v :: vs.filter (fun w => decide (v < w))

/-- R105: the distinct non-zero durations of the present classes, ascending. -/
def sliceValues (classes : List (Option Nat)) (dur : Nat → Nat) : List Nat :=
  [0, 1, 2, 3].foldl
    (fun vs c => if classes.contains (some c) ∧ dur c ≠ 0 then insertValue (dur c) vs else vs) []

/-- The dots whose class lasts at least `v`. -/
def firingDots (classes : List (Option Nat)) (dur : Nat → Nat) (v : Nat) : Dots :=
  classes.map fun c => match c with
    | some k => decide (v ≤ dur k)
    | none => false

/-- The firing dots of each strobe group. -/
def groupCounts (g : Geometry) (dots : Dots) : List Nat :=
  (chunks g.groupDots g.groups dots).map fun grp => grp.countP id

/-- R105: the slices of the values above `prev`. -/
def slicesFrom (g : Geometry) (classes : List (Option Nat)) (dur : Nat → Nat) (prev : Nat) :
    List Nat → List Slice
  | [] => []
  | v :: vs =>
    let dots := firingDots classes dur v
    { duration := v - prev, dots := dots, counts := groupCounts g dots }
      :: slicesFrom g classes dur v vs

/-- R103: the on-dots of each class in each strobe group. -/
def classCountsOf (g : Geometry) (classes : List (Option Nat)) : List (List Nat) :=
  (chunks g.groupDots g.groups classes).map fun grp =>
    [0, 1, 2, 3].map fun c => grp.countP (fun x => x == some c)

/-- R100 to R106: the line record of a row under two history rows, a band and a darkness. -/
def lineRecord (g : Geometry) (c : Settings) (band : Nat) (darkness : Int) (h1 h2 row : Dots)
    (owner : Option (Nat × Idx)) : LineRecord :=
  let dur := classDuration c (baseDuration c band darkness)
  let classes := classify row h1 h2
  { owner := owner
    slices := slicesFrom g classes dur 0 (sliceValues classes dur)
    classCounts := classCountsOf g classes
    fired := firingDots classes dur 1 }

/-- R107: the record of a line that carries no copy. -/
def blankRecord (g : Geometry) : LineRecord :=
  { owner := none, slices := [], classCounts := List.replicate g.groups [0, 0, 0, 0],
    fired := g.blankRow }

/-- R102: the darkness of the label in the PRINTING context. -/
def State.darkness (s : State) : Int := (s.lcu.printing.map (fun c => c.darkness)).getD 0

/-- R99: the record of a delivered line. -/
def recordOf (s : State) (line : Line) : LineRecord :=
  match line.owner with
  | some o =>
    lineRecord s.geo s.cfg s.seu.band s.darkness s.seu.h1 s.seu.h2 line.dots (some o)
  | none => blankRecord s.geo

/-- R99, R108: the unit takes a line: its record, then the history shift. -/
def takeLine (line : Line) (s : State) : State :=
  let rec_ := recordOf s line
  { s with seu := { s.seu with record := rec_, h2 := s.seu.h1, h1 := rec_.fired } }

/-- R109 to R111: clear both history rows. -/
def clearHistory (s : State) : State :=
  { s with seu.h1 := s.geo.blankRow, seu.h2 := s.geo.blankRow }

/-- R116: the engine states in which the forecast reads the stream. HOLDING(PAUSE) is one, also where a seek
or a calibration comes before the copy: the model's choice (log 53). -/
def Engine.forecasts : Engine → Bool
  | .printing => true
  | .arming => true
  | .stalled => true
  | .holding _ => true
  | _ => false

/-- R116: the pending row has every dot on. -/
def pendingRow (g : Geometry) : Dots := List.replicate g.dots true

/-- R116: the record the next line is expected to have. A label waiting in HOLDING(PAUSE) is given the stream's
row, whatever line comes first (log 53). -/
def forecastOf (s : State) : LineRecord :=
  if s.settings.isSome && s.lcu.engine.forecasts && s.lcu.printing.isSome then
    let row := match s.rsu.headRow s.geo.blankRow with
      | some (dots, _) => dots
      | none => pendingRow s.geo
    lineRecord s.geo s.cfg s.seu.band s.darkness s.seu.h1 s.seu.h2 row none
  else LineRecord.empty

end Sys2Proof.Machine
end

