-- ==== Sys2Proof/Machine/Head.lean ====
section
/-! DEFINITION. Head drive: burst packing, line time, the start of a line, latching, bursts and the cut
(R118 to R131). -/

namespace Sys2Proof.Machine

/-- R122: pack groups with firing dots into bursts of at most `limit` dots; `open_` is the open burst
and `n` the number of the first group of the list. -/
def packBursts (limit : Nat) (open_ : Option Burst) (n : Nat) : List Nat → List Burst
  | [] => open_.toList
  | x :: rest =>
    if x = 0 then packBursts limit open_ (n + 1) rest
    else match open_ with
      | none => packBursts limit (some { groups := [n], dots := x }) (n + 1) rest
      | some b =>
        if b.dots + x ≤ limit then
          packBursts limit (some { groups := b.groups ++ [n], dots := b.dots + x }) (n + 1) rest
        else b :: packBursts limit (some { groups := [n], dots := x }) (n + 1) rest

/-- R122: the bursts of a slice. -/
def Slice.bursts (limit : Nat) (x : Slice) : List Burst := packBursts limit none 0 x.counts

/-- R123: the time a slice takes to fire. -/
def Slice.fireTime (limit tGap : Nat) (x : Slice) : Nat :=
  (x.bursts limit).length * (x.duration + tGap)

/-- R124: the firing of the slices, each but the last no shorter than the shift of the next. -/
def fireTotal (shift : Nat) : List Nat → Nat
  | [] => 0
  | [f] => f
  | f :: fs => max f shift + fireTotal shift fs

/-- R124, R128: the line time of a record; 0 for a blank one. -/
def LineRecord.time (r : LineRecord) (dots limit tGap : Nat) : Nat :=
  if r.slices.isEmpty then 0
  else dots / 2 + fireTotal (dots / 2) (r.slices.map (Slice.fireTime limit tGap))

/-- R117, R128: recompute the forecast and the forecast line time. -/
def refreshForecast (s : State) : State :=
  let f := forecastOf s
  { s with seu.forecast := f, hdu.forecastTime := f.time s.geo.dots s.cfg.dotLimit s.cfg.tGap }

/-- R120, R126: the conditions of firing. -/
def firingAllowed (s : State) : Bool := s.htu.supply == .on && !s.msu.headOpen

/-- R120: the unit takes the record of a line it awaits. A record that arrives after a cut is not
fired (R129). -/
def takeRecord (s : State) : State :=
  let r := s.seu.record
  if s.hdu.state = .awaiting then
    if r.slices.isEmpty || !firingAllowed s then { s with hdu.state := .idle, hdu.line := none }
    else
      { s with hdu := { s.hdu with
          state := .active, line := some r, bursts := r.slices.map (Slice.bursts s.cfg.dotLimit),
          tGap := s.cfg.tGap, shift := .shifting 1 0, firing := none } }
  else s

/-- The strobe lines of a set of groups. -/
def strobesFor (groups : List Nat) : List Bool := (List.range 8).map fun n => groups.contains n

/-- Slice `n` of the line in progress, counted from 1. -/
def Hdu.slice (h : Hdu) (n : Nat) : Option Slice := h.line.bind fun r => r.slices[n - 1]?

/-- Burst `b` of slice `n`. -/
def Hdu.burst (h : Hdu) (n b : Nat) : Option Burst := (h.bursts[n - 1]?).bind fun l => l[b]?

/-- R123: begin burst `b` of slice `n` from the latch. -/
def Hdu.beginBurst (h : Hdu) (n b : Nat) : Hdu :=
  match h.slice n, h.burst n b with
  | some x, some u =>
    { h with
      firing := some { slice := n, burst := b, count := 0, compareA := x.duration,
                       compareB := x.duration + h.tGap, active := true }
      strobes := strobesFor u.groups }
  | _, _ => h

/-- R75, R125: the context of a label one of whose lines has fired. -/
def Context.fired (c : Context) : Context :=
  { c with strobed := true, reprintMark := false, permission := c.permission && !c.reprintMark }

/-- R125: the first burst of the line is reported: the total rises, the copy strobed mark of the line's
label context is set, whichever copy of the label is current (log 16), the dwell count starts again. -/
def reportFired (s : State) : State :=
  let own : Option (Nat × Idx) := s.hdu.line.bind fun r => r.owner
  let mark (c : Context) : Context := if own.any (fun o => o.2 == c.label) then c.fired else c
  clearDwell { s.updatePrinting mark with hdu.fired := s.hdu.fired + 1 }

/-- R121: the order in which HDAT carries a dot set, one dot for each pulse of HCLK: dot D−1 first, dot 0
last. -/
def serialOrder (set : Dots) : Dots := set.reverse

/-- R121: the dots of the slice being shifted that HDAT has still to carry, next first. -/
def Hdu.hdat (h : Hdu) : Dots :=
  match h.shift with
  | .shifting n done => (((h.slice n).map fun x => serialOrder x.dots).getD []).drop done
  | _ => []

/-- R121: one pulse of HCLK. The dot on HDAT enters the head at the stage of dot 0, and each dot moves on by
one stage, out of the last of `stages`. -/
def clockIn (stages : Nat) (register : Dots) (dot : Bool) : Dots := (dot :: register).take stages

/-- R121: at most `pulses` pulses of HCLK into a head of `stages` dots. -/
def Hdu.shiftIn (stages pulses : Nat) (h : Hdu) : Hdu :=
  { h with register := (h.hdat.take pulses).foldl (clockIn stages) h.register }

/-- R121: the shift of the rest of the set. -/
def shiftRest (s : State) : State := { s with hdu := s.hdu.shiftIn s.geo.dots s.hdu.hdat.length }

/-- R121: latch slice `n`, begin its first burst and the shift of the next slice. -/
def latchSlice (n : Nat) (s : State) : State :=
  match s.hdu.slice n with
  | none => s
  | some x =>
    let next : Shift := if (s.hdu.slice (n + 1)).isSome then .shifting (n + 1) 0 else .idle
    let s1 : State :=
      { s with hdu := ({ s.hdu with latch := some x.dots, shift := next }).beginBurst n 0 }
    if n = 1 then reportFired s1 else s1

/-- R129: end the line in progress at once. -/
def Hdu.cut (h : Hdu) : Hdu :=
  { h with state := .idle, line := none, bursts := [], shift := .idle, firing := none,
           strobes := strobesOff }

/-- R129: the cut. -/
def cutLine (s : State) : State := { s with hdu := s.hdu.cut }

/-- R99 for a line whose waiting delivery a flush or a copy end has ended: it is taken as a blank line
that carries no copy (R88; log 18). -/
def endWait (s : State) : State :=
  if s.rsu.waiting then
    takeRecord (takeLine { dots := s.geo.blankRow, owner := none } { s with rsu.waiting := false })
  else s

/-- R93: the full flush of the stream. -/
def flushStream (s : State) : State := { endWait s with rsu := Rsu.flushed }

/-- R94: the label flush. -/
def flushLabel (label : Idx) (s : State) : State :=
  let s1 := endWait s
  { s1 with rsu := s1.rsu.flushLabel label }

/-- R87, R88: deliver the line of a forward step, through to the head; a PENDING head slot makes the
delivery wait. -/
def deliverLine (s : State) : State :=
  match s.currentOwner with
  | none => takeRecord (takeLine { dots := s.geo.blankRow, owner := none } s)
  | some o =>
    match s.rsu.headRow s.geo.blankRow with
    | none => { s with rsu.waiting := true }
    | some (dots, rsu) =>
      fillBuffer (takeRecord (takeLine { dots := dots, owner := some o }
        { s with rsu := { rsu with waiting := false } }))

end Sys2Proof.Machine
end

