-- ==== Sys2Proof/Machine/HeadSupply.lean ====
section
/-! DEFINITION. Head supply and temperature: the supply sequence, thermistor conversion and the thermal
grades (R167 to R174). -/

namespace Sys2Proof.Machine

/-- R73, R170, R175: the supply goes OFF with both timers stopped. -/
def Htu.off (h : Htu) : Htu := { h with supply := .off, settle := none, dwell := none }

/-- R126: the supply leaves ON; a line that is ACTIVE is cut. -/
def supplyOff (s : State) : State :=
  let s1 : State := { s with htu := s.htu.off }
  if s.hdu.state = .active then cutLine s1 else s1

/-- R168: the request of an entry into ARMING. -/
def requestSupply (s : State) : State :=
  if s.htu.supply = .off then
    { s with htu := { s.htu with supply := .settling,
                                 settle := some { time := s.cfg.settleTime, elapsed := 0 } } }
  else s

/-- R171: request a conversion. -/
def requestConversion (s : State) : State :=
  { s with htu.conversions := s.htu.conversions + 1 }

/-- R171: the temperature of a code by the thermistor table. -/
def thermistorTheta (table : List Int) (code : Nat) : Int :=
  let k := code / 16
  let t0 := table[k]?.getD 0
  let t1 := table[k + 1]?.getD 0
  t0 + (t1 - t0) * (code % 16 : Nat) / 16

def Grade.rank : Grade → Nat
  | .normal => 0
  | .slow => 1
  | .hold => 2
  | .trip => 3

/-- R173: the threshold of a grade above NORMAL. -/
def Grade.threshold (c : Settings) : Grade → Int
  | .normal => -128
  | .slow => c.thetaSlow
  | .hold => c.thetaHold
  | .trip => c.thetaTrip

/-- R173: the highest grade whose threshold θ reaches. -/
def gradeReached (c : Settings) (theta : Int) : Grade :=
  if c.thetaTrip ≤ theta then .trip
  else if c.thetaHold ≤ theta then .hold
  else if c.thetaSlow ≤ theta then .slow
  else .normal

def Grade.below : Grade → Grade
  | .trip => .hold
  | .hold => .slow
  | _ => .normal

/-- R173: one fall, when θ is at or below the grade's threshold − 5. -/
def gradeFall (c : Settings) (theta : Int) (g : Grade) : Grade :=
  if g ≠ .normal ∧ theta ≤ g.threshold c - 5 then g.below else g

/-- R173: the grade after a valid sample: a rise, else falls repeated at each lower grade. A fall that
is not made leaves the grade, so three tests reach NORMAL from TRIP. -/
def nextGrade (c : Settings) (theta : Int) (g : Grade) : Grade :=
  if g.rank < (gradeReached c theta).rank then gradeReached c theta
  else gradeFall c theta (gradeFall c theta (gradeFall c theta g))

/-- R65, R71: the grade is below HOLD. -/
def Grade.belowHold (g : Grade) : Bool := decide (g.rank < 2)

/-- R171, R100: a valid sample sets θ and the sensor condition and recomputes the band. -/
def takeTheta (theta : Int) (s : State) : State :=
  { s with htu.theta := theta, htu.sensorValid := true, seu.band := bandOf theta }

end Sys2Proof.Machine
end

