-- ==== Sys2Proof/Machine/Motion.lean ====
section
/-! DEFINITION. Paper motion: planning a line, the motor's registers at a step, the rest and the
emergency stop (R132 to R148). -/

namespace Sys2Proof.Machine

/-- The ramp table in use. -/
def Mtu.ramps (m : Mtu) : RampTable := m.table.getD { periods := [], slowCap := 0 }

/-- R132: ramp count − 1. -/
def RampTable.top (t : RampTable) : Nat := t.periods.length - 1

/-- The period of entry `j`. -/
def RampTable.period (t : RampTable) (j : Nat) : Nat := t.periods[j]?.getD 0

/-- R140: the highest entry whose period is at least the forecast line time; 0 when none is. The table
is non-increasing, so the entries that are long enough come first. -/
def RampTable.timeCap (t : RampTable) (time : Nat) : Nat :=
  (t.periods.takeWhile (fun p => decide (time ≤ p))).length - 1

/-- R138: the amount ahead of the planning source. -/
def amountAhead (s : State) : Nat :=
  match s.mtu.source with
  | .horizon => horizon s
  | .distance (.at p) => min 65535 (linesAhead p s.mtu.position)
  | .distance .renewed => max 1 s.cfg.senseAhead
  | .distance .unbounded => 65535
  | .decelerate => 0

/-- R138: the label cap. -/
def labelCap (s : State) : Nat :=
  if s.mtu.source = .horizon then
    min ((s.lcu.printing.map (fun c => c.speedCap)).getD 0) s.mtu.ramps.top
  else s.mtu.ramps.top

/-- R139: the thermal cap. -/
def thermalCap (s : State) : Nat :=
  if s.htu.grade = .slow ∨ s.htu.grade = .hold ∨ s.htu.grade = .trip then s.mtu.ramps.slowCap
  else s.mtu.ramps.top

/-- R139: the smallest of the five caps for an amount ahead `a`. -/
def capOf (s : State) (a : Nat) : Nat :=
  min (labelCap s) (min (thermalCap s) (min (a - 1) (min (s.mtu.ramps.timeCap s.hdu.forecastTime)
    (if s.mtu.limitZero then 0 else s.mtu.ramps.top))))

/-- R139: the next index from index `i`. -/
def nextIndex (i cap : Nat) : Nat := max (i - 1) (min (i + 1) cap)

/-- What a planning point decides. -/
inductive Plan where
  | line (index : Nat)
  | stop (cause : RestCause)
  deriving DecidableEq, Repr

/-- R139, R141, R143: plan the next line. -/
def planLine (s : State) : Plan :=
  let i := s.mtu.ramp
  match s.mtu.source with
  | .decelerate => if i = 0 then .stop .decelerated else .line (i - 1)
  | src =>
    let a := amountAhead s
    if 1 ≤ a then .line (nextIndex i (capOf s a))
    else if 0 < i then .line (i - 1)
    else if s.mtu.tailRunOn then .line 0
    else .stop (if src = .horizon then .horizonExhausted else .targetReached)

/-- R67, R141: the tail run-on: a copy is PRINTING on gapped media with every row delivered and its end
TOF not yet queued. -/
def tailRunOnOf (s : State) : Bool :=
  s.lcu.engine == .printing && s.gapped && s.msu.queue.isEmpty &&
    (match s.currentOwner with
     | some (copy, label) => s.rsu.atEnd copy label
     | none => false)

/-- R141: the Label Control Unit sets and clears the tail run-on. -/
def updateTailRunOn (s : State) : State := { s with mtu.tailRunOn := tailRunOnOf s }

/-- R134, R144: the table at rest: a pending table is installed. -/
def Mtu.tableAtRest (m : Mtu) : Option RampTable :=
  match m.pendingTable with
  | some t => some t
  | none => m.table

/-- R144: the registers at rest. A deceleration order is cleared, and HORIZON stands in its place
(log 48). -/
def Mtu.atRest (m : Mtu) : Mtu :=
  { m with motion := .rest, dirForward := true, ramp := 0, timer := none, latch := none,
           source := if m.source = .decelerate then .horizon else m.source,
           limitZero := false, tailRunOn := false, backfeed := 0, table := m.tableAtRest,
           pendingTable := none, stopping := none }

/-- R144: the paper reaches rest: the rest timer starts and sensing stops. What the Label Control Unit
makes of the rest is its own. -/
def motionRest (s : State) : State :=
  { s with mtu := s.mtu.atRest, seu.restTimer := some 0, msu.sensing := none }

/-- R145: an emergency stop of the paper. -/
def emergencyStop (s : State) : State := motionRest s

/-- R132: the paper is moving. -/
def State.moving (s : State) : Bool := s.mtu.motion != .rest

/-- R143: a deceleration order. -/
def orderDeceleration (s : State) : State := { s with mtu.source := .decelerate }

/-- R120: a line starts at the Head Drive Unit. It starts only in IDLE, so nothing of a line before is
left. -/
def Hdu.startLine (h : Hdu) : Hdu := { h.cut with state := .awaiting, clock := 0 }

/-- R135, R150: the registers of a forward step with its index and period: the line timer runs, the
head awaits the line, the rest timer stops, the line is to be sensed. -/
def beginLine (index period : Nat) (s : State) : State :=
  { s with
    mtu := { s.mtu with motion := .forward, dirForward := true, ramp := index,
                        timer := some { period := period, elapsed := 0 }, latch := none,
                        stopping := none }
    hdu := s.hdu.startLine
    seu.restTimer := none
    msu.sensing := some (s.mtu.position, period) }

/-- R135: the media position names the next line. -/
def advancePosition (s : State) : State := { s with mtu.position := s.mtu.position + 1 }

end Sys2Proof.Machine
end

