-- ==== Sys2Proof/Machine/Media.lean ====
section
/-! DEFINITION. Media sensing: polarity, level runs, the tracker, the edge queue, registration,
calibration runs and the head-open switch (R149 to R166). -/

namespace Sys2Proof.Machine

/-! ## Registration (R157) -/

/-- R157: the queue is cleared, the current TOF becomes absent, registration becomes LOST. -/
def Msu.lose (m : Msu) : Msu := { m with queue := [], passed := [], valid := false }

/-- R157: the tracker goes to START with no open gap and no reference edge. -/
def Msu.startTracker (m : Msu) : Msu :=
  { m with phase := .start, openGap := none, refEdge := none }

/-- R157: a loss with the tracker at START and its run emptied. -/
def Msu.loseAndEmpty (m : Msu) : Msu := { m.lose.startTracker with run := none }

/-- R157: REG_LOST with an argument, when registration was VALID before. -/
def raiseRegLost (was : Bool) (arg : Nat) (s : State) : State :=
  if was then raise .media Code.regLost (argOf arg) s else s

/-- R157: the losses at paper out, a settings change and a calibration start (arguments 1 to 3). -/
def loseRegistration (arg : Nat) (s : State) : State :=
  raiseRegLost s.msu.valid arg { s with msu := s.msu.loseAndEmpty }

/-! ## Polarity (R151) -/

/-- R151: what a polarity default gives. -/
def PolarityDefault.polarity : PolarityDefault → Polarity
  | .auto => .unknown
  | .gapHigh => .gapHigh
  | .gapLow => .gapLow

/-- R151: the polarity after settings are put into effect. -/
def Msu.defaultPolarity (m : Msu) (d : PolarityDefault) : Polarity :=
  if m.calibrated then m.polarity else d.polarity

/-- R151: whether a line of this raw level is GAP; none while the polarity is UNKNOWN. -/
def isGap (p : Polarity) (high : Bool) : Option Bool :=
  match p with
  | .unknown => none
  | .gapHigh => some high
  | .gapLow => some (!high)

/-! ## Level runs and the tracker (R150, R152, R153) -/

/-- R150: the level at least two of three samples show. -/
def majority (a b c : Bool) : Bool := (a && b) || (a && c) || (b && c)

/-- R152: the level run after a line of raw level `high` at position `p`. -/
def nextRun (run : Option LevelRun) (high : Bool) (p : Pos) : LevelRun :=
  match run with
  | some r =>
    if r.high = high then { r with length := satSucc r.length }
    else { high := high, first := p, length := 1, reported := false }
  | none => { high := high, first := p, length := 1, reported := false }

/-- R152: the pitch of an exact gap with this leading edge. -/
def gapPitch (ref : Option Pos) (edge : Pos) : Nat :=
  match ref with
  | none => 0
  | some e => min 65535 (linesAhead edge e)

/-- R152: the tracker at the confirmation of a run of GAP (`true`) or BODY whose first line is `q`. -/
def Msu.confirm (m : Msu) (gap : Bool) (q : Pos) : Msu :=
  match m.phase, gap with
  | .start, true =>
    { m with phase := .gap, openGap := some { edge := q, exact := false, pitch := 0 } }
  | .start, false => { m with phase := .body }
  | .body, true =>
    { m with phase := .gap, refEdge := some q,
             openGap := some { edge := q, exact := true, pitch := gapPitch m.refEdge q } }
  | .gap, false => { m with phase := .body, openGap := none }
  | _, _ => m

/-- R153: the entry a confirmed body with first line `q` forms in phase GAP. -/
def Msu.entryAt (m : Msu) (c : Settings) (gap : Bool) (q : Pos) : Option Edge :=
  match m.phase, gap, m.openGap with
  | .gap, false, some g =>
    some { tof := q + BitVec.ofNat 32 (c.sensorDistance + c.tofAdjust),
           gap := min 65535 (linesAhead q g.edge), pitch := g.pitch }
  | _, _, _ => none

/-! ## The edge queue (R154 to R156) -/

/-- R154: the difference of two pitches. -/
def pitchDiff (a b : Nat) : Nat := (a - b) + (b - a)

/-- R154: a PITCH_MISMATCH is due for an entry that joins. -/
def pitchMismatch (s : State) (e : Edge) : Bool :=
  s.msu.cal.isNone && decide (0 < e.pitch) && decide (0 < s.msu.calPitch)
    && decide (s.cfg.pitchTolerance < pitchDiff e.pitch s.msu.calPitch)

/-- R162: a calibration run after an entry has joined: the first entry with a pitch completes the
measurement. -/
def CalRun.measure (r : CalRun) (e : Edge) : CalRun :=
  if r.phase = .measuring ∧ 0 < e.pitch then { r with phase := .finishing, measured := some e }
  else r

/-- R162: the run enters FINISHING with this entry, so the Motion Unit gets its target. -/
def measuresNow (m : Msu) (e : Edge) : Bool :=
  match m.cal with
  | some r => r.phase == .measuring && decide (0 < e.pitch)
  | none => false

/-- R154: an entry joins the tail of the edge queue. -/
def joinEdge (e : Edge) (s : State) : State :=
  let s1 : State :=
    { s with msu := { s.msu with queue := s.msu.queue ++ [e], lastPitch := e.pitch, valid := true,
                                 cal := s.msu.cal.map (fun r => r.measure e) } }
  let s2 : State :=
    if measuresNow s.msu e then
      let target := e.tof + BitVec.ofNat 32 s.cfg.presentOffset
      { s1 with mtu.source := .distance (.at target) }
    else s1
  if pitchMismatch s e then raise .media Code.pitchMismatch (argOf e.pitch) s2 else s2

/-- R156: the edge overflow at the Media Sensing Unit; the tracker keeps its phase and reference edge. -/
def overflowEdges (e : Edge) (s : State) : State :=
  raise .media Code.edgeOverflow (argOf e.tof.toNat) { s with msu := s.msu.lose }

/-- R155: the print line reaches the head entry of the queue. -/
def reachTof (s : State) : State :=
  match s.msu.queue with
  | [] => s
  | e :: rest =>
    if e.tof = s.mtu.position then
      { s with msu := { s.msu with queue := rest,
                                   passed := (e :: s.msu.passed).take Config.edgeSize } }
    else s

/-- R155: a backward step from the current TOF returns its entry to the head of the queue; `before` is
the media position before the step. -/
def returnTof (before : Pos) (s : State) : State :=
  match s.msu.passed with
  | [] => s
  | e :: rest =>
    if e.tof = before then
      if s.msu.queue.length < Config.edgeSize then
        { s with msu := { s.msu with queue := e :: s.msu.queue, passed := rest } }
      else overflowEdges e s
    else s

/-- The first queued TOF ahead of the print line (R66). -/
def firstTofAhead (s : State) : Option Pos :=
  (s.msu.queue.find? (fun e => decide (1 ≤ ahead e.tof s.mtu.position))).map (fun e => e.tof)

/-! ## Calibration (R161 to R163) -/

/-- R161: a calibration run starts. -/
def startCalibration (s : State) : State :=
  let run : CalRun :=
    { phase := .learning, count := 0, measured := none, savedPolarity := s.msu.polarity,
      savedCalibrated := s.msu.calibrated }
  loseRegistration 3
    { s with msu := { s.msu with polarity := .unknown, senseMark := s.mtu.position,
                                 cal := some run } }

/-- R163: the state effects of a failure or an abandonment. -/
def Msu.dropCalibration (m : Msu) : Msu :=
  match m.cal with
  | none => m
  | some r =>
    { m.loseAndEmpty with polarity := r.savedPolarity, calibrated := r.savedCalibrated, cal := none }

/-- R163: a calibration run is abandoned, with no event. -/
def abandonCalibration (s : State) : State := { s with msu := s.msu.dropCalibration }

/-- R163: the argument of CAL_FAILED. -/
def CalPhase.failArg : CalPhase → Nat
  | .learning => 1
  | _ => 2

/-- R162: the success of a calibration run at rest on its target. -/
def finishCalibration (e : Edge) (s : State) : State :=
  requestRefresh (raise .media Code.calDone (argOf e.pitch)
    { s with msu := { s.msu with calPitch := e.pitch, calGap := e.gap, calibrated := true,
                                 cal := none } })

/-- R161: LEARNING takes a run of twice the guard length as the label body. -/
def Msu.learn (m : Msu) (r : CalRun) (run : LevelRun) (guard : Nat) : Msu :=
  if run.length = 2 * guard then
    { m with run := some run, polarity := if run.high then .gapLow else .gapHigh, phase := .body,
             cal := some { r with phase := .measuring } }
  else { m with run := some run }

/-! ## The head-open switch (R164) -/

/-- R164: the count of agreeing samples after a sample that differs from the state, or, before the
state is first known, after any sample. -/
def Msu.agreeing (m : Msu) (x : Bool) : Nat := if m.lastSample = some x then m.agree + 1 else 1

/-- R164: one sample of the switch; `true` beside the unit when the debounced state changes and an
event is due. The third agreeing sample leaves the count at 0 (log 49). -/
def Msu.sampleSwitch (m : Msu) (x : Bool) : Msu × Bool :=
  if !m.switchKnown then
    if m.agreeing x ≥ 3 then
      ({ m with headOpen := x, switchKnown := true, agree := 0, lastSample := some x }, false)
    else ({ m with agree := m.agreeing x, lastSample := some x }, false)
  else if x = m.headOpen then ({ m with agree := 0, lastSample := some x }, false)
  else if m.agreeing x ≥ 3 then
    ({ m with headOpen := x, agree := 0, lastSample := some x }, true)
  else ({ m with agree := m.agreeing x, lastSample := some x }, false)

/-- R165: what an opening does to the unit while engaged: the level run is kept (log 30). -/
def Msu.opened (m : Msu) (position : Pos) : Msu :=
  { m.lose.startTracker with senseMark := position }

end Sys2Proof.Machine
end

