-- ==== Sys2Proof/Machine/Port.lean ====
section
/-! DEFINITION. The memory port: what a grant does, the arbiter's choice, the vector word and the
status block body (R31 to R34, R177, R180, R185). -/

namespace Sys2Proof.Machine

/-! ## Records the part writes (R185) -/

/-- R177, R185: the vector word formed from the offer standing. -/
def vectorBytes (s : State) : List Byte :=
  match s.asu.offer with
  | none => leBytes 4 7
  | some n =>
    let r := s.asu.records.get n
    leBytes 1 (n.priority + 16 * r.code) ++ leBytes 1 r.count ++ leBytes 2 r.arg.toNat

/-- R185: engine state and reason. -/
def Engine.code : Engine → Nat × Nat
  | .unconfigured => (0, 0)
  | .idle => (1, 0)
  | .arming => (2, 0)
  | .seeking => (3, 0)
  | .printing => (4, 0)
  | .stalled => (5, 0)
  | .holding .pause => (6, 1)
  | .holding .thermal => (6, 2)
  | .presenting .atEnd => (7, 1)
  | .presenting .stop => (7, 2)
  | .feeding => (8, 0)
  | .calibrating .item => (9, 1)
  | .calibrating .arming => (9, 2)
  | .faulted => (10, 0)

def Supply.code : Supply → Nat
  | .off => 0
  | .settling => 1
  | .on => 2

def EngageResult.code : EngageResult → Nat
  | .none => 0
  | .success => 1
  | .refused => 2

/-- R185: bits 0 to 1 the polarity, bit 7 its source. -/
def Msu.polarityByte (m : Msu) : Nat :=
  (match m.polarity with
   | .unknown => 0
   | .gapHigh => 1
   | .gapLow => 2) + (if m.calibrated then 128 else 0)

/-- R180, R185: the first 16 bytes of the body, 104H to 113H. -/
def bodyOwners (s : State) : List Byte :=
  leBytes 1 s.lcu.engine.code.1 ++ leBytes 1 s.lcu.engine.code.2 ++ leBytes 1 s.lcu.faults.byte
    ++ leBytes 1 s.htu.supply.code ++ leBytes 2 s.rrd.producer.toNat ++ leBytes 2 s.rrd.take.toNat
    ++ leBytes 2 s.rrd.walk.toNat ++ leBytes 2 s.rrd.retire.toNat
    ++ leBytes 4 s.mtu.position.toNat

/-- R180, R185: the next 16 bytes, 114H to 123H. -/
def bodyMedia (s : State) : List Byte :=
  leBytes 1 s.bht.free ++ leBytes 1 s.mtu.ramp ++ leBytes 1 s.msu.valid.toNat
    ++ leBytes 1 s.msu.polarityByte ++ leBytes 2 s.msu.calPitch ++ leBytes 2 s.msu.calGap
    ++ leBytes 2 s.msu.lastPitch ++ leBytes 1 s.msu.queue.length ++ leBytes 1 s.htu.grade.rank
    ++ leBytes 1 (BitVec.ofInt 8 s.htu.theta).toNat ++ leBytes 1 s.asu.settingsResult
    ++ leBytes 1 s.asu.engageResult.code ++ leBytes 1 s.asu.offendingField

/-- R185: a field of the PRINTING context, 0 when it is empty. -/
def State.shown (s : State) (f : Context → Nat) : Nat := (s.lcu.printing.map f).getD 0

/-- R180, R185: the last 28 bytes, 124H to 13FH. -/
def bodyCounts (s : State) : List Byte :=
  leBytes 2 (horizon s) ++ leBytes 2 (s.shown fun c => c.tag.toNat)
    ++ leBytes 2 (s.shown fun c => c.copy) ++ leBytes 2 (s.shown fun c => c.good)
    ++ leBytes 2 (s.shown fun c => c.spoiled) ++ leBytes 2 s.lcu.stretches
    ++ leBytes 2 s.lcu.stalls ++ leBytes 2 s.lcu.thermalStops ++ leBytes 4 s.hdu.fired.toNat
    ++ leBytes 2 (s.shown fun c => c.stretches) ++ leBytes 2 (s.shown fun c => c.stalls)
    ++ leBytes 2 (s.shown fun c => c.thermalStops) ++ leBytes 2 0

/-- R180: the 60 bytes of the body, captured as one event. -/
def statusBody (s : State) : List Byte := bodyOwners s ++ bodyMedia s ++ bodyCounts s

/-! ## What a grant does (R31, R34) -/

/-- R61: the format bytes go to the context that holds the label; a label no context holds has them
discarded. -/
def Context.takeFormat (label : Idx) (m : Memory) (c : Context) : Context :=
  if c.label = label then { c with formatData := m.readBytes c.formatAddr.toNat 8 } else c

/-- Perform a transfer at its grant: a read takes memory as it stands, a write alters it. -/
def performTransfer (t : Transfer) (s : State) : State :=
  match t with
  | .geometry k =>
    { s with bpu.reads.geometry :=
        s.bpu.reads.geometry ++ s.mem.readBytes (s.anchor + 0x40 + 16 * k) 16 }
  | .settings k =>
    { s with bpu.reads.settings :=
        s.bpu.reads.settings ++ s.mem.readBytes (s.anchor + 0x200 + 16 * k) 16 }
  | .producer => { s with bpu.reads.producer := s.mem.readBytes (s.anchor + 8) 4 }
  | .format label =>
    { s with lcu.printing := s.lcu.printing.map (Context.takeFormat label s.mem),
             lcu.staged := s.lcu.staged.map (Context.takeFormat label s.mem) }
  | .item =>
    { s with rrd.fetch := s.rrd.fetch.map fun f =>
        { f with data := s.mem.readBytes (s.geo.slotAddr f.index) 16 } }
  | .reread k =>
    { s with rrd.reread := s.rrd.reread.map fun b =>
        b ++ s.mem.readBytes (s.anchor + 0x200 + 16 * k) 16 }
  | .outcome a data => s.store a (leBytes 4 data.toNat)
  | .vector => s.store (s.anchor + 0x10) (vectorBytes s)
  | .statusOdd =>
    let odd := leBytes 4 (s.asu.sequence + 1).toNat
    { s.store (s.anchor + 0x100) odd with asu.capture := some (statusBody s) }
  | .statusBody k =>
    let body := (s.asu.capture.getD []).take Config.bodyBytes
    s.store (s.anchor + 0x104 + 16 * k) ((body.drop (16 * k)).take Config.transferBytes)
  | .statusEven =>
    let even := s.asu.sequence + 2
    let s1 := s.store (s.anchor + 0x100) (leBytes 4 even.toNat)
    { s1 with asu := { s1.asu with sequence := even, capture := none } }

/-! ## The arbiter (R32) -/

/-- R32: a descriptor fetch, class 4. -/
def Transfer.isDescriptor : Transfer → Bool
  | .geometry _ => true
  | .settings _ => true
  | .producer => true
  | .format _ => true
  | .item => true
  | .reread _ => true
  | _ => false

def Transfer.isStatus : Transfer → Bool
  | .statusOdd => true
  | .statusBody _ => true
  | .statusEven => true
  | _ => false

def Transfer.isOutcome : Transfer → Bool
  | .outcome _ _ => true
  | _ => false

def Transfer.isGeometry : Transfer → Bool
  | .geometry _ => true
  | _ => false

def Transfer.isReread : Transfer → Bool
  | .reread _ => true
  | _ => false

def Transfer.isEngageRead : Transfer → Bool
  | .settings _ => true
  | .producer => true
  | _ => false

/-- R32: the next transfer of class 4 or 5: descriptor fetches in the order made, then part writes in
the order made, but a waiting vector write before a status write (log 39). -/
def nextTransfer (w : List Transfer) : Option Transfer :=
  match w.find? Transfer.isDescriptor with
  | some t => some t
  | none =>
    match w.head? with
    | some t => if t.isStatus && w.contains .vector then some .vector else some t
    | none => none

/-- Grant the next transfer of the next row fetch. -/
def grantRow (s : State) : State :=
  { s with rsu.buffer := grantRowIn s.geo s.mem s.rsu.buffer }

/-- R32: grant the port to the next of the part's own transfers, if one waits. A row fetch of either
class comes before classes 4 and 5. -/
def grantNext (s : State) : State :=
  if rowWaits s then grantRow s
  else match nextTransfer s.bpu.waiting with
    | some t => performTransfer t { s with bpu.waiting := s.bpu.waiting.erase t }
    | none => s

/-- Row transfers eight slots can wait for, at most eight each. -/
def rowFuel : Nat := 64

/-- Grant transfers until `done` holds, at most `n` of them. -/
def grantUntil (done : State → Bool) : Nat → State → State
  | 0, s => s
  | n + 1, s => if done s then s else grantUntil done n (grantNext s)

/-- Grants enough to empty the port. -/
def State.portFuel (s : State) : Nat := rowFuel + s.bpu.waiting.length

/-- Grant what the arbiter's order puts before the waiting transfers `p` names, and those (log 5). -/
def grantAll (p : Transfer → Bool) (s : State) : State :=
  grantUntil (fun t => !(t.bpu.waiting.any p)) s.portFuel s

/-- The same, up to the first waiting transfer that `p` names; nothing where none waits. -/
def grantOne (p : Transfer → Bool) (s : State) : State :=
  if s.bpu.waiting.any p then
    grantUntil (fun t => decide (t.bpu.waiting.countP p < s.bpu.waiting.countP p)) s.portFuel s
  else s

/-- R33: urgent row fetches at most `n` transfers long are granted before a processor cycle. -/
def grantUrgent : Nat → State → State
  | 0, s => s
  | n + 1, s => if urgent s && rowWaits s then grantUrgent n (grantRow s) else s

/-- R33: a processor cycle waits for the urgent row fetches (log 5). -/
def serveUrgent (s : State) : State := grantUrgent rowFuel s

end Sys2Proof.Machine
end

