-- ==== Sys2Proof/Machine/Ring.lean ====
section
/-! DEFINITION. The Ring Reader: the producer check, the item table and its retirement, fetching,
parsing, rewinds and cancels (R37 to R60). -/

namespace Sys2Proof.Machine

/-! ## The producer check (R39) -/

/-- R39: the value lies between the take index and N items past the retire index. -/
def producerAccepted (s : State) (v : Idx) : Bool :=
  decide (ringDist s.rrd.take s.rrd.retire ≤ ringDist v s.rrd.retire)
    && decide (ringDist v s.rrd.retire ≤ s.geo.slots)

/-- R39, R41: take a producer value. A value that withdraws the item in flight dooms its fetch
(log 31). -/
def takeProducer (v : Idx) (s : State) : State :=
  if producerAccepted s v then
    let doom (f : ItemFetch) : ItemFetch := if f.index = v then { f with doomed := true } else f
    { s with rrd := { s.rrd with producer := v, fetch := s.rrd.fetch.map doom } }
  else raise .ring Code.producerRefused v s

/-! ## The item table (R40, R54) -/

/-- R54: the entry becomes COMPLETE; a refused item keeps REFUSED. -/
def ItemEntry.finish (r : ItemResult) (e : ItemEntry) : ItemEntry :=
  { e with complete := true, result := some (if e.result = some .refused then .refused else r) }

/-- The entry lies from index `a` to index `b`, both included, measured from the retire index. -/
def inSpan (retire a b : Idx) (e : ItemEntry) : Bool :=
  decide (ringDist a retire ≤ ringDist e.index retire)
    && decide (ringDist e.index retire ≤ ringDist b retire)

/-- R54, R56: the entry of a label's item at its completion; the LABEL entry records the counts. -/
def ItemEntry.finishLabel (label : Idx) (r : ItemResult) (good spoiled : Nat) (e : ItemEntry) :
    ItemEntry :=
  if e.index = label then
    { e.finish r with byte13 := min 255 spoiled, half14 := good }
  else e.finish r

/-- R54: complete the items of a label from its LABEL index to its closing index. -/
def completeLabel (label closing : Idx) (r : ItemResult) (good spoiled : Nat) (s : State) : State :=
  let one (e : ItemEntry) : ItemEntry :=
    if inSpan s.rrd.retire label closing e then e.finishLabel label r good spoiled else e
  { s with rrd.table := s.rrd.table.map one }

/-- R49, R53: complete one item. -/
def completeItem (i : Idx) (r : ItemResult) (byte13 : Nat) (s : State) : State :=
  let one (e : ItemEntry) : ItemEntry :=
    if e.index = i then { e.finish r with byte13 := byte13 } else e
  { s with rrd.table := s.rrd.table.map one }

/-! ## Retirement (R55, R56) -/

/-- R56: the result values. -/
def ItemResult.code : ItemResult → Nat
  | .done => 1
  | .refused => 2
  | .cancelled => 3
  | .failed => 4

/-- R56: bytes 12 to 15; `t` is the table after the item's own release and `band` the band it
released. -/
def outcomeWord (t : Bht) (band : Option Nat) (e : ItemEntry) : BitVec 32 :=
  let r := (e.result.map ItemResult.code).getD 0
  let (b13, h14) :=
    if e.result = some .refused then (e.reason, 0)
    else match band with
      | some b => (t.holdOf b, (t.tagOf b).toNat)
      | none => (e.byte13, e.half14)
  BitVec.ofNat 32 (r + 256 * b13 + 65536 * h14)

/-- R55: the LABEL event of an item whose outcome is written. A refused item raises none (03 §3.8:
the refused FEED 13 retires without FEED_DONE; log 40). The tag of LABEL_RETIRED is that of the item's first walk,
kept in its entry, also where a late write under PASS and a re-walk have opened the label again with another
(R30, R40; log 55). -/
def raiseRetired (e : ItemEntry) (s : State) : State :=
  if e.result = some .refused then s
  else match e.kind with
    | .label => raise .label Code.labelRetired e.tag s
    | .feed => raise .label Code.feedDone e.index s
    | .settings => raise .label Code.settingsTaken e.index s
    | _ => s

/-- R55: retire one item: its hold is released, its outcome queued and its event raised. -/
def retireItem (e : ItemEntry) (s : State) : State :=
  let band := s.bht.releasedBand e.index
  let s1 : State := { s with bht := s.bht.releaseItem e.index }
  if e.silent then s1
  else
    raiseRetired e
      (s1.request (.outcome (s1.geo.slotAddr e.index + 12) (outcomeWord s1.bht band e)))

/-- Retire a run of items in ring order. -/
def retireRun : List ItemEntry → State → State
  | [], s => s
  | e :: rest, s => retireRun rest (retireItem e s)

/-- R55: the end of one advance to retire index `i` that began with `before` free bands. -/
def endAdvance (before : Nat) (i : Idx) (s : State) : State :=
  requestRefreshLast (judgeBandsFree before { s with rrd.retire := i })

/-- R55, R38: the item may retire: it is COMPLETE and the walk index has passed it (log 51). -/
def mayRetire (s : State) (e : ItemEntry) : Bool := e.complete && e.index != s.rrd.walk

/-- R55, R38: one advance over the run of COMPLETE items at the retire index. It stops at the walk index,
where a rewind or a cancel has left items to be walked again (log 51). -/
def retireAdvance (s : State) : State :=
  match s.rrd.table.takeWhile (mayRetire s) with
  | [] => s
  | run =>
    let left := s.rrd.table.drop run.length
    let i := s.rrd.retire + BitVec.ofNat 16 run.length
    let s1 := retireRun run s
    endAdvance s.bht.free i { s1 with rrd.table := left }

/-! ## Fetches (R41, R53) -/

/-- R53: the retire index has reached the waiting SETTINGS item. -/
def rereadDue (s : State) : Bool :=
  s.bpu.engagement == .engaged && s.rrd.reread.isNone
    && s.rrd.hold == some (.settings s.rrd.retire)

/-- R53: the sixteen transfers of a re-read are requested. -/
def startReread (s : State) : State :=
  if rereadDue s then
    { s with rrd.reread := some [],
             bpu.waiting := s.bpu.waiting ++ (List.range 16).map Transfer.reread }
  else s

/-- R41: the conditions of an item fetch. -/
def fetchDue (s : State) : Bool :=
  s.bpu.engagement == .engaged && s.rrd.walk != s.rrd.producer && s.rrd.fetch.isNone
    && s.rrd.hold.isNone && (s.rrd.inside || s.lcu.staged.isNone)

/-- R41: request a fetch of the item at the walk index. -/
def requestFetch (s : State) : State :=
  if fetchDue s then
    let f : ItemFetch := { index := s.rrd.walk, data := [], doomed := false }
    ({ s with rrd.fetch := some f } : State).request .item
  else s

/-- R41: discard the fetch in flight. -/
def discardFetch (s : State) : State :=
  ({ s with rrd.fetch := none } : State).withdraw (fun t => t == .item)

/-- R41, R53: a rewind, a cancel or RESTART discards the fetch, the hold and any re-read. -/
def discardHold (s : State) : State :=
  let s1 := (discardFetch s).withdraw Transfer.isReread
  { s1 with rrd := { s1.rrd with hold := none, reread := none } }

/-- R61: the format read of a label no context holds any more is of no use; it is withdrawn
(log 41). -/
def dropFormat (label : Idx) (s : State) : State := s.withdraw (fun t => t == .format label)

/-! ## Parsing (R42 to R50) -/

/-- R42, R44, R46: the refusal reason of an item, 0 for none. -/
def refusalOf (g : Geometry) (inside : Bool) (b : List Byte) : Nat :=
  match kindOf b with
  | .unknown => 1
  | .label => 0
  | .band =>
    if !inside then 2
    else if g.bands ≤ itemWord b then 3
    else if g.height ≤ field 4 1 b then 4
    else 0
  | .repeatRow => if inside then 0 else 2
  | .blank => if inside then 0 else 2
  | .endCopy => if inside then 0 else 2
  | .feed => if inside then 2 else 0
  | .calibrate => if inside then 2 else 0
  | .settings => if inside then 2 else 0

/-- R40: the entry a first walk creates. -/
def newEntry (i : Idx) (inside : Bool) (reason : Nat) (b : List Byte) : ItemEntry :=
  { index := i, kind := kindOf b, complete := decide (reason ≠ 0) && !inside,
    result := if reason ≠ 0 then some .refused else none, reason := reason, byte13 := 0,
    half14 := 0, tag := itemTag b, silent := false }

/-- R41: the walk passes the item; a first walk moves the take index and creates the entry. -/
def passItem (first : Bool) (reason : Nat) (b : List Byte) (s : State) : State :=
  let i := s.rrd.walk
  let entry := newEntry i s.rrd.inside reason b
  let s1 : State := { s with rrd.walk := i + 1 }
  if first then { s1 with rrd := { s1.rrd with take := i + 1, table := s1.rrd.table ++ [entry] } }
  else s1

/-- R47, R52: a segment goes to the output hold, or is discarded there while the supply copy exceeds
the copies total. -/
def holdSegment (seg : Segment) (s : State) : State :=
  match s.rrd.label with
  | some l => if l.total < s.rrd.supplyCopy then s else { s with rrd.hold := some (.segment seg) }
  | none => s

/-- The walk label's LABEL index. -/
def State.walkIndex (s : State) : Idx := (s.rrd.label.map (fun l => l.index)).getD 0

/-- R50: the first close records the closing index with the walk label and in its context. -/
def recordClosing (closing : Idx) (s : State) : State :=
  let l := s.walkIndex
  let inLabel (w : WalkLabel) : WalkLabel := { w with closing := some (w.closing.getD closing) }
  let inContext (c : Context) : Context :=
    if c.label = l then { c with closing := some (c.closing.getD closing) } else c
  { s with rrd.label := s.rrd.label.map inLabel, lcu.printing := s.lcu.printing.map inContext,
           lcu.staged := s.lcu.staged.map inContext }

/-- R50, R54: the walk label's body closes; a label whose last copy has ended completes (log 42). -/
def closeBody (implied : Bool) (s : State) : State :=
  let s1 : State :=
    { s with rrd := { s.rrd with inside := false, label := none,
                                 impliedClose := s.rrd.impliedClose || implied } }
  match s.rrd.label with
  | some l =>
    match l.ended, l.closing with
    | some (good, spoiled), some c => completeLabel l.index c .done good spoiled s1
    | _, _ => s1
  | none => s1

/-- R48, R50: close the copy being supplied; `closing` is the index that closes the body. -/
def closeCopy (implied : Bool) (closing : Idx) (s : State) : State :=
  let l := s.walkIndex
  let total := (s.rrd.label.map (fun w => w.total)).getD 0
  let s1 := recordClosing closing (holdSegment (.copyEnd s.rrd.supplyCopy l) s)
  if s.rrd.supplyCopy < total then
    { s1 with rrd := { s1.rrd with supplyCopy := s.rrd.supplyCopy + 1, walk := l + 1 } }
  else closeBody implied s1

/-- R51, R61: the context of a label being opened; what its format record gives is 0 until then (log 7). -/
def newContext (c : Settings) (i : Idx) (b : List Byte) : Context :=
  { tag := itemTag b, total := itemCopies b, formatAddr := itemFormatAddr b,
    length := itemLength c b, label := i, closing := none, formatRead := false, formatData := [],
    darkness := 0, speedCap := 0, reprintFlag := false, permission := false, good := 0,
    spoiled := 0, copy := 1, reprintMark := false, strobed := false, stalls := 0, stretches := 0,
    thermalStops := 0 }

/-- R43, R48: a LABEL item at index `i` opens its label. -/
def openLabel (first : Bool) (i : Idx) (b : List Byte) (s : State) : State :=
  let w : WalkLabel :=
    { index := i, total := itemCopies b, tag := itemTag b, closing := none, ended := none }
  let s1 : State :=
    { s with lcu.staged := some (newContext s.cfg i b),
             rrd := { s.rrd with inside := true, label := some w, supplyCopy := 1,
                                 impliedClose := false } }
  let s2 := s1.request (.format i)
  if s.rrd.impliedClose && first then raise .ring Code.implicitEnd i s2 else s2

/-- R44: an accepted BAND item at index `i`. -/
def acceptBand (first : Bool) (i : Idx) (b : List Byte) (s : State) : State :=
  let tag := (s.rrd.label.map (fun w => w.tag)).getD 0
  let s1 : State := if first then { s with bht := s.bht.accept i (itemWord b) tag } else s
  let top := field 4 1 b
  let n := bandRows s.geo.height top (field 5 1 b)
  holdSegment (.rows (itemWord b) top n s.rrd.supplyCopy s.walkIndex) s1

/-- R45: a REPEAT or BLANK item; a count of 0 yields no segment. -/
def runSegment (isRepeat : Bool) (n : Nat) (s : State) : State :=
  if n = 0 then s
  else if isRepeat then holdSegment (.repeatRun n s.rrd.supplyCopy s.walkIndex) s
  else holdSegment (.blankRun n s.rrd.supplyCopy s.walkIndex) s

/-- R42: an accepted item of each kind, the walk past it already. -/
def acceptItem (first : Bool) (i : Idx) (b : List Byte) (s : State) : State :=
  match kindOf b with
  | .label => openLabel first i b s
  | .band => acceptBand first i b s
  | .repeatRow => runSegment true (itemWord b) s
  | .blank => runSegment false (itemWord b) s
  | .endCopy => closeCopy false i s
  | .feed => { s with rrd.hold := some (.feed i (itemWord b)) }
  | .calibrate => { s with rrd.hold := some (.calibrate i) }
  | .settings => { s with rrd.hold := some (.settings i) }
  | .unknown => s

/-- R41: parse the bytes of the item at the walk index. -/
def parseItem (b : List Byte) (s : State) : State :=
  let i := s.rrd.walk
  let s0 : State := { s with rrd.fetch := none }
  if s.rrd.inside ∧ kindOf b = .label then closeCopy true (i - 1) s0
  else
    let first : Bool := i = s.rrd.take
    let reason := refusalOf s.geo s.rrd.inside b
    let s1 := passItem first reason b s0
    if reason = 0 then acceptItem first i b s1
    else if first then raise .ring Code.itemRefused i s1
    else s1

/-! ## Rewinds and cancels (R52, R57, R58, R59) -/

/-- R52: the spoil rewind for the label of context `c` to a target copy. -/
def spoilRewind (c : Context) (target : Nat) (s : State) : State :=
  let dropped := match s.lcu.staged with
    | some d => dropFormat d.label s
    | none => s
  let s1 := discardHold { dropped with lcu.staged := none }
  let s2 : State := { s1 with rrd.impliedClose := false }
  if target ≤ c.total then
    let w : WalkLabel :=
      { index := c.label, total := c.total, tag := c.tag, closing := c.closing, ended := none }
    { s2 with rrd := { s2.rrd with walk := c.label + 1, supplyCopy := target, label := some w,
                                   inside := true } }
  else match c.closing with
    | some k => { s2 with rrd := { s2.rrd with walk := k + 1, inside := false, label := none } }
    | none => { s2 with rrd.supplyCopy := target }

/-- R54: the Label Control Unit reports the last copy of the label of context `c` ended. The items
complete now, or when the walk closes the body it is still in (log 42). -/
def reportLabelEnd (c : Context) (s : State) : State :=
  let walking := s.rrd.label.any fun w => w.index == c.label
  if walking then
    let ended (w : WalkLabel) : WalkLabel := { w with ended := some (c.good, c.spoiled) }
    { s with rrd.label := s.rrd.label.map ended }
  else match c.closing with
    | some k => completeLabel c.label k .done c.good c.spoiled s
    | none => s

/-- R57: the closing index of a cancelled label, truncated at the take index where none is recorded. -/
def cancelClosing (closing : Option Idx) (s : State) : Idx := closing.getD (s.rrd.take - 1)

/-- R41, R57: the walk label is not the STAGED label's: it is the cancelled label, or the walk stands
OUTSIDE past its body with no label STAGED (log 44). -/
def walkFollowsCancel (c : Context) (s : State) : Bool :=
  (s.rrd.label.any fun w => w.index == c.label) || s.lcu.staged.isNone

/-- R57: the walk after a cancel: OUTSIDE at the item `i`, with the fetch, the hold and the implied-close
mark gone. -/
def rewindOutside (i : Idx) (s : State) : State :=
  let s1 := discardHold s
  { s1 with rrd := { s1.rrd with walk := i, inside := false, label := none, impliedClose := false } }

/-- R41, R47, R57: the Ring Reader cancels the label of context `c`. -/
def cancelInRing (c : Context) (s : State) : State :=
  let k := cancelClosing c.closing s
  let s1 := completeLabel c.label k .cancelled c.good c.spoiled s
  if walkFollowsCancel c s then rewindOutside (k + 1) s1 else s1

/-- R58: the entry keeps its outcome at a CANCEL_ALL, judged on the entries before it (log 24). -/
def keptByCancelAll (s : State) (e : ItemEntry) : Bool :=
  let printing := s.lcu.printing.any fun c =>
    inSpan s.rrd.retire c.label (cancelClosing c.closing s) e
      || (e.complete && decide (ringDist e.index s.rrd.retire < ringDist c.label s.rrd.retire))
  let ended := s.rrd.label.any fun w =>
    w.ended.isSome && inSpan s.rrd.retire w.index (cancelClosing w.closing s) e
  let running := s.lcu.operation.any fun o => o.index == e.index
  printing || ended || running

/-- R58: retire an entry without an outcome. -/
def ItemEntry.silence (e : ItemEntry) : ItemEntry := { e with complete := true, silent := true }

/-- R58: complete the items of the first four kinds. -/
def cancelCompletions (s : State) : State :=
  let s1 := match s.rrd.label with
    | some w =>
      match w.ended with
      | some (good, spoiled) =>
        completeLabel w.index (cancelClosing w.closing s) .done good spoiled s
      | none => s
    | none => s
  let s2 := match s.lcu.printing with
    | some c => completeLabel c.label (cancelClosing c.closing s) .cancelled c.good c.spoiled s1
    | none => s1
  match s.lcu.operation with
  | some o => completeItem o.index .cancelled 0 s2
  | none => s2

/-- R58: the Ring Reader cancels everything up to the producer index. An advance that passes no item
is none (log 43). -/
def cancelAllInRing (s : State) : State :=
  let p := s.rrd.producer
  let keep := keptByCancelAll s
  let s1 := cancelCompletions s
  let run := List.zipWith (fun old new => if keep old then new else new.silence)
    s.rrd.table s1.rrd.table
  let s2 := discardHold (retireRun run s1)
  let s3 : State :=
    { s2 with rrd := { s2.rrd with table := [], take := p, walk := p, inside := false,
                                   label := none, impliedClose := false } }
  if s.rrd.retire = p then s3 else endAdvance s.bht.free p s3

/-- R59: RESTART at the Ring Reader. -/
def Rrd.restarted (r : Rrd) : Rrd :=
  { Rrd.reset with producer := r.producer, take := r.producer, walk := r.producer,
                   retire := r.producer }

/-! ## Handing segments on (R47, R89) -/

/-- R89: the segment matches the discard mark. -/
def discarded (r : Rsu) (seg : Segment) : Bool :=
  r.discard == some (seg.label, seg.copy)

/-- R47, R82, R89: a segment in the output hold moves to the segment queue, or is dropped under the
discard mark; the matching COPY_END clears the mark. -/
def handSegment (s : State) : State :=
  match s.rrd.hold with
  | some (.segment seg) =>
    if discarded s.rsu seg then
      { s with rrd.hold := none, rsu.discard := if seg.isEnd then none else s.rsu.discard }
    else if s.rsu.queue.length < Config.queueSize then
      { s with rrd.hold := none, rsu.queue := s.rsu.queue ++ [seg] }
    else s
  | _ => s

end Sys2Proof.Machine
end

