-- ==== Sys2Proof/Machine/Label.lean ====
section
/-! DEFINITION. Label control: contexts, label end, spoil, faults and the copy end (R61 to R63, R67,
R68, R73 to R75). -/

namespace Sys2Proof.Machine

/-! ## Contexts -/

/-- R62: a STAGED label moves to an empty PRINTING context. -/
def moveUp (s : State) : State :=
  if s.configured ∧ s.lcu.printing = none then
    { s with lcu := { s.lcu with printing := s.lcu.staged, staged := none } }
  else s

/-- R62: the current copy of a context is ready. -/
def labelReady (s : State) : Bool :=
  s.lcu.printing.any fun c => c.formatRead && s.rsu.holds c.label c.copy

/-- R90, R92: the current copy's TOF is released: no copy is current or fixed. Where the manual names no
release, its place is the model's choice (log 52). -/
def releaseCopy (s : State) : State :=
  { s with lcu := { s.lcu with copyTof := none, started := false } }

/-- R75, R62: the label end is reported, the PRINTING context empties and a STAGED label moves up. -/
def labelEnd (s : State) : State :=
  match s.lcu.printing with
  | some c =>
    let s1 := reportLabelEnd c s
    moveUp { s1 with lcu.printing := none }
  | none => s

/-! ## Operations (R72) -/

/-- R49, R72: the operation in execution finishes. -/
def finishOperation (r : ItemResult) (s : State) : State :=
  match s.lcu.operation with
  | some o => completeItem o.index r 0 { s with lcu.operation := none }
  | none => s

/-! ## Spoil (R75) -/

/-- The engine states in which a copy is under way. -/
def Engine.inCopy : Engine → Bool
  | .printing => true
  | .stalled => true
  | .holding .thermal => true
  | _ => false

/-- R75: the context after a spoil, and the target copy of the rewind. -/
def Context.spoil (c : Context) : Context × Nat :=
  if c.strobed then
    if c.permission then ({ c with spoiled := c.spoiled + 1, reprintMark := true }, c.copy)
    else ({ c with spoiled := c.spoiled + 1, copy := c.copy + 1 }, c.copy + 1)
  else (c, c.copy)

/-- R75: spoil the current copy: counts, rewind, full flush, and the label end of a last copy. -/
def spoilCopy (s : State) : State :=
  match s.lcu.printing with
  | some c =>
    let (d, target) := c.spoil
    let s1 := spoilRewind d target { s with lcu.printing := some d }
    let s2 := releaseCopy (flushStream s1)
    if d.total < target then labelEnd s2 else s2
  | none => s

/-! ## Faults (R73, R74) -/

/-- R73: the reasons taken at rest with no copy under way. -/
def FaultReason.always : FaultReason → Bool
  | .thermalTrip => true
  | .thermSensor => true
  | .supply => true
  | _ => false

/-- R73: the state takes this reason as a fault. -/
def faultTaken (r : FaultReason) (s : State) : Bool :=
  match s.lcu.engine with
  | .unconfigured => false
  | .idle => r.always
  | .holding .pause => r.always
  | .arming => r.always || s.moving
  | _ => true

/-- R74: a reason enters the fault set. -/
def enterFault (r : FaultReason) (s : State) : State :=
  { s with lcu := { s.lcu with
      faults := s.lcu.faults.set r true
      openedSincePaperOut := if r = .paperOut then false else s.lcu.openedSincePaperOut } }

/-- R73, R163: what a fault ends besides motion: an operation and a calibration run. -/
def endWork (s : State) : State :=
  let r : ItemResult := match s.lcu.operation with
    | some { feed := some _, .. } => .cancelled
    | _ => .failed
  abandonCalibration (finishOperation r s)

/-- Forget the seek, the presentation and a cancel that waits for a backfeed. -/
def endCourse (s : State) : State :=
  { s with lcu := { s.lcu with seek := none, presentTof := none, armCancelled := false } }

/-- R73: the stop a fault makes: the paper, the strobes and the supply. -/
def faultStop (s : State) : State :=
  let s1 : State := if s.moving then { emergencyStop s with lcu.restTof := none } else s
  supplyOff (cutLine s1)

/-- R73: a fault taken in any state but FAULTED. The copy's TOF is released, also where ARMING at rest has
fixed it: the model's choice (log 52). -/
def takeFault (r : FaultReason) (s : State) : State :=
  let s1 := faultStop s
  let s2 := if s.lcu.engine.inCopy then spoilCopy s1 else s1
  let s3 := endCourse (releaseCopy (endWork s2))
  raise .fault r.code 0 (setEngine .faulted (enterFault r s3))

/-- R73, R74: a fault reason is reported. -/
def reportFault (r : FaultReason) (s : State) : State :=
  if faultTaken r s then
    if s.lcu.engine = .faulted then
      if s.lcu.faults.get r then s else raise .fault r.code 0 (enterFault r s)
    else takeFault r s
  else s

/-! ## The copy end (R67, R68) -/

/-- R67, R68: the print line is at the end of the current copy. `reached` says that the step reached
the head entry of the edge queue. -/
def atCopyEnd (reached : Bool) (s : State) : Bool :=
  s.lcu.engine == .printing && s.lcu.started &&
    (match s.lcu.copyTof with
     | some t =>
       if s.gapped then reached && decide (1 ≤ ahead s.mtu.position t)
       else s.mtu.position == t + BitVec.ofNat 32 ((s.lcu.printing.map fun c => c.length).getD 0)
     | none => false)

/-- R67 step 1, R75: the context of a copy that ends good. A label is reprinted at most once, so the good
end of a reprint that strobed no line takes the permission with the mark (log 29). -/
def Context.endGood (c : Context) : Context :=
  { c with good := c.good + 1, reprintMark := false, permission := c.permission && !c.reprintMark }

/-- R67 step 2, R89: the ended copy's elements leave the stream, and OVERLONG is raised when rows
remain undelivered. -/
def endCopyRows (c : Context) (s : State) : State :=
  let overlong := !s.rsu.atEnd c.copy c.label
  let s1 := endWait s
  let s2 : State := { s1 with rsu := s1.rsu.endCopy c.copy c.label }
  if overlong then raise .label Code.overlong c.tag s2 else s2

/-- R67 step 4: the next copy begins at this TOF without a stop. -/
def continueCopy (s : State) : State :=
  let begin_ (c : Context) : Context := { c with strobed := false }
  let s1 := s.updatePrinting begin_
  { s1 with lcu := { s1.lcu with copyTof := some s.mtu.position, started := true } }

/-- R67 step 5, R69: PRESENTING(END) toward the rest position. -/
def present (s : State) : State :=
  let goal := s.mtu.position + BitVec.ofNat 32 s.cfg.presentOffset
  let s1 := releaseCopy s
  setEngine (.presenting .atEnd)
    { s1 with lcu.presentTof := some s.mtu.position, mtu.source := .distance (.at goal) }

/-- R67: the copy end. -/
def copyEnd (s : State) : State :=
  match s.lcu.printing with
  | some c =>
    let s1 := endCopyRows c (s.updatePrinting Context.endGood)
    let s2 :=
      if c.total ≤ c.copy then labelEnd s1
      else s1.updatePrinting fun d => { d with copy := d.copy + 1 }
    if labelReady s2 && !s2.lcu.pauseLatch then continueCopy s2 else present s2
  | none => s

end Sys2Proof.Machine
end

