-- ==== Sys2Proof/Machine/Engine.lean ====
section
/-! DEFINITION. The engine in motion: steps, starts, the choice of the next state, rests and stops
(R64 to R66, R69 to R72, R76, R135, R142 to R147, R163). -/

namespace Sys2Proof.Machine

/-! ## After every command -/

/-- What follows any change of the units' inputs at once: a retire advance (R55), the line buffer's
fill (R84), a due settings re-read and item fetch (R53, R41), the tail run-on (R141) and the forecast
(R117). -/
def settle (s : State) : State :=
  refreshForecast (updateTailRunOn (requestFetch (startReread (fillBuffer (retireAdvance s)))))

/-! ## Calibration runs at a step (R161, R163) -/

/-- R161: the run after a forward step has been counted. -/
def CalRun.counted (r : CalRun) : CalRun := { r with count := satSucc r.count }

/-- R163: the run has come to the calibration limit without a measurement. -/
def CalRun.atLimit (r : CalRun) (limit : Nat) : Bool :=
  r.phase != .finishing && decide (limit ≤ r.count)

/-- R72, R163: a calibration run fails: the item finishes FAILED (log 28), or the pause latch is set
for an arming calibration, and the paper decelerates. -/
def failCalibration (r : CalRun) (s : State) : State :=
  let s1 : State := { s with msu := s.msu.dropCalibration }
  let s2 := requestRefresh (raise .media Code.calFailed (argOf r.phase.failArg) s1)
  let s3 :=
    if s.lcu.engine = .calibrating .arming then { s2 with lcu.pauseLatch := true }
    else finishOperation .failed s2
  orderDeceleration s3

/-- R161, R163: count a forward step of a calibration run. -/
def countCalibration (s : State) : State :=
  match s.msu.cal with
  | some r =>
    let s1 : State := { s with msu.cal := some r.counted }
    if r.counted.atLimit s.cfg.calLimit then failCalibration r s1 else s1
  | none => s

/-! ## Limits of a seek and of a blank tail (R66, R67) -/

/-- R66, R72: the seek has moved the calibration limit and knows no target. -/
def seekExhausted (s : State) : Bool :=
  s.lcu.seek.any fun k =>
    k.target.isNone && decide (s.cfg.calLimit ≤ linesAhead s.mtu.position k.start)

/-- R67: the blank tail has run the calibration limit since the copy's TOF. -/
def tailExhausted (s : State) : Bool :=
  tailRunOnOf s && s.lcu.copyTof.any fun t =>
    decide (s.cfg.calLimit ≤ linesAhead s.mtu.position t)

/-- R66, R67: GAP_MISSING by lines moved. -/
def judgeLimits (s : State) : State :=
  if seekExhausted s || tailExhausted s then reportFault .gapMissing s else s

/-! ## Steps -/

/-- R155: the position of the print line is the head entry of the edge queue. -/
def reachesTof (s : State) : Bool := s.msu.queue.head?.any fun e => e.tof == s.mtu.position

/-- R67, R68: take the copy end at this step, if it is one. -/
def judgeCopyEnd (reached : Bool) (s : State) : State :=
  if atCopyEnd reached s then copyEnd s else s

/-- R135: a forward step with its index and period. -/
def forwardStep (index period : Nat) (s : State) : State :=
  let s1 := advancePosition (deliverLine (beginLine index period s))
  judgeLimits (judgeCopyEnd (reachesTof s1) (countCalibration (reachTof s1)))

/-- R135, R142: the first step of a start: index 0 and the period of entry 0. -/
def startForward (s : State) : State := forwardStep 0 (s.mtu.ramps.period 0) s

/-- R146: a backward step. -/
def backwardStep (s : State) : State :=
  let period := s.mtu.ramps.period 0
  returnTof s.mtu.position
    { s with
      mtu := { s.mtu with motion := .backward, dirForward := false, ramp := 0,
                          timer := some { period := period, elapsed := 0 }, latch := none,
                          position := s.mtu.position - 1, backfeed := s.mtu.backfeed - 1 }
      seu.restTimer := none }

/-- R146, R110: a backfeed of `k` lines: the first backward step clears the history; a count of 0 takes
no step. -/
def startBackfeed (k : Nat) (s : State) : State :=
  if k = 0 then s else backwardStep (clearHistory { s with mtu.backfeed := k })

/-! ## Starts ordered by the Label Control Unit (R142) -/

/-- R66: the target of a seek on entry, if one is queued. -/
def startSeek (s : State) : State :=
  let target := firstTofAhead s
  let toward : Target := match target with
    | some p => .at p
    | none => .renewed
  startForward
    { s with lcu.seek := some { start := s.mtu.position, target := target },
             mtu.source := .distance toward }

/-- A start toward a position; it always steps (log 22). -/
def startToward (p : Pos) (s : State) : State :=
  startForward { s with mtu.source := .distance (.at p) }

/-- R66: entry into SEEKING. -/
def enterSeeking (s : State) : State := startSeek (setEngine .seeking s)

/-- R72, R161: entry into CALIBRATING on gapped media. -/
def enterCalibrating (r : CalReason) (s : State) : State :=
  let s1 := startCalibration (setEngine (.calibrating r) s)
  startForward { s1 with mtu := { s1.mtu with source := .distance .unbounded, limitZero := true } }

/-- R72: entry into FEEDING with a line count. -/
def enterFeeding (n : Nat) (s : State) : State :=
  let s1 := setEngine .feeding s
  if 0 < n then
    startToward (s.mtu.position + BitVec.ofNat 32 n) { s1 with lcu.restTof := none }
  else if s.gapped then startSeek s1
  else startToward (s.mtu.position + BitVec.ofNat 32 s.cfg.defaultLength) s1

/-- R65: the copy's TOF is fixed, and a media position ahead of it is backfed. -/
def prepareCopy (tof : Pos) (s : State) : State :=
  startBackfeed (linesAhead s.mtu.position tof) { s with lcu.copyTof := some tof }

/-- R65: the media examined on entering ARMING. -/
def examineMedia (s : State) : State :=
  if s.gapped then
    if s.msu.polarity = .unknown then enterCalibrating .arming s
    else match s.msu.valid, s.lcu.restTof with
      | true, some t => prepareCopy t s
      | _, _ => enterSeeking s
  else prepareCopy (s.lcu.restTof.getD s.mtu.position) s

/-- R65: entry into ARMING: the supply and a conversion are asked for, then the media is examined. -/
def enterArming (s : State) : State :=
  examineMedia (requestConversion (requestSupply (setEngine .arming s)))

/-- R49: the Ring Reader has an operation ready to hand over. -/
def operationReady (s : State) : Option Operation :=
  if s.lcu.printing.isNone && s.lcu.staged.isNone && s.lcu.operation.isNone then
    match s.rrd.hold with
    | some (.feed i n) => some { index := i, feed := some n }
    | some (.calibrate i) => some { index := i, feed := none }
    | _ => none
  else none

/-- R72: the Label Control Unit takes an operation. On continuous media a CALIBRATE finishes DONE at
once, so the choice of R64 is made again and gives IDLE. -/
def takeOperation (o : Operation) (s : State) : State :=
  let s1 : State := { s with rrd.hold := none, lcu.operation := some o }
  match o.feed with
  | some n => enterFeeding n s1
  | none =>
    if s.gapped then enterCalibrating .item s1
    else setEngine .idle (finishOperation .done (setEngine (.calibrating .item) s1))

/-- R64: choose the next state at rest. The copy's TOF is released first (log 52). -/
def chooseNext (s : State) : State :=
  let s1 := endCourse (releaseCopy s)
  if s1.lcu.pauseLatch then setEngine (.holding .pause) s1
  else if s1.lcu.printing.isSome then enterArming s1
  else match operationReady s1 with
    | some o => takeOperation o s1
    | none => setEngine .idle s1

/-! ## Printing from rest (R65, R70, R71) -/

/-- R65: the conditions of a copy start. -/
def copyStartReady (s : State) : Bool :=
  s.lcu.engine == .arming && !s.moving && s.htu.supply == .on && !s.msu.headOpen
    && s.htu.grade.belowHold && labelReady s && horizonReady s s.cfg.startRows

/-- R70, R71: motion starts under HORIZON in PRINTING. -/
def startPrinting (s : State) : State :=
  startForward (setEngine .printing { s with mtu.source := .horizon })

/-- R65: the copy starts. -/
def startCopy (s : State) : State :=
  let s1 := s.updatePrinting fun c => { c with strobed := false }
  startPrinting { s1 with lcu := { s1.lcu with restTof := none, started := true } }

/-- R71: HOLDING(THERMAL) is left once the grade is below HOLD. -/
def leaveThermalHold (s : State) : State :=
  if s.lcu.engine = .holding .thermal ∧ s.htu.grade.belowHold then
    if horizonReady s s.cfg.restartRows then startPrinting s else setEngine .stalled s
  else s

/-- R70: a stall: the label's count and the engine total. -/
def stall (s : State) : State :=
  let s1 := s.updatePrinting fun c => { c with stalls := satSucc c.stalls }
  setEngine .stalled { s1 with lcu.stalls := satSucc s1.lcu.stalls }

/-- R70, R71: a thermal stop is counted for the label and the engine. -/
def countThermalStop (s : State) : State :=
  let s1 := s.updatePrinting fun c => { c with thermalStops := satSucc c.thermalStops }
  { s1 with lcu.thermalStops := satSucc s1.lcu.thermalStops }

/-! ## Rest (R144) -/

/-- The target of the DISTANCE source. -/
def Mtu.targetPos (m : Mtu) : Option Pos :=
  match m.source with
  | .distance (.at p) => some p
  | _ => none

/-- R162, R72: rest at the end of a calibration run; the rest TOF is the measuring entry's (log 32). -/
def endCalibrating (s : State) : State :=
  match s.msu.cal.bind (fun r => r.measured) with
  | some e =>
    let s1 := finishOperation .done (finishCalibration e s)
    chooseNext { s1 with lcu.restTof := some e.tof }
  | none => chooseNext s

/-- R72: rest at the end of a FEED. A feed to the next TOF or of the default length sets the rest TOF. -/
def endFeeding (s : State) : State :=
  let toTof := s.lcu.operation.any fun o => o.feed == some 0
  let s1 : State := if toTof then { s with lcu.restTof := s.mtu.targetPos } else s
  chooseNext (finishOperation .done s1)

/-- R144: what the Label Control Unit makes of a rest. `decelerating` says that a deceleration order
stood (log 27). -/
def restReached (decelerating : Bool) (s : State) : State :=
  match s.lcu.engine with
  | .printing =>
    if decelerating then leaveThermalHold (setEngine (.holding .thermal) s) else stall s
  | .presenting .atEnd => chooseNext { s with lcu.restTof := s.lcu.presentTof }
  | .presenting .stop => chooseNext s
  | .seeking => chooseNext { s with lcu.restTof := s.mtu.targetPos }
  | .feeding => endFeeding s
  | .calibrating _ => endCalibrating s
  | .arming => if s.lcu.pauseLatch || s.lcu.armCancelled then chooseNext s else s
  | _ => s

/-- R144: the paper comes to rest. A deceleration ordered after the stop was decided makes the rest that of
the deceleration, whatever cause the stop had (log 47). -/
def comeToRest (s : State) : State :=
  restReached (s.mtu.source == .decelerate) (motionRest s)

/-- R127, R136, R144: the Head Drive Unit's line has ended: a decided stop brings the rest, a deferred
step is taken. -/
def lineEnded (s : State) : State :=
  if s.hdu.state = .idle then
    match s.mtu.stopping, s.mtu.latch with
    | some _, _ => comeToRest s
    | none, some (index, period) => forwardStep index period s
    | none, none => s
  else s

/-! ## Stops without an emergency stop (R69, R76) -/

/-- R69: entry into PRESENTING(STOP): the strobes stop at once and a deceleration is ordered. A line
that a stretch was holding ends at the cut (log 19). -/
def enterPresentingStop (s : State) : State :=
  let s1 := setEngine (.presenting .stop) (endCourse (releaseCopy s))
  lineEnded (cutLine (orderDeceleration { s1 with lcu.restTof := none }))

/-- R76: what the Label Control Unit makes of an edge overflow: the copy is spoiled, or a seek goes on
without a target (R66), unless it has already moved the calibration limit (log 46). -/
def reportOverflow (s : State) : State :=
  if s.gapped && s.lcu.engine.inCopy then
    if s.moving then enterPresentingStop (spoilCopy s) else chooseNext (spoilCopy s)
  else match s.lcu.seek with
    | some k =>
      judgeLimits
        { s with lcu.seek := some { k with target := none }, mtu.source := .distance .renewed }
    | none => s

/-- R66: the first TOF enqueued during a seek becomes its target. -/
def giveSeekTarget (tof : Pos) (s : State) : State :=
  match s.lcu.seek with
  | some k =>
    if k.target.isNone then
      { s with lcu.seek := some { k with target := some tof },
               mtu.source := .distance (.at tof) }
    else s
  | none => s

/-- R153, R154, R156: an entry formed at a confirmed body is discarded when its TOF does not lie ahead,
joins the queue, or overflows it. -/
def offerEdge (e : Edge) (s : State) : State :=
  if ahead e.tof s.mtu.position < 1 then s
  else if s.msu.queue.length < Config.edgeSize then giveSeekTarget e.tof (joinEdge e s)
  else reportOverflow (overflowEdges e s)

/-! ## The planning point (R136) -/

/-- R127: a stretched line is counted for its label and the engine. A line whose label has ended has no
label context any more, and the engine total alone rises (log 50). -/
def countStretch (s : State) : State :=
  let owner := match s.hdu.line with
    | some r => r.owner
    | none => s.currentOwner
  let count (c : Context) : Context :=
    if owner.any (fun o => o.2 == c.label) then { c with stretches := satSucc c.stretches } else c
  let s1 := s.updatePrinting count
  { s1 with lcu.stretches := satSucc s1.lcu.stretches }

/-- R136: the expiry of a forward line's period. A line still in progress at the head is stretched,
whether a step or a stop waits for it (log 15). -/
def planningPoint (s : State) : State :=
  let expired : State := { s with mtu.timer := none }
  match planLine s with
  | .line j =>
    let period := s.mtu.ramps.period j
    if s.hdu.state = .idle then forwardStep j period expired
    else countStretch { expired with mtu.latch := some (j, period) }
  | .stop cause =>
    if s.hdu.state = .idle then comeToRest expired
    else countStretch { expired with mtu.stopping := some cause }

/-- R146: the expiry of a backward step's period. -/
def backfeedExpiry (s : State) : State :=
  if 0 < s.mtu.backfeed then backwardStep s else comeToRest s

/-- R136, R146: the line timer expires. -/
def linePeriodExpires (s : State) : State :=
  match s.mtu.timer, s.mtu.motion with
  | some _, .forward => planningPoint s
  | some _, .backward => backfeedExpiry s
  | _, _ => s

end Sys2Proof.Machine
end

