-- ==== Sys2Proof/Machine/Control.lean ====
section
/-! DEFINITION. Requests of the processor: control codes, engage, the producer word and the watched
words of the anchor block (R20, R21, R23, R35, R77 to R81). -/

namespace Sys2Proof.Machine

/-! ## Control codes (R77) -/

/-- R77: CONTROL_REFUSED with an argument. -/
def refuseControl (arg : BitVec 16) (s : State) : State := raise .ring Code.controlRefused arg s

/-- R78: PAUSE. The copy's TOF that ARMING has fixed is released as HOLDING(PAUSE) is entered: the model's
choice (log 52). -/
def takePause (s : State) : State :=
  if s.configured then
    let s1 : State := { s with lcu.pauseLatch := true }
    match s.lcu.engine with
    | .idle => setEngine (.holding .pause) s1
    | .arming => if s.moving then s1 else setEngine (.holding .pause) (releaseCopy s1)
    | _ => s1
  else refuseControl 1 s

/-- R78: RESUME. -/
def takeResume (s : State) : State :=
  let cleared : State := { s with lcu.pauseLatch := false }
  match s.lcu.engine with
  | .unconfigured => s
  | .holding .pause => chooseNext cleared
  | .faulted =>
    if s.lcu.faults.latchedOnly then
      chooseNext { cleared with lcu.faults := s.lcu.faults.dropLatched }
    else refuseControl 2 s
  | _ => cleared

/-- R79: the context of a cancelled label: a copy that is cut counts as spoiled when it strobed. -/
def Context.cut (engine : Engine) (c : Context) : Context :=
  if engine.inCopy && c.strobed then { c with spoiled := c.spoiled + 1 } else c

/-- R79: the engine states in which a cancel of the PRINTING label stops the paper. -/
def Engine.stopsAtCancel : Engine → Bool
  | .printing => true
  | .seeking => true
  | .calibrating .arming => true
  | _ => false

/-- R79: the engine state after the PRINTING label has gone. A cancel in ARMING releases the copy's TOF (log 52). -/
def engineAfterCancel (s : State) : State :=
  if s.lcu.engine.stopsAtCancel then enterPresentingStop (abandonCalibration s)
  else match s.lcu.engine with
    | .arming =>
      if s.moving then { releaseCopy s with lcu.armCancelled := true } else chooseNext s
    | .stalled => chooseNext s
    | .holding .thermal => chooseNext s
    | _ => s

/-- R79: CANCEL_LABEL. -/
def takeCancelLabel (s : State) : State :=
  if s.configured then
    match s.lcu.printing with
    | none => s
    | some c =>
      let s1 := flushLabel c.label (cancelInRing (c.cut s.lcu.engine) (dropFormat c.label s))
      engineAfterCancel (moveUp { s1 with lcu.printing := none })
  else refuseControl 3 s

/-- R80: the engine state after everything has been cancelled. -/
def engineAfterCancelAll (s : State) : State :=
  match s.lcu.engine with
  | .feeding => enterPresentingStop s
  | .calibrating _ => enterPresentingStop (abandonCalibration s)
  | _ => engineAfterCancel s

/-- A label format record read. -/
def Transfer.isFormat : Transfer → Bool
  | .format _ => true
  | _ => false

/-- R80: CANCEL_ALL. -/
def takeCancelAll (s : State) : State :=
  if s.configured then
    let s1 := cancelAllInRing (s.updatePrinting (Context.cut s.lcu.engine))
    let s2 := flushStream (s1.withdraw Transfer.isFormat)
    engineAfterCancelAll
      { s2 with lcu := { s2.lcu with printing := none, staged := none, operation := none } }
  else refuseControl 4 s

/-- R81, R63: the Label Control Unit after RESTART, the engine state apart. -/
def Lcu.restarted (l : Lcu) : Lcu :=
  { Lcu.reset with
    engine := l.engine
    faults := l.faults.dropLatched
    stalls := l.stalls
    stretches := l.stretches
    thermalStops := l.thermalStops
    openedSincePaperOut := l.openedSincePaperOut }

/-- R81: RESTART in every unit: motion and strobes, supply, stream, ring, holds, history, waiting
reads, contexts, calibration, flags and the engine state. -/
def restartPart (s : State) : State :=
  let s1 := flushStream (supplyOff (cutLine (emergencyStop s)))
  let s2 := clearHistory (abandonCalibration (s1.withdraw Transfer.withdrawnByRestart))
  let s3 : State :=
    { s2 with seu.record := LineRecord.empty, rrd := s2.rrd.restarted, bht := s2.bht.cleared,
              lcu := s2.lcu.restarted }
  setEngine (restState s3.lcu.faults) (restartFlags s3)

/-- R81: RESTART. -/
def takeRestart (s : State) : State := if s.configured then restartPart s else s

/-- R77: STATUS. -/
def takeStatus (s : State) : State := if s.configured then requestRefresh s else s

/-- R77: take a control request by its code; a value that is no code is refused in every state
(log 26). -/
def takeControl (v : BitVec 32) (s : State) : State :=
  match v.toNat with
  | 1 => settle (takePause s)
  | 2 => settle (takeResume s)
  | 3 => settle (takeCancelLabel s)
  | 4 => settle (takeCancelAll s)
  | 5 => settle (takeRestart s)
  | 6 => takeStatus s
  | _ => refuseControl (argOf v.toNat) s

/-! ## Engage and the producer word -/

/-- R23: the geometry transfers of an engage. -/
def geometryReads : List Transfer := [.geometry 0, .geometry 1]

/-- R23: ENGAGING begins. -/
def beginEngage (s : State) : State :=
  let s1 := s.clearReads
  { s1 with bpu := { s1.bpu with engagement := .engaging,
                                 waiting := s1.bpu.waiting ++ geometryReads } }

/-- R23: an engage request. -/
def takeEngage (s : State) : State :=
  match s.bpu.engagement with
  | .notEngaged => beginEngage s
  | .engaging => s
  | .engaged => beginEngage (restartPart s)

/-- R21: a full write of the producer word. -/
def takeProducerWord (v : BitVec 32) (s : State) : State :=
  let i : Idx := v.truncate 16
  match s.bpu.engagement with
  | .notEngaged => s
  | .engaged => takeProducer i s
  | .engaging => if s.bpu.reads.producer = [] then s else { s with bpu.latch := some i }

/-! ## Watched words (R20) -/

/-- R20: act on a full write at this offset of the anchor block. -/
def actOn (offset : Nat) (v : BitVec 32) (s : State) : State :=
  match offset with
  | 0x000 => if v = 1 then settle (takeEngage s) else s
  | 0x004 => if s.bpu.engagement = .engaging then s else takeControl v s
  | 0x008 => settle (takeProducerWord v s)
  | 0x00C => setMasks v s
  | 0x014 => endService s
  | _ => s

/-- R18, R20: a full write of a request word: it reaches memory at its grant and is acted on. Without
an anchor base no word is watched (log 8). -/
def requestWrite (offset : Nat) (v : BitVec 32) (s : State) : State :=
  match s.anchor? with
  | some a => actOn offset v ((serveUrgent s).store (a + offset) (leBytes 4 v.toNat))
  | none => s

end Sys2Proof.Machine
end

