-- ==== Sys2Proof/Machine/Clock.lean ====
section
/-! DEFINITION. What an idle step does: one grant of the memory port and one tick of the part's clocks
(log 3). A timer runs up to its limit and waits there for the command that takes its expiry (log 6).
Bus cycle times are left out (log 33). -/

namespace Sys2Proof.Machine

/-- R136: the line timer. -/
def LineTimer.tick (t : LineTimer) : LineTimer := { t with elapsed := min t.period (t.elapsed + 1) }

/-- R121: two dots are shifted in a tick: the count of the shift state. -/
def Shift.tick (dots : Nat) : Shift → Shift
  | .shifting n d => .shifting n (min dots (d + 2))
  | x => x

/-- R123: the burst counter counts up to its next compare. -/
def Firing.tick (f : Firing) : Firing :=
  { f with count := min (if f.active then f.compareA else f.compareB) (f.count + 1) }

/-- R118: the clocks of the Head Drive Unit. With no line in progress the line clock keeps its last count until
the next start: the model's choice (log 54). -/
def Hdu.tick (dots : Nat) (h : Hdu) : Hdu :=
  { h with clock := if h.state = .idle then h.clock else h.clock + 1,
           shift := h.shift.tick dots,
           register := (h.shiftIn dots 2).register,
           firing := h.firing.map Firing.tick }

/-- R169: the settle timer. -/
def SettleTimer.tick (t : SettleTimer) : SettleTimer :=
  { t with elapsed := min t.time (t.elapsed + 1) }

/-- R170: the dwell count, which counts in dwell states up to its limit. -/
def dwellTick (s : State) : Option Nat :=
  s.htu.dwell.map fun d => if s.lcu.engine.dwells then satAdd 25500 d 1 else d

/-- The clocks that count milliseconds, all from one prescaler (log 35): rest timer (R109),
settle timer (R169), dwell count (R170), sample schedule (R171), status timer (R181). -/
def millisecond (s : State) : State :=
  { s with
    seu.restTimer := s.seu.restTimer.map (fun t => t + 1)
    htu := { s.htu with settle := s.htu.settle.map SettleTimer.tick, dwell := dwellTick s,
                        schedule := s.htu.schedule.map (fun t => t - 1) }
    asu.statusTimer := s.asu.statusTimer.map (fun t => min 100 (t + 1)) }

/-- One tick of 0.5 µs: the line timer, the head's clocks, and every 2000 ticks a millisecond. -/
def tick (s : State) : State :=
  let s1 : State :=
    { s with mtu.timer := s.mtu.timer.map LineTimer.tick, hdu := s.hdu.tick s.geo.dots }
  if s.prescaler + 1 < Config.ticksPerMs then { s1 with prescaler := s.prescaler + 1 }
  else millisecond { s1 with prescaler := 0 }

/-- The idle step. -/
def idle (s : State) : State := tick (grantNext s)

end Sys2Proof.Machine
end

