-- ==== Sys2Proof/Machine/AttentionCommands.lean ====
section
/-! DEFINITION. Commands of attention and status (R177 to R181). -/

namespace Sys2Proof.Machine

/-- MASK_WORD_WRITE (R177). -/
def execMaskWordWrite (value : BitVec 32) (s : State) : Host.Outcome State Fault Refusal :=
  .next (requestWrite 0x00C value s)

/-- END_OF_SERVICE (R179). -/
def execEndOfService (value : BitVec 32) (s : State) : Host.Outcome State Fault Refusal :=
  .next (requestWrite 0x014 value s)

/-- R22, R185: the source number a full read of the vector word returns. -/
def vectorRead (a : Nat) (s : State) : Nat := (s.mem.read (a + 0x10)).toNat % 8

/-- R178: a full read of the vector word at its grant. -/
def readVector (s : State) : State :=
  match s.anchor? with
  | some a =>
    let s1 := serveUrgent s
    acknowledge (vectorRead a s1) s1
  | none => s

/-- ACKNOWLEDGE (R178). -/
def execAcknowledge (s : State) : Host.Outcome State Fault Refusal := .next (readVector s)

/-- VECTOR_WORD_WRITE (R177): the waiting vector write is granted. -/
def execVectorWordWrite (s : State) : Host.Outcome State Fault Refusal :=
  .next (grantAll (fun t => t == .vector) s)

/-- STATUS_REFRESH (R180): the refresh in progress, or else the waiting one, is written (log 37). -/
def execStatusRefresh (s : State) : Host.Outcome State Fault Refusal :=
  .next (grantOne (fun t => t == .statusEven) s)

/-- R181: the end of a 100 ms period. -/
def statusPeriod (s : State) : State :=
  if s.asu.statusTimer.isSome then
    let s1 : State := { s with asu.statusTimer := some 0 }
    if s.lcu.engine = .idle ∨ s.lcu.engine = .unconfigured then s1 else requestRefresh s1
  else s

/-- STATUS_TIMER (R181). -/
def execStatusTimer (s : State) : Host.Outcome State Fault Refusal := .next (statusPeriod s)

end Sys2Proof.Machine
end

