-- ==== Sys2Proof/Machine/Configure.lean ====
section
/-! DEFINITION. Putting a geometry and settings into effect: the end of an engage, its refusal, and the
settings re-read (R24 to R26, R29, R53, R97, R109, R119, R134, R151, R160, R170, R184). -/

namespace Sys2Proof.Machine

/-! ## The geometry check (R24, R26) -/

/-- R26, R17, R63, R175, R182: a refused engage with its offending field number. The units keep the
values they took from the settings before (log 20); only the sample schedule stops. -/
def refuseEngage (n : Nat) (s : State) : State :=
  let s1 := s.clearReads
  let s2 : State :=
    { s1 with
      bpu := { s1.bpu with engagement := .notEngaged, geometry := none, latch := none }
      bht := Bht.reset
      htu.schedule := none
      asu := { s1.asu with statusTimer := none, offer := none, engageResult := .refused,
                           offendingField := n } }
  requestRefresh (setEngine .unconfigured s2)

/-- The settings and producer transfers of an engage (R23). -/
def engageReads : List Transfer := (List.range 16).map Transfer.settings ++ [.producer]

/-- R24: the geometry transfers have completed. -/
def checkGeometry (s : State) : State :=
  let g := readGeometry s.bpu.reads.geometry
  let n := geometryCheck g s.anchor
  if n = 0 then
    { s with bpu := { s.bpu with
        reads := { s.bpu.reads with accepted := some g }
        waiting := s.bpu.waiting ++ engageReads } }
  else refuseEngage n s

/-! ## Settings put into effect (R184) -/

/-- R184: SETTINGS_CLAMPED names the first clamped field. -/
def reportClamped (n : Nat) (s : State) : State :=
  if n = 0 then s else raise .ring Code.settingsClamped (argOf n) s

/-- R25, R29, R4, R151, R180: the parts common to an engage and a re-read. -/
def putSettings (c : Settings) (n : Nat) (s : State) : State :=
  { s with settings := some c, bpu.guard := c.guard, bht.threshold := c.freeThreshold,
           msu.polarity := s.msu.defaultPolarity c.polarity, asu.settingsResult := n }

/-- R160: the re-read changes a setting the queued TOFs were computed under, or the polarity. -/
def mediaChanged (old new : Settings) (before after : Polarity) : Bool :=
  old.media != new.media || old.sensorDistance != new.sensorDistance
    || old.guardLength != new.guardLength || old.tofAdjust != new.tofAdjust || before != after

/-- R160: a loss of registration at a settings change. -/
def judgeMedia (old new : Settings) (before : Polarity) (s : State) : State :=
  if mediaChanged old new before s.msu.polarity then loseRegistration 2 s else s

/-- R134: the ramp table of a re-read, installed at rest and pending while the paper moves. -/
def takeRamps (t : RampTable) (s : State) : State :=
  if s.moving then { s with mtu.pendingTable := some t }
  else { s with mtu := { s.mtu with table := some t, pendingTable := none } }

/-- R109: the time at rest has passed the cool time. -/
def coolPassed (s : State) : Bool := s.seu.restTimer.any fun t => decide (s.cfg.coolTime < t)

/-- R109: the history clears and the rest timer stops. -/
def coolDown (s : State) : State := { clearHistory s with seu.restTimer := none }

/-- R170: the dwell count is at or past a dwell time that is not 0. -/
def dwellPassed (s : State) : Bool :=
  decide (s.cfg.dwellTime ≠ 0) && s.htu.dwell.any fun d => decide (100 * s.cfg.dwellTime ≤ d)

/-- R170, R126: the supply goes OFF. A line it cuts may have held a step or a rest back. -/
def dwellOff (s : State) : State := lineEnded (supplyOff s)

/-- R109, R170: a new cool time and a new dwell time apply to the timers as they stand. -/
def judgeTimers (s : State) : State :=
  let s1 := if coolPassed s then coolDown s else s
  if dwellPassed s1 then dwellOff s1 else s1

/-- R53: the completion of a re-read for the SETTINGS item at index `i`. -/
def applyReread (i : Idx) (bytes : List Byte) (s : State) : State :=
  let c := readSettings s.geo bytes
  let n := firstClamped s.geo bytes
  let s1 := takeRamps c.rampTable (reportClamped n (putSettings c n s))
  let s2 := judgeMedia s.cfg c s.msu.polarity s1
  let s3 := completeItem i .done n s2
  judgeTimers { s3 with rrd := { s3.rrd with hold := none, reread := none } }

/-! ## The end of an engage (R25) -/

/-- R25: the Bus Path Unit enters ENGAGED under geometry `g`. -/
def Bpu.engaged (b : Bpu) (g : Geometry) : Bpu :=
  { b with engagement := .engaged, geometry := some g, reads := EngageReads.empty, latch := none }

/-- R60: the Ring Reader after a successful engage. -/
def Rrd.engaged (p : Idx) : Rrd := { Rrd.reset with producer := p, take := p, walk := p, retire := p }

/-- R166: the Media Sensing Unit after a successful engage, the polarity apart. -/
def Msu.engaged (m : Msu) (position : Pos) : Msu := { m.loseAndEmpty with senseMark := position }

/-- R171, R175: the schedule starts and its first conversion is requested at once. -/
def Htu.engaged (h : Htu) : Htu := { h with schedule := some 10, conversions := h.conversions + 1 }

/-- R182: the result and the status timer of a successful engage. -/
def Asu.engaged (a : Asu) : Asu :=
  { a with statusTimer := some 0, engageResult := .success, offendingField := 0 }

/-- R25, R63, R98, R118, R134, R166, R175, R182: the units of an engage that succeeds. -/
def engageUnits (g : Geometry) (c : Settings) (p : Idx) (s : State) : State :=
  { s with
    bpu := s.bpu.engaged g
    rrd := Rrd.engaged p
    bht := Bht.engaged g.bands c.freeThreshold
    lcu := { s.lcu with stalls := 0, stretches := 0, thermalStops := 0 }
    seu := { s.seu with h1 := g.blankRow, h2 := g.blankRow }
    hdu.fired := 0
    mtu := { s.mtu with table := some c.rampTable, pendingTable := none }
    msu := s.msu.engaged s.mtu.position
    htu := s.htu.engaged
    asu := s.asu.engaged }

/-- R25: the success of an engage: the settings, the units, the engine state, the vector write and the
value the producer latch holds. -/
def succeedEngage (g : Geometry) (s : State) : State :=
  let c := readSettings g s.bpu.reads.settings
  let n := firstClamped g s.bpu.reads.settings
  let p : Idx := BitVec.ofNat 16 (leNat s.bpu.reads.producer)
  let s1 := putSettings c n (engageUnits g c p s)
  let s2 := requestVector (recomputeOffer none (setEngine (restState s1.lcu.faults) s1))
  let s3 := reportClamped n s2
  match s.bpu.latch with
  | some v => takeProducer v s3
  | none => s3

end Sys2Proof.Machine
end

