-- ==== Sys2Proof/Machine/BusCommands.lean ====
section
/-! DEFINITION. Commands of the bus: reset, engage, the producer word and other processor writes. -/

namespace Sys2Proof.Machine

/-- R36: the reset line leaves memory (and the model's queue) as they stand. -/
def resetKeeping (s : State) : State := { State.reset with mem := s.mem, pending := s.pending }

/-- RESET_ASSERT (R36 and each unit's reset rule). -/
def execResetAssert (s : State) : Host.Outcome State Fault Refusal := .next (resetKeeping s)

/-- R19: ASEL0 + 2 × ASEL1. -/
def strapValue (asel0 asel1 : Bool) : BitVec 2 := BitVec.ofNat 2 (asel0.toNat + 2 * asel1.toNat)

/-- R19: the release of an asserted reset line samples the straps. -/
def releaseReset (asel0 asel1 : Bool) (s : State) : State :=
  if s.bpu.resetLine then
    { s with bpu := { s.bpu with resetLine := false, straps := some (strapValue asel0 asel1) } }
  else s

/-- RESET_RELEASE (R19). -/
def execResetRelease (asel0 asel1 : Bool) (s : State) : Host.Outcome State Fault Refusal :=
  .next (releaseReset asel0 asel1 s)

/-- ENGAGE (R23): a full write of 1 to the engage word. -/
def execEngage (s : State) : Host.Outcome State Fault Refusal := .next (requestWrite 0x000 1 s)

/-- The geometry transfers of an engage have been requested and not checked. -/
def awaitsGeometry (s : State) : Bool :=
  s.bpu.engagement == .engaging && s.bpu.reads.accepted.isNone

/-- R24: the two geometry transfers complete and are checked. -/
def completeGeometry (s : State) : State :=
  if awaitsGeometry s then checkGeometry (grantAll Transfer.isGeometry s) else s

/-- GEOMETRY_CHECK (R24, R26). -/
def execGeometryCheck (s : State) : Host.Outcome State Fault Refusal :=
  .next (settle (completeGeometry s))

/-- R25: the engage's last read completes. -/
def completeEngage (s : State) : State :=
  if s.bpu.engagement = .engaging then
    match s.bpu.reads.accepted with
    | some g => succeedEngage g (grantAll Transfer.isEngageRead s)
    | none => s
  else s

/-- ENGAGE_SUCCESS (R25). -/
def execEngageSuccess (s : State) : Host.Outcome State Fault Refusal :=
  .next (settle (completeEngage s))

/-- PRODUCER_WRITE (R21, R39): a full write of the producer word. -/
def execProducerWrite (value : BitVec 32) (s : State) : Host.Outcome State Fault Refusal :=
  .next (requestWrite 0x008 value s)

/-! ## Other processor writes (R13, R18, R20, R27, R28) -/

/-- Bytes of a cycle. -/
def cycleBytes : Width → Nat
  | .byte => 1
  | .half => 2
  | .word => 4

/-- The address a cycle is carried at (log 10). -/
def cycleAddr (w : Width) (a : Addr) : Nat := a.toNat / cycleBytes w * cycleBytes w

/-- R28: a late write, by the guard mode. -/
def lateCycle (arg at_ : Nat) (bytes : List Byte) (s : State) : State :=
  match s.bpu.guard with
  | .pass => raise .ring Code.lateWrite (argOf arg) (s.store at_ bytes)
  | .block => raise .ring Code.lateWriteBlocked (argOf arg) s

/-- R20: a full write is a request when its address is a watched word (log 9). -/
def watchCycle (w : Width) (at_ : Nat) (data : BitVec 32) (s : State) : State :=
  match w, s.anchor? with
  | .word, some base => if base ≤ at_ then actOn (at_ - base) data s else s
  | _, _ => s

/-- R28: carry a processor write. -/
def carryWrite (w : Width) (a : Addr) (data : BitVec 32) (s : State) : State :=
  let at_ := cycleAddr w a
  let bytes := leBytes (cycleBytes w) data.toNat
  match lateWrite s at_ with
  | some arg => lateCycle arg at_ bytes s
  | none => watchCycle w at_ data (s.store at_ bytes)

/-- PROCESSOR_WRITE (R28). -/
def execProcessorWrite (w : Width) (a : Addr) (data : BitVec 32) (s : State) :
    Host.Outcome State Fault Refusal :=
  .next (carryWrite w a data (serveUrgent s))

end Sys2Proof.Machine
end

