-- ==== Sys2Proof/Machine/ControlCommands.lean ====
section
/-! DEFINITION. Commands of the control word (R77): each is a full write of its code. -/

namespace Sys2Proof.Machine

/-- A full write of the control word. -/
def controlWrite (code : BitVec 32) (s : State) : State := requestWrite 0x004 code s

/-- PAUSE (R78). -/
def execPause (s : State) : Host.Outcome State Fault Refusal := .next (controlWrite 1 s)

/-- RESUME (R78). -/
def execResume (s : State) : Host.Outcome State Fault Refusal := .next (controlWrite 2 s)

/-- CANCEL_LABEL (R79). -/
def execCancelLabel (s : State) : Host.Outcome State Fault Refusal := .next (controlWrite 3 s)

/-- CANCEL_ALL (R80). -/
def execCancelAll (s : State) : Host.Outcome State Fault Refusal := .next (controlWrite 4 s)

/-- RESTART (R81). -/
def execRestart (s : State) : Host.Outcome State Fault Refusal := .next (controlWrite 5 s)

/-- STATUS (R77). -/
def execStatus (s : State) : Host.Outcome State Fault Refusal := .next (controlWrite 6 s)

/-- OTHER_CONTROL_CODE (R77); a value of 1 to 6 is the request it names (log 9). -/
def execOtherControlCode (value : BitVec 32) (s : State) : Host.Outcome State Fault Refusal :=
  .next (controlWrite value s)

end Sys2Proof.Machine
end

