-- ==== Sys2Proof/Machine/LineCommands.lean ====
section
/-! DEFINITION. Commands of the line: the period's expiry, the starts, the shift and the bursts, the
cool time. -/

namespace Sys2Proof.Machine

/-- LINE_PERIOD_EXPIRY (R136). -/
def execLinePeriodExpiry (s : State) : Host.Outcome State Fault Refusal :=
  .next (settle (linePeriodExpires s))

/-- COPY_START (R65). -/
def execCopyStart (s : State) : Host.Outcome State Fault Refusal :=
  .next (if copyStartReady s then settle (startCopy s) else s)

/-- R70: the horizon lets a stalled copy go on. -/
def stallRestartReady (s : State) : Bool :=
  s.lcu.engine == .stalled && horizonReady s s.cfg.restartRows

/-- STALL_RESTART (R70). -/
def execStallRestart (s : State) : Host.Outcome State Fault Refusal :=
  .next (if stallRestartReady s then settle (startPrinting s) else s)

/-- R121: a shift completes: the whole set stands in the head's shift register; the slice is latched when
the burst counter is idle, and waits otherwise. -/
def completeShift (s : State) : State :=
  match s.hdu.shift with
  | .shifting n _ =>
    let s1 := shiftRest s
    if s.hdu.firing.isNone then latchSlice n s1 else { s1 with hdu.shift := .loaded n }
  | _ => s

/-- SHIFT_COMPLETE (R121). -/
def execShiftComplete (s : State) : Host.Outcome State Fault Refusal := .next (completeShift s)

/-- R123: the count reaches compare A: the strobes become inactive. -/
def compareA (s : State) : State :=
  match s.hdu.firing with
  | some f =>
    if f.active then
      { s with hdu := { s.hdu with strobes := strobesOff,
                                   firing := some { f with count := f.compareA, active := false } } }
    else s
  | none => s

/-- BURST_COMPARE_A (R123). -/
def execBurstCompareA (s : State) : Host.Outcome State Fault Refusal := .next (compareA s)

/-- R124: the line ends. -/
def endLine (s : State) : State := lineEnded (cutLine s)

/-- R121, R124: slice `n` has ended: the line ends with its last slice; a slice already shifted is
latched. -/
def endSlice (n : Nat) (s : State) : State :=
  let s1 : State := { s with hdu.firing := none }
  if (s.hdu.slice (n + 1)).isNone then endLine s1
  else if s.hdu.shift = .loaded (n + 1) then latchSlice (n + 1) s1
  else s1

/-- R123: the count reaches compare B: the next burst begins, or the slice ends. -/
def compareB (s : State) : State :=
  match s.hdu.firing with
  | some f =>
    if f.active then s
    else if (s.hdu.burst f.slice (f.burst + 1)).isSome then
      { s with hdu := s.hdu.beginBurst f.slice (f.burst + 1) }
    else endSlice f.slice s
  | none => s

/-- BURST_COMPARE_B (R123, R124, R127). -/
def execBurstCompareB (s : State) : Host.Outcome State Fault Refusal := .next (settle (compareB s))

/-- COOL_TIME_EXPIRY (R109). -/
def execCoolTimeExpiry (s : State) : Host.Outcome State Fault Refusal :=
  .next (if s.seu.restTimer.isSome then settle (coolDown s) else s)

end Sys2Proof.Machine
end

