-- ==== Sys2Proof/Machine/RingCommands.lean ====
section
/-! DEFINITION. Commands of the ring and the row supply: completions, hand-overs and outcome writes. -/

namespace Sys2Proof.Machine

/-- R62, R64: a STAGED label moves up, and in IDLE the Label Control Unit chooses. -/
def labelArrives (s : State) : State :=
  let s1 := moveUp s
  if s.lcu.engine = .idle ∧ s.lcu.printing = none ∧ s1.lcu.printing ≠ none then chooseNext s1
  else s1

/-- R41: the item fetch completes: a doomed fetch is discarded, any other is parsed. -/
def completeFetch (s : State) : State :=
  let s1 := grantAll (fun t => t == .item) s
  match s1.rrd.fetch with
  | some f =>
    if f.doomed then { s1 with rrd.fetch := none } else labelArrives (parseItem f.data s1)
  | none => s

/-- ITEM_FETCH_COMPLETE (R41). -/
def execItemFetchComplete (s : State) : Host.Outcome State Fault Refusal :=
  .next (settle (completeFetch s))

/-- SEGMENT_HANDOVER (R47). -/
def execSegmentHandover (s : State) : Host.Outcome State Fault Refusal :=
  .next (settle (handSegment s))

/-- R49, R64: a pending operation is handed over in IDLE. -/
def handOperation (s : State) : State :=
  if s.lcu.engine = .idle ∧ (operationReady s).isSome then chooseNext s else s

/-- OPERATION_HANDOVER (R49). -/
def execOperationHandover (s : State) : Host.Outcome State Fault Refusal :=
  .next (settle (handOperation s))

/-- R53: the re-read completes. -/
def completeReread (s : State) : State :=
  match s.rrd.reread, s.rrd.hold with
  | some _, some (.settings i) =>
    let s1 := grantAll Transfer.isReread s
    applyReread i (s1.rrd.reread.getD []) s1
  | _, _ => s

/-- SETTINGS_REREAD_COMPLETE (R53). -/
def execSettingsRereadComplete (s : State) : Host.Outcome State Fault Refusal :=
  .next (settle (completeReread s))

/-- R61: a context whose format record has not been read. -/
def Context.awaitsFormat (c : Context) : Bool := !c.formatRead

/-- R61: the format record reaches a context that waits for it. -/
def Context.format (rampCount : Nat) (c : Context) : Context :=
  if c.awaitsFormat then c.withFormat rampCount c.formatData else c

/-- R61: the oldest pending format read completes: that of PRINTING, else that of STAGED (log 38). -/
def completeFormat (s : State) : State :=
  match s.lcu.printing.filter Context.awaitsFormat, s.lcu.staged.filter Context.awaitsFormat with
  | some c, _ =>
    let s1 := grantAll (fun t => t == .format c.label) s
    s1.updatePrinting (Context.format s.cfg.rampCount)
  | none, some c =>
    let s1 := grantAll (fun t => t == .format c.label) s
    { s1 with lcu.staged := s1.lcu.staged.map (Context.format s.cfg.rampCount) }
  | none, none => s

/-- FORMAT_RECORD_READ (R61). -/
def execFormatRecordRead (s : State) : Host.Outcome State Fault Refusal :=
  .next (settle (completeFormat s))

/-- R88: a waiting delivery is made once its row has arrived; a line that ends at once may have held a
step or a rest back (R127). -/
def deliverWaiting (s : State) : State :=
  if s.rsu.waiting then lineEnded (deliverLine s) else s

/-- R85: the row fetch of the first PENDING slot completes. -/
def completeRow (s : State) : State :=
  if firstPending s.rsu.buffer then
    deliverWaiting { s with rsu.buffer := completeRowIn s.geo s.mem s.rsu.buffer }
  else s

/-- ROW_FETCH_COMPLETE (R85, R88). -/
def execRowFetchComplete (s : State) : Host.Outcome State Fault Refusal :=
  .next (settle (completeRow s))

/-- OUTCOME_WRITE (R56): the oldest queued outcome write is granted. -/
def execOutcomeWrite (s : State) : Host.Outcome State Fault Refusal :=
  .next (grantOne Transfer.isOutcome s)

end Sys2Proof.Machine
end

