-- ==== Sys2Proof/Machine/Sensing.lean ====
section
/-! DEFINITION. What a sensed line, a switch change and a converter sample do (R150 to R165, R171 to
R174). -/

namespace Sys2Proof.Machine

/-! ## A sensed line (R150 to R153, R158, R159, R161) -/

/-- R150: the line's position is at or ahead of the sense mark. -/
def sensedNow (p mark : Pos) : Bool := decide (0 ≤ ahead p mark)

/-- R152, R153: the tracker at a line of class `gap`, the level run already updated to `run`. -/
def trackLine (gap : Bool) (run : LevelRun) (s : State) : State :=
  if s.gapped ∧ run.length = s.cfg.guardLength then
    let s1 : State := { s with msu := s.msu.confirm gap run.first }
    match s.msu.entryAt s.cfg gap run.first with
    | some e => offerEdge e s1
    | none => s1
  else s

/-- R158: PAPER_OUT at the line that brings a GAP run to the max gap. -/
def checkPaperOut (gap : Bool) (run : LevelRun) (s : State) : State :=
  if gap ∧ s.cfg.maxGap ≠ 0 ∧ run.length = s.cfg.maxGap then
    reportFault .paperOut (loseRegistration 1 s)
  else s

/-- R159: GAP_MISSING while PRINTING, once for each BODY run. -/
def checkGapMissing (gap : Bool) (run : LevelRun) (s : State) : State :=
  if !gap ∧ s.gapped ∧ s.cfg.maxPitch ≠ 0 ∧ s.lcu.engine = .printing
      ∧ s.cfg.maxPitch ≤ run.length ∧ !run.reported then
    reportFault .gapMissing { s with msu.run := some { run with reported := true } }
  else s

/-- R151, R152: a line of class `gap` joins the level run and meets the tracker and the checks. -/
def classedLine (gap high : Bool) (p : Pos) (s : State) : State :=
  let run := nextRun s.msu.run high p
  let s1 := trackLine gap run { s with msu.run := some run }
  checkGapMissing gap run (checkPaperOut gap run s1)

/-- R151, R161: a sensed line serves the learning of a calibration run, or is classed by the polarity;
under UNKNOWN it takes no part. -/
def senseLine (high : Bool) (p : Pos) (s : State) : State :=
  match s.msu.cal with
  | some r =>
    if r.phase = .learning then
      { s with msu := s.msu.learn r (nextRun s.msu.run high p) s.cfg.guardLength }
    else match isGap s.msu.polarity high with
      | some gap => classedLine gap high p s
      | none => s
  | none => match isGap s.msu.polarity high with
    | some gap => classedLine gap high p s
    | none => s

/-- R150: the sensing of the forward line in progress. -/
def senseForward (a b c : Bool) (s : State) : State :=
  match s.msu.sensing with
  | some (p, _) =>
    let s1 : State := { s with msu.sensing := none }
    if sensedNow p s.msu.senseMark then
      senseLine (majority a b c) p { s1 with msu.senseMark := p + 1 }
    else s1
  | none => s

/-! ## The head-open switch (R164, R165) -/

/-- R126: the head opens during an ACTIVE line. -/
def cutActive (s : State) : State := if s.hdu.state = .active then cutLine s else s

/-- R165: an opening while engaged: registration is lost without REG_LOST, and the opening is a fault
or a MEDIA event. -/
def headOpens (s : State) : State :=
  let s1 : State := { s with msu := s.msu.opened s.mtu.position }
  if faultTaken .headOpen s then reportFault .headOpen s1
  else raise .media Code.headOpen 0 s1

/-- R74: the head has opened since PAPER_OUT entered the fault set. -/
def noteOpening (s : State) : State := { s with lcu.openedSincePaperOut := true }

/-- R74: what a closing removes from the fault set. -/
def clearAtClosing (s : State) : State :=
  let s1 := clearFault .headOpen s
  if s.lcu.openedSincePaperOut then clearFault .paperOut s1 else s1

/-- R165: a change of the debounced state, already made. While UNCONFIGURED no event is raised
(log 21). -/
def headChanged (s : State) : State :=
  if s.msu.headOpen then
    let s1 := noteOpening (cutActive s)
    if s.configured then headOpens s1 else s1
  else
    let s1 := clearAtClosing s
    if s.configured then raise .media Code.headClosed 0 s1 else s1

/-- R164: one sample of the switch. -/
def sampleHead (isOpen : Bool) (s : State) : State :=
  let (m, changed) := s.msu.sampleSwitch isOpen
  let s1 : State := { s with msu := m }
  if changed then headChanged s1 else s1

/-! ## Conversion samples (R171 to R174) -/

/-- R172: an invalid code. -/
def invalidSample (s : State) : State :=
  if s.htu.sensorValid then
    reportFault .thermSensor { s with htu.sensorValid := false }
  else s

/-- R70, R71, R174: a rise into HOLD. -/
def enterHold (s : State) : State :=
  match s.lcu.engine with
  | .printing => orderDeceleration (countThermalStop s)
  | .stalled => setEngine (.holding .thermal) (countThermalStop s)
  | _ => s

/-- R174: a rise into TRIP. -/
def enterTrip (s : State) : State := reportFault .thermalTrip { s with htu.trip := true }

/-- R174, R71: the grade is below HOLD: the trip condition goes, and HOLDING(THERMAL) is left. -/
def belowHold (s : State) : State :=
  let s1 : State :=
    if s.htu.trip then clearFault .thermalTrip { s with htu.trip := false } else s
  leaveThermalHold s1

/-- R174: a grade that has changed from `old`, already set. -/
def gradeChanged (old : Grade) (s : State) : State :=
  match s.htu.grade with
  | .trip => if old = .trip then s else enterTrip s
  | .hold => if old.belowHold then enterHold s else s
  | _ => belowHold s

/-- R171 to R174: a valid code. -/
def validSample (code : Byte) (s : State) : State :=
  let theta := thermistorTheta s.cfg.thermistor code.toNat
  let s1 := takeTheta theta (if s.htu.sensorValid then s else clearFault .thermSensor s)
  gradeChanged s.htu.grade { s1 with htu.grade := nextGrade s.cfg theta s.htu.grade }

/-- R171, R175: a completed conversion, one fewer outstanding (log 25), graded in every engine state.
Before the first settings there is no thermistor table to grade it by (log 20). -/
def takeSample (code : Byte) (s : State) : State :=
  let s1 : State := { s with htu.conversions := s.htu.conversions - 1 }
  if s.settings.isSome then
    if code.toNat = 0 ∨ code.toNat = 255 then invalidSample s1 else validSample code s1
  else s1

/-! ## The supply (R169) -/

/-- R169: the settle timer expires with this level of PSGD. -/
def settleExpires (psgd : Bool) (s : State) : State :=
  if s.htu.supply = .settling then
    if psgd then { s with htu := { s.htu with supply := .on, settle := none, dwell := some 0 } }
    else reportFault .supply (supplyOff s)
  else s

/-- R169: PSGD falls. -/
def psgdFalls (s : State) : State :=
  if s.htu.supply = .on then reportFault .supply (supplyOff s) else s

end Sys2Proof.Machine
end

