-- ==== Sys2Proof/Machine/SensingCommands.lean ====
section
/-! DEFINITION. Commands of sensing, temperature and the head supply. -/

namespace Sys2Proof.Machine

/-- LINE_SENSING (R150). -/
def execLineSensing (s7 s8 s9 : Bool) (s : State) : Host.Outcome State Fault Refusal :=
  .next (settle (senseForward s7 s8 s9 s))

/-- HOPEN_SAMPLE (R164, R165): sampled from the release of the reset line. -/
def execHopenSample (isOpen : Bool) (s : State) : Host.Outcome State Fault Refusal :=
  .next (if s.bpu.resetLine then s else settle (sampleHead isOpen s))

/-- R171: the schedule's time has come. -/
def periodicRequest (s : State) : State :=
  if s.htu.schedule.isSome then requestConversion { s with htu.schedule := some 10 } else s

/-- PERIODIC_CONVERSION (R171). -/
def execPeriodicConversion (s : State) : Host.Outcome State Fault Refusal :=
  .next (periodicRequest s)

/-- CONVERSION_SAMPLE (R171 to R174). -/
def execConversionSample (code : Byte) (s : State) : Host.Outcome State Fault Refusal :=
  .next (settle (takeSample code s))

/-- SETTLE_EXPIRY (R169). -/
def execSettleExpiry (psgd : Bool) (s : State) : Host.Outcome State Fault Refusal :=
  .next (settle (settleExpires psgd s))

/-- PSGD_FALL (R169). -/
def execPsgdFall (s : State) : Host.Outcome State Fault Refusal := .next (settle (psgdFalls s))

/-- R170: the dwell runs in a dwell state with a dwell time that is not 0. -/
def dwellRuns (s : State) : Bool :=
  s.htu.dwell.isSome && s.lcu.engine.dwells && decide (s.cfg.dwellTime ≠ 0)

/-- DWELL_EXPIRY (R170). -/
def execDwellExpiry (s : State) : Host.Outcome State Fault Refusal :=
  .next (if dwellRuns s then settle (dwellOff s) else s)

end Sys2Proof.Machine
end

