-- ==== Sys2Proof/Machine/Dispatch.lean ====
section
/-! DEFINITION. One arm for each row of spec/opcode_table.json. -/

namespace Sys2Proof.Machine

def exec (i : Instr) (s : State) : Host.Outcome State Fault Refusal :=
  match i with
  | .resetAssert => Sys2Proof.Machine.execResetAssert s
  | .resetRelease asel0 asel1 => Sys2Proof.Machine.execResetRelease asel0 asel1 s
  | .engage => Sys2Proof.Machine.execEngage s
  | .geometryCheck => Sys2Proof.Machine.execGeometryCheck s
  | .engageSuccess => Sys2Proof.Machine.execEngageSuccess s
  | .pause => Sys2Proof.Machine.execPause s
  | .resume => Sys2Proof.Machine.execResume s
  | .cancelLabel => Sys2Proof.Machine.execCancelLabel s
  | .cancelAll => Sys2Proof.Machine.execCancelAll s
  | .restart => Sys2Proof.Machine.execRestart s
  | .status => Sys2Proof.Machine.execStatus s
  | .otherControlCode value => Sys2Proof.Machine.execOtherControlCode value s
  | .producerWrite value => Sys2Proof.Machine.execProducerWrite value s
  | .maskWordWrite value => Sys2Proof.Machine.execMaskWordWrite value s
  | .endOfService value => Sys2Proof.Machine.execEndOfService value s
  | .acknowledge => Sys2Proof.Machine.execAcknowledge s
  | .processorWrite width addr data => Sys2Proof.Machine.execProcessorWrite width addr data s
  | .itemFetchComplete => Sys2Proof.Machine.execItemFetchComplete s
  | .segmentHandover => Sys2Proof.Machine.execSegmentHandover s
  | .operationHandover => Sys2Proof.Machine.execOperationHandover s
  | .settingsRereadComplete => Sys2Proof.Machine.execSettingsRereadComplete s
  | .formatRecordRead => Sys2Proof.Machine.execFormatRecordRead s
  | .rowFetchComplete => Sys2Proof.Machine.execRowFetchComplete s
  | .outcomeWrite => Sys2Proof.Machine.execOutcomeWrite s
  | .vectorWordWrite => Sys2Proof.Machine.execVectorWordWrite s
  | .statusRefresh => Sys2Proof.Machine.execStatusRefresh s
  | .statusTimer => Sys2Proof.Machine.execStatusTimer s
  | .linePeriodExpiry => Sys2Proof.Machine.execLinePeriodExpiry s
  | .copyStart => Sys2Proof.Machine.execCopyStart s
  | .stallRestart => Sys2Proof.Machine.execStallRestart s
  | .shiftComplete => Sys2Proof.Machine.execShiftComplete s
  | .burstCompareA => Sys2Proof.Machine.execBurstCompareA s
  | .burstCompareB => Sys2Proof.Machine.execBurstCompareB s
  | .coolTimeExpiry => Sys2Proof.Machine.execCoolTimeExpiry s
  | .lineSensing s7 s8 s9 => Sys2Proof.Machine.execLineSensing s7 s8 s9 s
  | .hopenSample isOpen => Sys2Proof.Machine.execHopenSample isOpen s
  | .periodicConversion => Sys2Proof.Machine.execPeriodicConversion s
  | .conversionSample code => Sys2Proof.Machine.execConversionSample code s
  | .settleExpiry psgd => Sys2Proof.Machine.execSettleExpiry psgd s
  | .psgdFall => Sys2Proof.Machine.execPsgdFall s
  | .dwellExpiry => Sys2Proof.Machine.execDwellExpiry s

end Sys2Proof.Machine
end

