-- ==== Sys2Proof/Safety.lean ====
section
/-! DEFINITION. What a safe state is, in the terms the claims use, and the output pins. -/

namespace Sys2Proof.Machine

/-! ## Output pins -/

/-- R167: PSEN is asserted while the supply is SETTLING or ON. -/
def State.psen (s : State) : Bool := s.htu.supply != .off

/-- R132: the level of DIR, `true` forward. -/
def State.dir (s : State) : Bool := s.mtu.dirForward

/-- R118: a strobe line is active. -/
def State.strobing (s : State) : Bool := s.hdu.strobes.any id

/-! ## Invariants -/

/-- R126, R129: outside ACTIVE nothing fires or shifts; ACTIVE needs the supply ON and the head closed;
until the switch is known the head counts as open (R164). -/
structure StrobeSafe (s : State) : Prop where
  strobes : s.hdu.state ≠ .active → s.hdu.strobes = strobesOff
  firing : s.hdu.state ≠ .active → s.hdu.firing = none
  shift : s.hdu.state ≠ .active → s.hdu.shift = .idle
  allowed : s.hdu.state = .active → s.htu.supply = .on ∧ s.msu.headOpen = false
  unknown : s.msu.switchKnown = false → s.msu.headOpen = true

/-- R177: the offer stands as the flags and masks give it. -/
def OfferRight (s : State) : Prop := s.asu.offer = offerOf s

/-- R4, R11: the free count is the number of bands whose hold count is 0. -/
def FreeCountRight (s : State) : Prop :=
  s.bht.free = s.bht.entries.countP (fun e => e.hold == 0)

/-- R82, R83, R149: the segment queue and the line buffer hold at most 8, the edge queue and the passed
list at most 16. R95: the line buffer is empty unless the part is ENGAGED, so no row fetch waits while ENGAGING. -/
structure Bounded (s : State) : Prop where
  queue : s.rsu.queue.length ≤ Config.queueSize
  buffer : s.rsu.buffer.length ≤ Config.bufferSize
  edges : s.msu.queue.length ≤ Config.edgeSize
  passed : s.msu.passed.length ≤ Config.edgeSize
  quiet : s.bpu.engagement ≠ .engaged → s.rsu.buffer = []

/-! ## Who writes memory -/

/-- Address `a` is one of the `n` bytes from `base`. -/
def touches (base n a : Nat) : Prop := ∃ k, k < n ∧ a = wrapAddr (base + k)

/-- From `s` to `t` memory has `bytes` from address `a`, and every byte outside them reads as before. -/
def StoredAt (s t : State) (a : Nat) (bytes : List Byte) : Prop :=
  (Memory.wf s.mem = true → t.mem.readBytes a bytes.length = bytes) ∧
    ∀ b, ¬ touches a bytes.length b → t.mem.read b = s.mem.read b

/-- R183: the bytes a waiting transfer writes at its grant. -/
def Transfer.writes (anchor : Nat) (a : Nat) : Transfer → Prop
  | .outcome at_ _ => touches at_ 4 a
  | .vector => touches (anchor + 0x10) 4 a
  | .statusOdd => touches (anchor + 0x100) 4 a
  | .statusBody k => touches (anchor + 0x104 + 16 * k) (if k = 3 then 12 else 16) a
  | .statusEven => touches (anchor + 0x100) 4 a
  | _ => False

/-- Some waiting part write covers address `a`. -/
def partWrites (s : State) (a : Nat) : Prop :=
  ∃ t ∈ s.bpu.waiting, t.writes s.anchor a

/-- The anchor word a command writes as a processor cycle. -/
def Instr.requestOffset : Instr → Option Nat
  | .engage => some 0x000
  | .pause => some 0x004
  | .resume => some 0x004
  | .cancelLabel => some 0x004
  | .cancelAll => some 0x004
  | .restart => some 0x004
  | .status => some 0x004
  | .otherControlCode _ => some 0x004
  | .producerWrite _ => some 0x008
  | .maskWordWrite _ => some 0x00C
  | .endOfService _ => some 0x014
  | _ => none

/-- R18: the bytes a command writes as a processor cycle. -/
def cycleWrites (c : Instr) (s : State) (a : Nat) : Prop :=
  match c with
  | .processorWrite w at_ _ => touches (cycleAddr w at_) (cycleBytes w) a
  | i => match Instr.requestOffset i with
    | some off => touches (s.anchor + off) 4 a
    | none => False

/-- A request word written as a full write: memory holds it, and the urgent row fetches that went before
it (R33) are the only other change outside what the request does. -/
def requested (s : State) (offset : Nat) (v : BitVec 32) : State :=
  (serveUrgent s).store (s.anchor + offset) (leBytes 4 v.toNat)

/-! ## What the head of the stream gives -/

/-- R83: what is left of a run after one of its lines. -/
def runLeft (isRepeat : Bool) (n copy : Nat) (label : Idx) (rest : List Slot) : List Slot :=
  if n ≤ 1 then rest else .run isRepeat (n - 1) copy label :: rest

/-- R87: the rows of the delivery table: the row a line of a copy gets, what the buffer keeps, and the
repeat image after it. A PENDING head slot gives nothing yet (R88). -/
inductive HeadGives (s : State) : Dots → List Slot → Option RepeatImage → Prop
  | row (b r c : Nat) (l : Idx) (got : List Byte) (dots : Dots) (rest : List Slot)
      (h : s.rsu.buffer = .row b r c l got (some dots) :: rest) :
      HeadGives s dots rest (some { image := dots, copy := c, label := l })
  | repeats (n : Nat) (i : RepeatImage) (rest : List Slot)
      (h : s.rsu.buffer = .run true n i.copy i.label :: rest) (k : s.rsu.repeatImage = some i) :
      HeadGives s i.image (runLeft true n i.copy i.label rest) (some i)
  | repeatsNothing (n c : Nat) (l : Idx) (rest : List Slot)
      (h : s.rsu.buffer = .run true n c l :: rest)
      (k : ∀ i, s.rsu.repeatImage = some i → ¬ (i.copy = c ∧ i.label = l)) :
      HeadGives s s.geo.blankRow (runLeft true n c l rest) s.rsu.repeatImage
  | blank (n c : Nat) (l : Idx) (rest : List Slot) (h : s.rsu.buffer = .run false n c l :: rest) :
      HeadGives s s.geo.blankRow (runLeft false n c l rest) s.rsu.repeatImage
  | endMark (c : Nat) (l : Idx) (rest : List Slot) (h : s.rsu.buffer = .endMark c l :: rest) :
      HeadGives s s.geo.blankRow s.rsu.buffer s.rsu.repeatImage
  | none (h : s.rsu.buffer = []) : HeadGives s s.geo.blankRow [] s.rsu.repeatImage

/-! ## What retires -/

/-- R10, R55, R56, R58: the outcome writes of a run of retiring items in ring order, each formed with the
hold table after the item's own release; an item retired silently has none. -/
def outcomesOf (g : Geometry) : Bht → List ItemEntry → List Transfer
  | _, [] => []
  | h, e :: rest =>
    let after := h.releaseItem e.index
    let write : Transfer :=
      .outcome (g.slotAddr e.index + 12) (outcomeWord after (h.releasedBand e.index) e)
    (if e.silent then [] else [write]) ++ outcomesOf g after rest

/-- R55: code and argument of the LABEL event of a retiring item, if it has one; a refused item has none
(log 40). A label's tag is that of its item's first walk (log 55). -/
def labelEvent (e : ItemEntry) : Option (Nat × BitVec 16) :=
  if e.silent ∨ e.result = some .refused then none
  else match e.kind with
    | .label => some (Code.labelRetired, e.tag)
    | .feed => some (Code.feedDone, e.index)
    | .settings => some (Code.settingsTaken, e.index)
    | _ => none

/-! ## What follows a command -/

/-- R41: a fetch of the item at the walk index is to be requested. -/
def FetchWanted (u : State) : Prop :=
  u.bpu.engagement = .engaged ∧ u.rrd.walk ≠ u.rrd.producer ∧ u.rrd.fetch = none ∧
    u.rrd.hold = none ∧ (u.rrd.inside = true ∨ u.lcu.staged = none)

/-- R53: with the retire index at `retire`, the re-read of the waiting SETTINGS item is to begin. -/
def RereadWanted (u : State) (retire : Idx) : Prop :=
  u.bpu.engagement = .engaged ∧ u.rrd.reread = none ∧ u.rrd.hold = some (.settings retire)

/-- R116: the engine states in which the next forward line may carry the PRINTING label's copy. For
HOLDING(PAUSE) with a seek or a calibration to come, the model's choice (log 53). -/
def Engine.suppliesCopy (e : Engine) : Prop :=
  e = .printing ∨ e = .arming ∨ e = .stalled ∨ ∃ r, e = .holding r

/-- R116, R117: the forecast of `t`: the line record of the row the head of the stream gives (`HeadGives`),
of a row with every dot on while the head row is PENDING, and a blank one where no copy is to come. In
HOLDING(PAUSE) it reads the stream also where a seek or a calibration line comes first: the model's choice
(log 53). -/
structure ForecastRight (t : State) : Prop where
  row : ∀ c dots left image, t.settings ≠ none → t.lcu.engine.suppliesCopy →
    t.lcu.printing = some c → HeadGives t dots left image →
    t.seu.forecast = lineRecord t.geo t.cfg t.seu.band c.darkness t.seu.h1 t.seu.h2 dots none
  pendingRow : ∀ c b r k l got rest, t.settings ≠ none → t.lcu.engine.suppliesCopy →
    t.lcu.printing = some c → t.rsu.buffer = .row b r k l got none :: rest →
    t.seu.forecast = lineRecord t.geo t.cfg t.seu.band c.darkness t.seu.h1 t.seu.h2
      (List.replicate t.geo.dots true) none
  blank : t.settings = none ∨ ¬ t.lcu.engine.suppliesCopy ∨ t.lcu.printing = none →
    t.seu.forecast.slices = []

/-- R67, R141: the tail run-on of `t` stands while a copy is PRINTING on gapped media with every row
delivered and no TOF queued. -/
def TailRunOnRight (t : State) : Prop :=
  t.mtu.tailRunOn = true ↔
    t.lcu.engine = .printing ∧ t.lcu.started = true ∧ t.gapped = true ∧ t.msu.queue = [] ∧
      ∃ c rest, t.lcu.printing = some c ∧ t.rsu.buffer = .endMark c.copy c.label :: rest

/-- From `u`, a command's own effect, to `t`: what the part then does by itself (a retire advance, R55;
the line buffer's fill, R84; the reads it asks for, R41, R53; the tail run-on, R141; the forecast and its
line time, R116, R117, R128) leaves everything else as in `u`, and no item retires where the oldest is not
COMPLETE or the walk index stands at it (log 51). The line clock keeps its count (log 54), and in HOLDING(PAUSE)
the forecast is that of log 53. -/
structure FollowsUp (u t : State) : Prop where
  mem : t.mem = u.mem
  pending : t.pending = u.pending
  settings : t.settings = u.settings
  prescaler : t.prescaler = u.prescaler
  lcu : t.lcu = u.lcu
  msu : t.msu = u.msu
  htu : t.htu = u.htu
  mtu : t.mtu = { u.mtu with tailRunOn := t.mtu.tailRunOn }
  hdu : t.hdu = { u.hdu with forecastTime := t.hdu.forecastTime }
  seu : t.seu = { u.seu with forecast := t.seu.forecast }
  bpu : t.bpu = { u.bpu with waiting := t.bpu.waiting }
  rrd : t.rrd = { u.rrd with retire := t.rrd.retire, table := t.rrd.table, fetch := t.rrd.fetch,
                             reread := t.rrd.reread }
  rsu : t.rsu = if u.bpu.engagement = .engaged then u.rsu.fill else u.rsu
  asu : t.asu = { u.asu with records := t.asu.records, offer := t.asu.offer }
  tailRunOn : TailRunOnRight t
  forecast : ForecastRight t
  forecastTime : t.hdu.forecastTime = t.seu.forecast.time t.geo.dots t.cfg.dotLimit t.cfg.tGap
  fetch : FetchWanted u → t.rrd.fetch = some { index := u.rrd.walk, data := [], doomed := false }
  noFetch : ¬ FetchWanted u → t.rrd.fetch = u.rrd.fetch
  reread : RereadWanted u t.rrd.retire → t.rrd.reread = some []
  noReread : ¬ RereadWanted u t.rrd.retire → t.rrd.reread = u.rrd.reread
  threshold : t.bht.threshold = u.bht.threshold
  waiting : ∃ retired rereads items, t.bpu.waiting = retired ++ rereads ++ items ∧
    (RereadWanted u t.rrd.retire → rereads = (List.range 16).map Transfer.reread) ∧
    (¬ RereadWanted u t.rrd.retire → rereads = []) ∧
    (FetchWanted u → items = [.item]) ∧ (¬ FetchWanted u → items = []) ∧
    ((∀ e ∈ u.rrd.table.head?, e.complete = false ∨ e.index = u.rrd.walk) →
      retired = u.bpu.waiting)
  retires : ∀ run rest, u.rrd.table = run ++ rest →
    (∀ e ∈ run, e.complete = true ∧ e.index ≠ u.rrd.walk) →
    (∀ e ∈ rest.head?, e.complete = false ∨ e.index = u.rrd.walk) →
    t.rrd.retire = u.rrd.retire + BitVec.ofNat 16 run.length ∧ t.rrd.table = rest ∧
      t.bht = run.foldl (fun h e => h.releaseItem e.index) u.bht ∧
      t.bpu.waiting.filter Transfer.isOutcome =
        u.bpu.waiting.filter Transfer.isOutcome ++ outcomesOf u.geo u.bht run
  quiet : (∀ e ∈ u.rrd.table.head?, e.complete = false ∨ e.index = u.rrd.walk) →
    t.rrd.retire = u.rrd.retire ∧ t.rrd.table = u.rrd.table ∧ t.bht = u.bht ∧ t.asu = u.asu

/-! ## Requests that merge -/

/-- R177: a vector write requested: at most one waits. -/
def withVector (w : List Transfer) : List Transfer :=
  if Transfer.vector ∈ w then w else w ++ [.vector]

/-- R180, R181: a refresh requested: at most one waits whose odd write has not been granted. -/
def withRefresh (w : List Transfer) : List Transfer :=
  if Transfer.statusOdd ∈ w then w
  else w ++ [.statusOdd, .statusBody 0, .statusBody 1, .statusBody 2, .statusBody 3, .statusEven]

/-! ## What a label's items become, and an entry into ARMING -/

/-- R54, R57: the entry completes with this result; a refused item keeps REFUSED. -/
def ItemEntry.ends (r : ItemResult) (e : ItemEntry) : ItemEntry :=
  { e with complete := true, result := some (if e.result = some .refused then .refused else r) }

/-- R54, R56, R57: the item table with the items from `label` to `closing`, measured from the retire index,
completed; the LABEL item's entry takes the counts. -/
def labelEnds (retire label closing : Idx) (r : ItemResult) (good spoiled : Nat)
    (table : List ItemEntry) : List ItemEntry :=
  table.map fun e =>
    if (label - retire).toNat ≤ (e.index - retire).toNat ∧
        (e.index - retire).toNat ≤ (closing - retire).toNat then
      if e.index = label then { e.ends r with byte13 := min 255 spoiled, half14 := good }
      else e.ends r
    else e

/-- R52, R75, R93: the copy of context `c` is spoiled: the spoil counts where the copy has strobed, and orders
the same copy again, or after a counted spoil without the permission the next. The stream, the output hold
and the STAGED context empty, the walk goes back into the body, and the spoil of a last copy ends the label. -/
def CopySpoiled (t : State) (c : Context) : Prop :=
  let d : Context :=
    if c.strobed then
      if c.permission then { c with spoiled := c.spoiled + 1, reprintMark := true }
      else { c with spoiled := c.spoiled + 1, copy := c.copy + 1 }
    else c
  t.lcu.printing = (if c.total < d.copy then none else some d) ∧ t.lcu.staged = none ∧
  t.lcu.copyTof = none ∧ t.lcu.started = false ∧ t.lcu.restTof = none ∧
  t.rsu.queue = [] ∧ t.rsu.buffer = [] ∧ t.rsu.repeatImage = none ∧ t.rsu.discard = none ∧
  t.rrd.hold = none ∧ t.rrd.impliedClose = false ∧
  (d.copy ≤ c.total → t.rrd.walk = c.label + 1 ∧ t.rrd.supplyCopy = d.copy ∧
    t.rrd.inside = true) ∧
  (∀ k, c.total < d.copy → c.closing = some k → t.rrd.walk = k + 1 ∧ t.rrd.inside = false)

/-- R163: a failed or abandoned calibration run has ended: its saved polarity and source stand again, and
registration is LOST with the tracker at START. -/
def CalibrationDropped (s t : State) (r : CalRun) : Prop :=
  t.msu.polarity = r.savedPolarity ∧ t.msu.calibrated = r.savedCalibrated ∧ t.msu.cal = none ∧
  t.msu.valid = false ∧ t.msu.queue = [] ∧ t.msu.passed = [] ∧ t.msu.phase = .start ∧
  t.msu.run = none ∧ t.msu.refEdge = none ∧ t.msu.openGap = none ∧
  t.msu.calPitch = s.msu.calPitch ∧ t.msu.calGap = s.msu.calGap

/-- R73, R145: from `s` with the paper moving, a fault with this code has been taken: the paper stops, the
strobes are cut and the supply is OFF. -/
def FaultStops (s t : State) (r : FaultReason) : Prop :=
  t.lcu.engine = .faulted ∧ t.lcu.faults = s.lcu.faults.set r true ∧ t.lcu.restTof = none ∧
  t.mtu.motion = .rest ∧ t.mtu.ramp = 0 ∧ t.mtu.timer = none ∧ t.mtu.position = s.mtu.position ∧
  t.htu.supply = .off ∧ t.hdu.state = .idle ∧ t.hdu.strobes = List.replicate 8 false ∧
  t.mem = s.mem ∧
  (t.asu.records.get .fault).pending = true ∧ (t.asu.records.get .fault).code = r.code

/-- R65, R66, R146, R161, R168, R171: from `s`, an entry into ARMING asks for the supply and a conversion.
On continuous media the copy's TOF is the rest TOF, or without one the media position. On gapped media an
unknown polarity starts a calibration run, a lost registration or an absent rest TOF a seek, and else the
copy's TOF is the rest TOF; paper that lies ahead of it is backfed to it. -/
def EntersArming (s t : State) : Prop :=
  let stepped : Prop := t.mtu.motion = .forward ∧ t.mtu.dirForward = true ∧ t.mtu.ramp = 0 ∧
    t.mtu.position = s.mtu.position + 1 ∧ t.seu.restTimer = none ∧
    t.mtu.timer = some { period := s.mtu.ramps.period 0, elapsed := 0 }
  let placed (p : Pos) : Prop :=
    let k := linesAhead s.mtu.position p
    t.lcu.engine = .arming ∧ t.lcu.copyTof = some p ∧ t.lcu.started = false ∧
    (k = 0 → t.mtu = { s.mtu with tailRunOn := t.mtu.tailRunOn }) ∧
    (0 < k → t.mtu.motion = .backward ∧ t.mtu.dirForward = false ∧ t.mtu.ramp = 0 ∧
      t.mtu.position = s.mtu.position - 1 ∧ t.mtu.backfeed = k - 1 ∧
      t.mtu.timer = some { period := s.mtu.ramps.period 0, elapsed := 0 } ∧
      t.seu.h1 = s.geo.blankRow ∧ t.seu.h2 = s.geo.blankRow ∧ t.seu.restTimer = none)
  let target := (s.msu.queue.find? fun e => decide (1 ≤ ahead e.tof s.mtu.position)).map
    fun e => e.tof
  t.lcu.pauseLatch = false ∧
  (s.lcu.engine ≠ .arming → t.htu.dwell = s.htu.dwell.map fun _ => 0) ∧
  t.htu = { s.htu with
    dwell := t.htu.dwell
    conversions := s.htu.conversions + 1
    supply := if s.htu.supply = .off then .settling else s.htu.supply
    settle := if s.htu.supply = .off then
      some { time := s.cfg.settleTime, elapsed := 0 } else s.htu.settle } ∧
  (s.gapped = false → placed (s.lcu.restTof.getD s.mtu.position)) ∧
  (s.gapped = true → s.msu.polarity = .unknown →
    stepped ∧ t.lcu.engine = .calibrating .arming ∧ t.mtu.limitZero = true ∧
    t.mtu.source = .distance .unbounded ∧ t.msu.polarity = .unknown ∧ t.msu.valid = false ∧
    t.msu.queue = [] ∧ t.msu.passed = [] ∧ t.msu.phase = .start ∧ t.msu.run = none ∧
    t.msu.senseMark = s.mtu.position ∧
    t.msu.cal = some { phase := .learning, count := 1, measured := none,
                       savedPolarity := .unknown, savedCalibrated := s.msu.calibrated }) ∧
  (s.gapped = true → s.msu.polarity ≠ .unknown → s.msu.cal = none →
    s.msu.valid = false ∨ s.lcu.restTof = none →
    stepped ∧ t.lcu.engine = .seeking ∧
    t.lcu.seek = some { start := s.mtu.position, target := target } ∧
    t.mtu.source = .distance (match target with
      | some p => .at p
      | none => .renewed)) ∧
  (∀ p, s.gapped = true → s.msu.polarity ≠ .unknown → s.msu.valid = true →
    s.lcu.restTof = some p → placed p)

/-! ## RESTART -/

/-- R81 and each unit's RESTART rule: what RESTART leaves. R163: a calibration run under way is abandoned, with
no event: the codes and arguments of all records stand. -/
structure Restarted (s t : State) : Prop where
  engine : t.lcu.engine = restState s.lcu.faults.dropLatched
  faults : t.lcu.faults = s.lcu.faults.dropLatched
  contexts : t.lcu.printing = none ∧ t.lcu.staged = none ∧ t.lcu.operation = none
  latches : t.lcu.pauseLatch = false ∧ t.lcu.restTof = none
  totals : t.lcu.stalls = s.lcu.stalls ∧ t.lcu.stretches = s.lcu.stretches ∧
    t.lcu.thermalStops = s.lcu.thermalStops
  motion : t.mtu.motion = .rest ∧ t.mtu.ramp = 0 ∧ t.mtu.timer = none ∧ t.mtu.dirForward = true
  position : t.mtu.position = s.mtu.position
  head : t.hdu.state = .idle ∧ t.hdu.strobes = strobesOff ∧ t.hdu.fired = s.hdu.fired ∧
    t.hdu.register = s.hdu.register ∧ t.hdu.latch = s.hdu.latch
  supply : t.htu.supply = .off ∧ t.htu.settle = none ∧ t.htu.dwell = none
  temperature : t.htu.theta = s.htu.theta ∧ t.htu.grade = s.htu.grade
  ring : t.rrd = s.rrd.restarted
  holds : t.bht = s.bht.cleared
  stream : t.rsu.queue = [] ∧ t.rsu.buffer = []
  history : t.seu.h1 = s.geo.blankRow ∧ t.seu.h2 = s.geo.blankRow ∧ t.seu.band = s.seu.band
  media : s.msu.cal = none → t.msu = { s.msu with sensing := none }
  calibration : ∀ r, s.msu.cal = some r → CalibrationDropped s t r ∧
    t.msu = { t.msu with
      senseMark := s.msu.senseMark, lastPitch := s.msu.lastPitch, headOpen := s.msu.headOpen
      agree := s.msu.agree, lastSample := s.msu.lastSample, switchKnown := s.msu.switchKnown
      sensing := none }
  flags : ∀ n, (t.asu.records.get n).pending = false ∧ (t.asu.records.get n).inService = false ∧
    (t.asu.records.get n).count = 0 ∧ (t.asu.records.get n).code = (s.asu.records.get n).code ∧
    (t.asu.records.get n).arg = (s.asu.records.get n).arg
  masks : t.asu.masks = s.asu.masks
  bus : t.bpu.engagement = s.bpu.engagement ∧ t.bpu.geometry = s.bpu.geometry ∧
    t.bpu.guard = s.bpu.guard
  settings : t.settings = s.settings

/-! ## What the strobes do to a dot -/

/-- R105: the time slice `x` strobes dot `k`. -/
def Slice.strobeTime (x : Slice) (k : Nat) : Nat := if x.dots[k]? = some true then x.duration else 0

/-- R105: the time a line strobes dot `k`. -/
def LineRecord.strobeTime (r : LineRecord) (k : Nat) : Nat :=
  (r.slices.map fun x => x.strobeTime k).sum

end Sys2Proof.Machine
end

