-- ==== Sys2Proof/Certificates/Slice0/Obligations.lean ====
section
/-! DEFINITION. The statements for the provers. A statement about a command says, under hypotheses on
the state and the operands alone, that `exec` answers a next state and what that state holds; `FollowsUp u t`
says that beyond the named effect `u` only what follows every command has changed. -/

open Sys2Proof Sys2Proof.Machine

/-! ## The step -/

/-- R20, chapter 95: the command at the front of the queue runs on the state with the queue's rest, and an
empty queue makes an idle step (log 3). -/
def Obligations.StepRunsFront : Prop :=
  (∀ (c : Instr) (rest : List Instr) (s : State), s.pending = c :: rest →
    step s = exec c { s with pending := rest }) ∧
  ∀ s : State, s.pending = [] → step s = .next (idle s)

/-! ## Reset, engage and the processor's writes -/

/-- R36, R17, R60, R63, R95, R118, R148, R164, R166, R175, R182: the assertion of the reset line puts every
unit into its reset state and leaves memory. What R36 and its fellows leave open is the model's (log 7), and what
they imply without a word is its reading (log 45). -/
def Obligations.ResetAssert : Prop :=
  ∀ s : State, ∃ t, exec .resetAssert s = .next t ∧
    t = { State.reset with mem := s.mem, pending := s.pending } ∧
    t.anchor? = none ∧ t.bpu.engagement = .notEngaged ∧ t.bpu.guard = .pass ∧
    t.bpu.latch = none ∧ t.bpu.waiting = [] ∧ t.bpu.geometry = none ∧
    t.bht.entries = [] ∧ t.bht.release = [] ∧ t.bht.free = 0 ∧ t.bht.threshold = 1 ∧
    t.lcu.engine = .unconfigured ∧ t.lcu.faults = FaultSet.empty ∧ t.lcu.pauseLatch = false ∧
    t.rrd.producer = 0 ∧ t.rrd.take = 0 ∧ t.rrd.walk = 0 ∧ t.rrd.retire = 0 ∧
    t.rsu.buffer = [] ∧ t.rsu.queue = [] ∧ t.rsu.filling = true ∧
    t.hdu.state = .idle ∧ t.hdu.strobes = List.replicate 8 false ∧ t.hdu.fired = 0 ∧
    t.mtu.motion = .rest ∧ t.mtu.ramp = 0 ∧ t.mtu.position = 0 ∧
    t.msu.polarity = .unknown ∧ t.msu.valid = false ∧ t.msu.headOpen = true ∧
    t.htu.supply = .off ∧ t.htu.theta = 25 ∧ t.htu.grade = .normal ∧
    t.asu.offer = none ∧ t.asu.sequence = 0 ∧ (∀ n, t.asu.masks.get n = true)

/-- R19: the release samples the straps and so fixes the anchor base. The release of a line that is not
asserted cannot occur and changes nothing (log 4). -/
def Obligations.ResetRelease : Prop :=
  ∀ (asel0 asel1 : Bool) (s : State), ∃ t, exec (.resetRelease asel0 asel1) s = .next t ∧
    (s.bpu.resetLine = true →
      t.anchor? = some (match asel1, asel0 with
        | false, false => 0x0FF000
        | false, true => 0x3FF000
        | true, false => 0x7FF000
        | true, true => 0xFFF000) ∧
      t.bpu.resetLine = false ∧
      t = { s with bpu := { s.bpu with resetLine := false, straps := t.bpu.straps } }) ∧
    (s.bpu.resetLine = false → t = s)

/-- R23: an engage request. In NOT_ENGAGED the part enters ENGAGING and asks for the geometry block; while
ENGAGING the write is not acted on; in ENGAGED a RESTART goes before. -/
def Obligations.EngageBegins : Prop :=
  ∀ s : State, s.anchor? ≠ none → ∃ t, exec .engage s = .next t ∧
    StoredAt s t s.anchor [1, 0, 0, 0] ∧
    (s.bpu.engagement = .notEngaged →
      FollowsUp
        { requested s 0 1 with
          bpu := { s.bpu with engagement := .engaging, reads := EngageReads.empty,
                              waiting := s.bpu.waiting ++ [.geometry 0, .geometry 1] } } t) ∧
    (s.bpu.engagement = .engaging → FollowsUp (requested s 0 1) t) ∧
    (s.bpu.engagement = .engaged → ∃ r, Restarted s r ∧
      FollowsUp
        { r with
          bpu := { r.bpu with engagement := .engaging, reads := EngageReads.empty,
                              waiting := r.bpu.waiting ++ [.geometry 0, .geometry 1] } } t)

/-- R24: the geometry check answers 0 exactly for a geometry that meets all twelve conditions, and otherwise
the number of the first condition that fails. -/
def Obligations.GeometryRules : Prop :=
  ∀ (g : Geometry) (anchor : Nat),
    let window := g.bands * g.height * (g.dots / 8)
    let holds : Nat → Prop := fun n => match n with
      | 1 => 128 ≤ g.dots ∧ g.dots ≤ 1024 ∧ g.dots % 32 = 0
      | 2 => g.groups = 1 ∨ g.groups = 2 ∨ g.groups = 4 ∨ g.groups = 8
      | 3 => g.height = 8 ∨ g.height = 16 ∨ g.height = 32 ∨ g.height = 64
      | 4 => 2 ≤ g.bands ∧ g.bands ≤ 64
      | 5 => g.imageBase % 4 = 0
      | 6 => g.ringBase % 16 = 0
      | 7 => g.slots = 16 ∨ g.slots = 32 ∨ g.slots = 64 ∨ g.slots = 128 ∨ g.slots = 256
      | 8 => g.imageBase + window ≤ 0x1000000
      | 9 => g.ringBase + g.slots * 16 ≤ 0x1000000
      | 10 => ∀ a, ¬ ((g.imageBase ≤ a ∧ a < g.imageBase + window) ∧
                      (anchor ≤ a ∧ a < anchor + 0x1000))
      | 11 => ∀ a, ¬ ((g.ringBase ≤ a ∧ a < g.ringBase + g.slots * 16) ∧
                      (anchor ≤ a ∧ a < anchor + 0x1000))
      | 12 => ∀ a, ¬ ((g.imageBase ≤ a ∧ a < g.imageBase + window) ∧
                      (g.ringBase ≤ a ∧ a < g.ringBase + g.slots * 16))
      | _ => True
    (geometryCheck g anchor = 0 ↔ ∀ n, holds n) ∧
    ∀ n, n ≠ 0 → geometryCheck g anchor = n → ¬ holds n ∧ ∀ k, k < n → holds k

/-- R24, R26: both geometry transfers complete with the 32 bytes at anchor + 40H. A geometry that passes has
the settings block and the producer word read; one that fails refuses the engage with its number. The grants
the check waits for are taken inside the command (the model's choice, log 5). R175: the Head Supply and Temperature
Unit stays as it is but for its schedule; that the other units keep the settings too is the model's reading
(log 20). -/
def Obligations.GeometryChecked : Prop :=
  ∀ s : State, s.bpu.engagement = .engaging → s.bpu.reads = EngageReads.empty →
    s.bpu.waiting.filter Transfer.isDescriptor = [.geometry 0, .geometry 1] →
    rowWaits s = false → ∃ t, exec .geometryCheck s = .next t ∧ t.mem = s.mem ∧
    let b := s.mem.readBytes (s.anchor + 0x40) 32
    let n := geometryCheck (readGeometry b) s.anchor
    let others := s.bpu.waiting.filter (fun x => !x.isGeometry)
    (n = 0 →
      FollowsUp
        { s with
          bpu := { s.bpu with
            reads := { s.bpu.reads with geometry := b, accepted := some (readGeometry b) }
            waiting := others ++ ((List.range 16).map Transfer.settings ++ [.producer]) } } t) ∧
    (n ≠ 0 →
      t.bpu.engagement = .notEngaged ∧ t.bpu.geometry = none ∧ t.bpu.latch = none ∧
      t.settings = s.settings ∧ t.htu = { s.htu with schedule := none } ∧ t.bht.entries = [] ∧ t.bht.release = [] ∧ t.bht.free = 0 ∧
      t.bht.threshold = 1 ∧ t.lcu.engine = .unconfigured ∧ t.asu.engageResult = .refused ∧
      t.asu.offendingField = n ∧ t.asu.offer = none ∧ t.asu.statusTimer = none ∧
      t.bpu.guard = s.bpu.guard ∧ Transfer.statusOdd ∈ t.bpu.waiting)

/-- R25: an engage whose geometry has passed succeeds once the settings block and the producer word have
been read. With an empty producer latch all four indices are the word read; a latched value that the
producer check accepts then becomes the producer index (R21: a value is latched only once the producer word has
been read). The first `k` of the sixteen settings transfers, or all seventeen reads, may have been granted before
by idle steps; the rest are granted inside the command (the model's choice, log 5). No row fetch waits while ENGAGING
(`Bounded`, kept by every step: StepKeepsCounts). -/
def Obligations.EngageSucceeds : Prop :=
  ∀ (s : State) (g : Geometry) (k : Nat), s.bpu.engagement = .engaging →
    s.bpu.reads.accepted = some g → k ≤ 16 →
    (s.bpu.reads.producer = [] ∧ s.bpu.waiting.filter Transfer.isDescriptor =
        ((List.range 16).drop k).map Transfer.settings ++ [.producer]) ∨
      (s.bpu.reads.producer ≠ [] ∧ k = 16 ∧ s.bpu.waiting.filter Transfer.isDescriptor = []) →
    rowWaits s = false → ∃ t, exec .engageSuccess s = .next t ∧ t.mem = s.mem ∧
    let b := s.bpu.reads.settings ++ s.mem.readBytes (s.anchor + 0x200 + 16 * k) (256 - 16 * k)
    let w := if s.bpu.reads.producer = [] then s.mem.readBytes (s.anchor + 8) 4
      else s.bpu.reads.producer
    let c := readSettings g b
    let n := firstClamped g b
    let p : Idx := BitVec.ofNat 16 (leNat w)
    t.bpu.engagement = .engaged ∧ t.bpu.geometry = some g ∧ t.bpu.latch = none ∧
    t.settings = some c ∧ t.bpu.guard = c.guard ∧
    t.rrd.take = p ∧ t.rrd.walk = p ∧ t.rrd.retire = p ∧ t.rrd.inside = false ∧ t.rrd.table = [] ∧
    t.rrd.producer = (match s.bpu.latch with
      | none => p
      | some v => if (v - p).toNat ≤ g.slots then v else p) ∧
    t.bht.entries = List.replicate g.bands { hold := 0, tag := 0 } ∧ t.bht.free = g.bands ∧
    t.bht.release = [] ∧ t.bht.threshold = c.freeThreshold ∧
    t.lcu.engine = (if s.lcu.faults = FaultSet.empty then .idle else .faulted) ∧
    t.lcu.faults = s.lcu.faults ∧
    t.asu.engageResult = .success ∧ t.asu.offendingField = 0 ∧ t.asu.settingsResult = n ∧
    t.asu.statusTimer = some 0 ∧ Transfer.vector ∈ t.bpu.waiting ∧
    (s.lcu.engine = .unconfigured → Transfer.statusOdd ∈ t.bpu.waiting) ∧
    (n ≠ 0 → (t.asu.records.get .ring).pending = true) ∧
    t.htu.schedule = some 10 ∧ t.mtu.position = s.mtu.position ∧ t.hdu.fired = 0

/-- R21, R39: a full write of the producer word, in each engagement state. R41: an accepted value that withdraws
the item in flight discards its fetch; that the fetch is marked at the write, and that a later write which
publishes the item again does not unmark it, is the model's inference (log 31). -/
def Obligations.ProducerWrite : Prop :=
  ∀ (v : BitVec 32) (s : State), s.anchor? ≠ none →
    ∃ t, exec (.producerWrite v) s = .next t ∧ StoredAt s t (s.anchor + 8) (leBytes 4 v.toNat) ∧
    let i : Idx := v.truncate 16
    (s.bpu.engagement = .notEngaged → FollowsUp (requested s 8 v) t) ∧
    (s.bpu.engagement = .engaging → s.bpu.reads.producer = [] → FollowsUp (requested s 8 v) t) ∧
    (s.bpu.engagement = .engaging → s.bpu.reads.producer ≠ [] →
      FollowsUp { requested s 8 v with bpu := { s.bpu with latch := some i } } t) ∧
    (s.bpu.engagement = .engaged → (s.rrd.take - s.rrd.retire).toNat ≤ (i - s.rrd.retire).toNat →
      (i - s.rrd.retire).toNat ≤ s.geo.slots →
      FollowsUp
        { requested s 8 v with
          rrd := { s.rrd with
            producer := i
            fetch := s.rrd.fetch.map fun f => { f with doomed := f.doomed || decide (f.index = i) } } }
        t) ∧
    (s.bpu.engagement = .engaged →
      ¬ ((s.rrd.take - s.rrd.retire).toNat ≤ (i - s.rrd.retire).toNat ∧
         (i - s.rrd.retire).toNat ≤ s.geo.slots) →
      FollowsUp (raise .ring Code.producerRefused i (requested s 8 v)) t)

/-- R13, R18, R20, R27, R28: any other processor write. A write that is not late alters memory at its own bytes
alone, and so does a full write of a value other than 1 to the engage word; a late write alters memory under PASS
and does not under BLOCK, and raises its event either way. A cycle at an unaligned address is carried at the aligned
address below it (`cycleAddr`; the model's choice, log 10). -/
def Obligations.ProcessorWrite : Prop :=
  ∀ (w : Width) (a : Addr) (data : BitVec 32) (s : State),
    let at_ := cycleAddr w a
    let bytes := leBytes (cycleBytes w) data.toNat
    (lateWrite s at_ = none →
      (w ≠ .word ∨ ∀ b, s.anchor? = some b → ∀ off ∈ [0x000, 0x004, 0x008, 0x00C, 0x014],
        at_ = b + off → off = 0x000 ∧ data ≠ 1) →
      ∃ t, exec (.processorWrite w a data) s = .next t ∧ StoredAt s t at_ bytes ∧
        t = { serveUrgent s with mem := t.mem }) ∧
    (∀ arg, lateWrite s at_ = some arg → s.bpu.guard = .pass →
      ∃ t, exec (.processorWrite w a data) s = .next t ∧ StoredAt s t at_ bytes ∧
        t = { raise .ring Code.lateWrite (argOf arg) (serveUrgent s) with mem := t.mem }) ∧
    (∀ arg, lateWrite s at_ = some arg → s.bpu.guard = .block →
      exec (.processorWrite w a data) s =
        .next (raise .ring Code.lateWriteBlocked (argOf arg) (serveUrgent s)))

/-- R18, R20, R36: while the reset line is asserted the part has no anchor base and watches no word, so no
request command has an effect (log 8). While ENGAGING a full write of the control word reaches memory and is
not acted on. A full write at a watched word of the anchor block is the request of that word (log 9). -/
def Obligations.WatchedWords : Prop :=
  (∀ (c : Instr) (s : State), Instr.requestOffset c ≠ none → s.anchor? = none → exec c s = .next s) ∧
  (∀ (s : State), s.anchor? ≠ none → s.bpu.engagement = .engaging →
    exec .pause s = .next (requested s 4 1) ∧ exec .resume s = .next (requested s 4 2) ∧
    exec .cancelLabel s = .next (requested s 4 3) ∧ exec .cancelAll s = .next (requested s 4 4) ∧
    exec .restart s = .next (requested s 4 5) ∧ exec .status s = .next (requested s 4 6) ∧
    ∀ v, exec (.otherControlCode v) s = .next (requested s 4 v)) ∧
  ∀ (b : Nat) (v : BitVec 32) (s : State), s.anchor? = some b →
    (∀ off ∈ [0x000, 0x004, 0x008, 0x00C, 0x014], lateWrite s (b + off) = none) →
    exec (.processorWrite .word (BitVec.ofNat 24 b) 1) s = exec .engage s ∧
    exec (.processorWrite .word (BitVec.ofNat 24 (b + 0x004)) v) s = exec (.otherControlCode v) s ∧
    exec (.processorWrite .word (BitVec.ofNat 24 (b + 0x008)) v) s = exec (.producerWrite v) s ∧
    exec (.processorWrite .word (BitVec.ofNat 24 (b + 0x00C)) v) s = exec (.maskWordWrite v) s ∧
    exec (.processorWrite .word (BitVec.ofNat 24 (b + 0x014)) v) s = exec (.endOfService v) s

/-- R3, R7, R13, R27: which writes are late while ENGAGED: those into a band whose hold count is above 0, and
those into a ring slot that some index of the owned span occupies. -/
def Obligations.LateWrites : Prop :=
  ∀ (s : State) (g : Geometry) (a : Nat), s.bpu.engagement = .engaged → s.bpu.geometry = some g →
    geometryCheck g s.anchor = 0 →
    let band := (a - g.imageBase) / (g.height * (g.dots / 8))
    let slot := (a - g.ringBase) / 16
    let inWindow := g.imageBase ≤ a ∧ a < g.imageBase + g.bands * g.height * (g.dots / 8)
    let inRing := g.ringBase ≤ a ∧ a < g.ringBase + 16 * g.slots
    let owned := ∃ i : Idx, (i - s.rrd.retire).toNat < (s.rrd.producer - s.rrd.retire).toNat ∧
      i.toNat % g.slots = slot
    (inWindow → 0 < s.bht.holdOf band → lateWrite s a = some band) ∧
    (inWindow → s.bht.holdOf band = 0 → lateWrite s a = none) ∧
    (inRing → owned → lateWrite s a = some (0x80 + slot)) ∧
    (inRing → ¬ owned → lateWrite s a = none) ∧
    (¬ inWindow → ¬ inRing → lateWrite s a = none)

/-! ## Control requests -/

/-- R77: in UNCONFIGURED, PAUSE, CANCEL_LABEL and CANCEL_ALL are refused with CONTROL_REFUSED and their code,
and RESUME, RESTART and STATUS are not acted on. Nothing is offered. -/
def Obligations.ControlUnconfigured : Prop :=
  ∀ s : State, s.anchor? ≠ none → s.bpu.engagement ≠ .engaging → s.lcu.engine = .unconfigured →
    (∃ t, exec .pause s = .next t ∧ t.asu.offer = none ∧
      FollowsUp (raise .ring Code.controlRefused 1 (requested s 4 1)) t) ∧
    (∃ t, exec .resume s = .next t ∧ FollowsUp (requested s 4 2) t) ∧
    (∃ t, exec .cancelLabel s = .next t ∧ t.asu.offer = none ∧
      FollowsUp (raise .ring Code.controlRefused 3 (requested s 4 3)) t) ∧
    (∃ t, exec .cancelAll s = .next t ∧ t.asu.offer = none ∧
      FollowsUp (raise .ring Code.controlRefused 4 (requested s 4 4)) t) ∧
    (∃ t, exec .restart s = .next t ∧ FollowsUp (requested s 4 5) t) ∧
    exec .status s = .next (requested s 4 6)

/-- R78: PAUSE sets the pause latch; in IDLE, and in ARMING with the paper at rest, the state becomes
HOLDING(PAUSE) at once, and in every other engaged state it is unchanged. That the copy's TOF which ARMING has fixed
is released is the model's choice (log 52). -/
def Obligations.Pause : Prop :=
  ∀ s : State, s.anchor? ≠ none → s.bpu.engagement ≠ .engaging → s.lcu.engine ≠ .unconfigured →
    ∃ t, exec .pause s = .next t ∧ StoredAt s t (s.anchor + 4) [1, 0, 0, 0] ∧
    let r := requested s 4 1
    (s.lcu.engine = .idle →
      FollowsUp
        (requestRefresh
          { r with
            lcu := { s.lcu with pauseLatch := true, engine := .holding .pause }
            htu := { s.htu with dwell := s.htu.dwell.map fun _ => 0 } }) t) ∧
    (s.lcu.engine = .arming → s.mtu.motion = .rest →
      FollowsUp
        (requestRefresh
          { r with
            lcu := { s.lcu with pauseLatch := true, engine := .holding .pause, copyTof := none,
                                started := false }
            htu := { s.htu with dwell := s.htu.dwell.map fun _ => 0 } }) t) ∧
    (s.lcu.engine ≠ .idle → (s.lcu.engine = .arming → s.mtu.motion ≠ .rest) →
      FollowsUp { r with lcu := { s.lcu with pauseLatch := true } } t)

/-- R78, R64: RESUME clears the pause latch. From HOLDING(PAUSE), and from FAULTED with no reason but SUPPLY
and GAP_MISSING, which then leave the fault set, the choice of R64 follows: IDLE where no label and no operation
waits. FAULTED with another reason refuses. R65, R168, R171: with a label in the PRINTING context the choice enters
ARMING (`EntersArming`), which asks for the supply and a conversion and examines the media. That the choice releases a
TOF fixed before is the model's (log 52). -/
def Obligations.Resume : Prop :=
  ∀ s : State, s.anchor? ≠ none → s.bpu.engagement ≠ .engaging → s.lcu.engine ≠ .unconfigured →
    ∃ t, exec .resume s = .next t ∧
    let r := requested s 4 2
    let other := s.lcu.faults.thermalTrip ∨ s.lcu.faults.thermSensor ∨ s.lcu.faults.headOpen ∨
      s.lcu.faults.paperOut
    let chooses := s.lcu.engine = .holding .pause ∨ (s.lcu.engine = .faulted ∧ ¬ other)
    let faults : FaultSet := if s.lcu.engine = .faulted
      then { s.lcu.faults with supply := false, gapMissing := false } else s.lcu.faults
    let idle : Lcu := { s.lcu with
      pauseLatch := false, engine := .idle, copyTof := none, started := false, seek := none,
      presentTof := none, armCancelled := false, faults := faults }
    (s.lcu.engine ≠ .faulted → s.lcu.engine ≠ .holding .pause →
      FollowsUp { r with lcu := { s.lcu with pauseLatch := false } } t) ∧
    (s.lcu.engine = .faulted → other →
      FollowsUp (raise .ring Code.controlRefused 2 r) t) ∧
    (chooses → s.lcu.printing = none → operationReady s = none →
      FollowsUp (requestRefresh { r with lcu := idle }) t) ∧
    (chooses → s.lcu.printing ≠ none → s.gapped = false → s.lcu.restTof = none →
      FollowsUp
        (requestRefresh
          { r with
            lcu := { idle with engine := .arming, copyTof := some s.mtu.position }
            htu := { s.htu with
              dwell := s.htu.dwell.map fun _ => 0
              conversions := s.htu.conversions + 1
              supply := if s.htu.supply = .off then .settling else s.htu.supply
              settle := if s.htu.supply = .off then
                some { time := s.cfg.settleTime, elapsed := 0 } else s.htu.settle } }) t) ∧
    (chooses → s.lcu.printing ≠ none → 1 < s.cfg.calLimit →
      EntersArming s t ∧ t.lcu.printing = s.lcu.printing ∧ t.lcu.staged = s.lcu.staged ∧
        t.lcu.faults = faults)

/-- R79: CANCEL_LABEL with an empty PRINTING context does nothing. Otherwise the context empties, the STAGED
label moves up, and nothing of the cancelled label stays in the stream. R54, R57: its items, up to its closing index
or to the item before the take index, become CANCELLED, refused ones keep REFUSED, and the LABEL item's entry takes
the counts, the copy that is cut counted as spoiled where it strobed; what then retires releases its holds and writes
its outcomes (`FollowsUp`; R8, R9). R41, R47, R57: with no label STAGED the fetch in flight and the output hold go
and the walk stands OUTSIDE after the closing index (that this holds also after the body has closed is the model's
inference, log 44); with a label STAGED the walk of that label stands. In PRINTING, SEEKING and CALIBRATING(ARMING)
the strobes stop at once, the calibration run is abandoned, and the paper decelerates in PRESENTING(STOP). In ARMING
with the paper at rest, STALLED and HOLDING(THERMAL) the choice of R64 follows at once, in ARMING backfeeding when the
backfeed ends; in the states of the table's last row the state stays. That a cancel in ARMING releases the copy's TOF is
the model's choice (log 52). -/
def Obligations.CancelLabel : Prop :=
  (∀ s : State, s.anchor? ≠ none → s.bpu.engagement ≠ .engaging → s.lcu.engine ≠ .unconfigured →
    (s.lcu.printing = none →
      ∃ t, exec .cancelLabel s = .next t ∧ FollowsUp (requested s 4 3) t) ∧
    ∀ c, s.lcu.printing = some c →
    ∃ t, exec .cancelLabel s = .next t ∧ StoredAt s t (s.anchor + 4) [3, 0, 0, 0] ∧
    let closing : Idx := c.closing.getD (s.rrd.take - 1)
    let cut : Prop := c.strobed = true ∧
      s.lcu.engine ∈ [.printing, .stalled, .holding .thermal]
    let spoiled := if cut then c.spoiled + 1 else c.spoiled
    let table := labelEnds s.rrd.retire c.label closing .cancelled c.good spoiled s.rrd.table
    let others (w : List Transfer) := w.filter Transfer.isOutcome
    (s.lcu.operation = none → ∃ u, FollowsUp u t ∧ u.bht = s.bht ∧
      others u.bpu.waiting = others s.bpu.waiting ∧
      (s.lcu.staged = none → u.rrd = { s.rrd with
        table := table, walk := closing + 1, inside := false, label := none, hold := none,
        impliedClose := false, fetch := none, reread := none }) ∧
      (s.lcu.staged ≠ none → (∀ w ∈ s.rrd.label, w.index ≠ c.label) →
        u.rrd = { s.rrd with table := table })) ∧
    (∀ x ∈ t.rsu.queue, x.label ≠ c.label) ∧ (∀ x ∈ t.rsu.buffer, x.label ≠ c.label) ∧
    (s.lcu.engine ∈ [.presenting .atEnd, .presenting .stop, .feeding, .calibrating .item,
        .holding .pause, .faulted] →
      (s.lcu.staged = none → t.rrd.walk = closing + 1 ∧
        t.rrd.inside = false ∧ t.rrd.label = none ∧ t.rrd.hold = none ∧ t.rrd.impliedClose = false ∧
        (∀ f ∈ t.rrd.fetch, f.index = t.rrd.walk ∧ f.data = [])) ∧
      (s.lcu.staged ≠ none → (∀ w ∈ s.rrd.label, w.index ≠ c.label) →
        t.rrd.walk = s.rrd.walk ∧ t.rrd.inside = s.rrd.inside ∧ t.rrd.label = s.rrd.label ∧
        t.rrd.hold = s.rrd.hold ∧ t.rrd.impliedClose = s.rrd.impliedClose ∧
        (s.rrd.fetch ≠ none → t.rrd.fetch = s.rrd.fetch)) ∧
      t.lcu = { s.lcu with printing := s.lcu.staged, staged := none } ∧
      t.mtu.motion = s.mtu.motion ∧ t.mtu.source = s.mtu.source ∧ t.msu = s.msu ∧ t.htu = s.htu) ∧
    (s.lcu.engine ∈ [.printing, .seeking, .calibrating .arming] → s.mtu.stopping = none →
      s.mtu.latch = none →
      t.lcu.engine = .presenting .stop ∧ t.lcu.printing = s.lcu.staged ∧ t.lcu.staged = none ∧
      t.lcu.restTof = none ∧ t.lcu.copyTof = none ∧ t.lcu.started = false ∧ t.lcu.seek = none ∧
      t.hdu.state = .idle ∧ t.hdu.strobes = List.replicate 8 false ∧ t.hdu.firing = none ∧
      t.mtu.source = .decelerate ∧ t.mtu.motion = s.mtu.motion ∧
      t.mtu.position = s.mtu.position ∧ t.htu = s.htu ∧ (s.msu.cal = none → t.msu = s.msu) ∧
      (∀ r, s.msu.cal = some r → CalibrationDropped s t r ∧
        t.asu.records.get .media = s.asu.records.get .media)) ∧
    (s.lcu.engine = .arming → s.mtu.motion ≠ .rest →
      t.lcu = { s.lcu with
        printing := s.lcu.staged, staged := none, copyTof := none, started := false
        armCancelled := true } ∧
      t.mtu = { s.mtu with tailRunOn := t.mtu.tailRunOn } ∧ t.msu = s.msu ∧ t.htu = s.htu) ∧
    ((s.lcu.engine = .arming ∧ s.mtu.motion = .rest) ∨ s.lcu.engine = .stalled ∨
        s.lcu.engine = .holding .thermal →
      let at_ (e : Engine) : Lcu := { s.lcu with
        printing := s.lcu.staged, staged := none, engine := e, copyTof := none, started := false
        seek := none, presentTof := none, armCancelled := false }
      (s.lcu.pauseLatch = true →
        t.lcu = at_ (.holding .pause) ∧ t.mtu = { s.mtu with tailRunOn := t.mtu.tailRunOn } ∧
        t.msu = s.msu ∧ t.htu.supply = s.htu.supply) ∧
      (s.lcu.pauseLatch = false → s.lcu.staged = none →
        t.lcu = at_ .idle ∧ t.mtu = { s.mtu with tailRunOn := t.mtu.tailRunOn } ∧
        t.msu = s.msu ∧ t.htu = s.htu) ∧
      (s.lcu.pauseLatch = false → s.lcu.staged ≠ none → 1 < s.cfg.calLimit →
        EntersArming s t ∧ t.lcu.printing = s.lcu.staged ∧ t.lcu.staged = none))) ∧
  ∀ s : State, s.lcu.engine = .arming → s.lcu.armCancelled = true → s.mtu.motion = .backward →
    s.mtu.timer ≠ none → s.mtu.backfeed = 0 →
    ∃ t, exec .linePeriodExpiry s = .next t ∧ t.mem = s.mem ∧
      (s.lcu.pauseLatch = true → t.lcu.engine = .holding .pause ∧ t.mtu.motion = .rest ∧
        t.mtu.position = s.mtu.position) ∧
      (s.lcu.pauseLatch = false → s.lcu.printing = none → operationReady s = none →
        t.lcu.engine = .idle ∧ t.mtu.motion = .rest ∧ t.mtu.position = s.mtu.position)

/-- R80, R58: CANCEL_ALL empties both contexts, the operation, the stream and the item table, and the take,
walk and retire indices go to the producer index. The items of the PRINTING label become CANCELLED, those of a label
whose last copy has ended with its body open DONE, and a running operation's CANCELLED, refused ones keeping REFUSED;
these and the items already COMPLETE before the PRINTING label write their outcomes and raise their events, and every
other item retires in silence (with an empty PRINTING context, COMPLETE items too: the model's inference, log 24).
R9: every hold is released. IDLE, HOLDING(PAUSE), FAULTED and the presentations keep their state; PRINTING, SEEKING,
FEEDING and CALIBRATING stop through PRESENTING(STOP), a calibration run abandoned; in ARMING with the paper at rest,
STALLED and HOLDING(THERMAL) the choice of R64 follows, in ARMING backfeeding when the backfeed ends. That a cancel in
ARMING releases the copy's TOF is the model's choice (log 52). -/
def Obligations.CancelAll : Prop :=
  ∀ s : State, s.anchor? ≠ none → s.bpu.engagement ≠ .engaging → s.lcu.engine ≠ .unconfigured →
    s.mtu.stopping = none → s.mtu.latch = none →
    ∃ t, exec .cancelAll s = .next t ∧ StoredAt s t (s.anchor + 4) [4, 0, 0, 0] ∧
      t.lcu.printing = none ∧ t.lcu.staged = none ∧ t.lcu.operation = none ∧
      t.rsu.queue = [] ∧ t.rsu.buffer = [] ∧ t.rrd.table = [] ∧ t.rrd.hold = none ∧
      t.rrd.fetch = none ∧ t.rrd.reread = none ∧ t.rrd.inside = false ∧
      t.rrd.producer = s.rrd.producer ∧
      t.rrd.take = s.rrd.producer ∧ t.rrd.walk = s.rrd.producer ∧
      t.rrd.retire = s.rrd.producer ∧ t.lcu.pauseLatch = s.lcu.pauseLatch ∧
      t.mtu.motion = s.mtu.motion ∧ t.mtu.position = s.mtu.position ∧
      t.htu.supply = s.htu.supply ∧ t.settings = s.settings ∧
      (let stops := s.lcu.engine ∈ [.printing, .seeking, .feeding, .calibrating .item,
        .calibrating .arming]
      let chooses := (s.lcu.engine = .arming ∧ s.mtu.motion = .rest) ∨ s.lcu.engine = .stalled ∨
        s.lcu.engine = .holding .thermal
      (stops → t.lcu.engine = .presenting .stop ∧ t.mtu.source = .decelerate ∧
        t.hdu.state = .idle ∧ t.hdu.strobes = List.replicate 8 false ∧ t.lcu.restTof = none ∧
        t.lcu.copyTof = none ∧ t.lcu.seek = none ∧
        (∀ r, s.msu.cal = some r → s.lcu.engine ≠ .feeding → CalibrationDropped s t r ∧
          t.asu.records.get .media = s.asu.records.get .media)) ∧
      (chooses → t.lcu.copyTof = none ∧
        t.lcu.engine = (if s.lcu.pauseLatch then .holding .pause else .idle)) ∧
      (s.lcu.engine = .arming → s.mtu.motion ≠ .rest →
        t.lcu.engine = .arming ∧ t.lcu.armCancelled = true ∧ t.lcu.copyTof = none) ∧
      (¬ stops → ¬ chooses → t.lcu.engine = s.lcu.engine)) ∧
      let finish (r : ItemResult) (w : WalkLabel) (good spoiled : Nat) :=
        labelEnds s.rrd.retire w.index (w.closing.getD (s.rrd.take - 1)) r good spoiled
      let ended := s.rrd.label.bind fun w => w.ended.map fun n => (w, n)
      let cut (c : Context) : Nat := if c.strobed = true ∧
        s.lcu.engine ∈ [.printing, .stalled, .holding .thermal] then c.spoiled + 1 else c.spoiled
      let spans (a : Idx) (k : Option Idx) (e : ItemEntry) : Prop :=
        (a - s.rrd.retire).toNat ≤ (e.index - s.rrd.retire).toNat ∧
          (e.index - s.rrd.retire).toNat ≤ (k.getD (s.rrd.take - 1) - s.rrd.retire).toNat
      let keeps (e : ItemEntry) : Prop :=
        (∃ c, s.lcu.printing = some c ∧ (spans c.label c.closing e ∨ (e.complete = true ∧
          (e.index - s.rrd.retire).toNat < (c.label - s.rrd.retire).toNat))) ∨
        (∃ w n, ended = some (w, n) ∧ spans w.index w.closing e) ∨
        ∃ o, s.lcu.operation = some o ∧ o.index = e.index
      let table1 : List ItemEntry := match ended with
        | some (w, n) => finish .done w n.1 n.2 s.rrd.table
        | none => s.rrd.table
      let table2 : List ItemEntry := match s.lcu.printing with
        | some c => labelEnds s.rrd.retire c.label (c.closing.getD (s.rrd.take - 1)) .cancelled
            c.good (cut c) table1
        | none => table1
      let table3 : List ItemEntry := match s.lcu.operation with
        | some o => table2.map fun e : ItemEntry =>
            if e.index = o.index then { e.ends .cancelled with byte13 := 0 } else e
        | none => table2
      (∃ run : List ItemEntry, run.length = s.rrd.table.length ∧
        (∀ (n : Nat) e d, s.rrd.table[n]? = some e → table3[n]? = some d →
          (keeps e → run[n]? = some d) ∧
          (¬ keeps e → run[n]? = some { d with complete := true, silent := true })) ∧
        t.bpu.waiting.filter Transfer.isOutcome =
          s.bpu.waiting.filter Transfer.isOutcome ++ outcomesOf s.geo s.bht run ∧
        t.bht = run.foldl (fun h e => h.releaseItem e.index) s.bht ∧
        (run.filterMap labelEvent = [] →
          t.asu.records.get .label = s.asu.records.get .label) ∧
        ∀ e ∈ (run.filterMap labelEvent).getLast?,
          (t.asu.records.get .label).pending = true ∧
          (t.asu.records.get .label).code = e.1 ∧ (t.asu.records.get .label).arg = e.2) ∧
      ((s.bht.release.map fun r => r.1).Sublist (s.rrd.table.map fun e => e.index) →
        (∀ b, s.bht.holdOf b = s.bht.release.countP fun r => r.2 == b) →
        t.bht.release = [] ∧ ∀ b, t.bht.holdOf b = 0)

/-- R81, R16, R35, R59, R93, R111, R145, R163, R175, R182: RESTART, in every engaged state, a calibration run
under way among them. R35: the reads it withdraws leave the port, and every other waiting transfer, the part's writes
among them, stays in its order; a vector or status write may be added behind them. -/
def Obligations.Restart : Prop :=
  ∀ s : State, s.anchor? ≠ none → s.bpu.engagement ≠ .engaging → s.lcu.engine ≠ .unconfigured →
    ∃ t, exec .restart s = .next t ∧ Restarted s t ∧ StoredAt s t (s.anchor + 4) [5, 0, 0, 0] ∧
      (∀ x ∈ t.bpu.waiting, Transfer.withdrawnByRestart x = false) ∧
      ∃ added, t.bpu.waiting =
          s.bpu.waiting.filter (fun x => !Transfer.withdrawnByRestart x) ++ added ∧
        ∀ x ∈ added, x = .vector ∨ x.isStatus = true

/-- R77, R181: STATUS in an engaged state asks for one status block refresh, and one whose odd write still waits
serves. A value that is no code raises
CONTROL_REFUSED with its low 16 bits in every engine state. -/
def Obligations.StatusAndOtherCode : Prop :=
  ∀ s : State, s.anchor? ≠ none → s.bpu.engagement ≠ .engaging →
    (s.lcu.engine ≠ .unconfigured →
      exec .status s = .next
        { requested s 4 6 with bpu := { s.bpu with waiting := withRefresh s.bpu.waiting } }) ∧
    ∀ v : BitVec 32, v.toNat = 0 ∨ 6 < v.toNat →
      exec (.otherControlCode v) s =
        .next (raise .ring Code.controlRefused (v.truncate 16) (requested s 4 v))

/-! ## Attention and status -/

/-- R176, R177: an event sets its source's pending flag, code and argument and adds 1 to the count up to 255,
leaves every other record, recomputes the offer, and while ENGAGED has the vector word written when the
offer changes or is the event's own source; a vector write that waits already serves. -/
def Obligations.EventTaken : Prop :=
  ∀ (n : Source) (code : Nat) (arg : BitVec 16) (s : State),
    let t := raise n code arg s
    let r := s.asu.records.get n
    t.asu.records.get n =
      { pending := true, inService := r.inService, code := code, arg := arg,
        count := if r.count < 255 then r.count + 1 else 255 } ∧
    (∀ m, m ≠ n → t.asu.records.get m = s.asu.records.get m) ∧
    OfferRight t ∧
    (s.bpu.engagement = .engaged → (t.asu.offer ≠ s.asu.offer ∨ t.asu.offer = some n) →
      t.bpu.waiting = withVector s.bpu.waiting) ∧
    (s.bpu.engagement ≠ .engaged ∨ (t.asu.offer = s.asu.offer ∧ t.asu.offer ≠ some n) →
      t.bpu.waiting = s.bpu.waiting) ∧
    t = { s with
      asu := { s.asu with records := t.asu.records, offer := t.asu.offer }
      bpu := { s.bpu with waiting := t.bpu.waiting } }

/-- R177: the offer of a configured part is the pending and unmasked source of highest priority, where it
also outranks every source in service; where it does not, and while UNCONFIGURED, nothing is offered. -/
def Obligations.OfferRule : Prop :=
  ∀ s : State,
    (∀ n, offerOf s = some n ↔
      (s.lcu.engine ≠ .unconfigured ∧ (s.asu.records.get n).pending = true ∧
        s.asu.masks.get n = false ∧
        (∀ m, (s.asu.records.get m).inService = true → n.priority < m.priority) ∧
        ∀ m, m.priority < n.priority →
          (s.asu.records.get m).pending = false ∨ s.asu.masks.get m = true)) ∧
    (s.lcu.engine = .unconfigured → offerOf s = none)

/-- R20, R177: a full write of the mask word sets the five masks from its bits 0 to 4, keeps the records,
and recomputes the offer at once. -/
def Obligations.MaskWordWrite : Prop :=
  ∀ (v : BitVec 32) (s : State), s.anchor? ≠ none →
    ∃ t, exec (.maskWordWrite v) s = .next t ∧ StoredAt s t (s.anchor + 0x00C) (leBytes 4 v.toNat) ∧
      (∀ n : Source, t.asu.masks.get n = v.getLsbD n.priority) ∧ OfferRight t ∧
      t = { requested s 0x00C v with
        asu := { s.asu with masks := t.asu.masks, offer := t.asu.offer }
        bpu := { s.bpu with waiting := t.bpu.waiting } } ∧
      (s.bpu.engagement = .engaged → t.asu.offer ≠ s.asu.offer →
        t.bpu.waiting = withVector s.bpu.waiting) ∧
      (s.bpu.engagement ≠ .engaged ∨ t.asu.offer = s.asu.offer → t.bpu.waiting = s.bpu.waiting)

/-- R179: an end-of-service clears the in-service flag of the highest-priority source in service and
recomputes the offer; with none in service, and while UNCONFIGURED, only the word is written. -/
def Obligations.EndOfService : Prop :=
  ∀ (v : BitVec 32) (s : State), s.anchor? ≠ none →
    ∃ t, exec (.endOfService v) s = .next t ∧ StoredAt s t (s.anchor + 0x014) (leBytes 4 v.toNat) ∧
      (s.lcu.engine = .unconfigured → t = requested s 0x014 v) ∧
      ((∀ n, (s.asu.records.get n).inService = false) → t = requested s 0x014 v) ∧
      (∀ n, s.lcu.engine ≠ .unconfigured → (s.asu.records.get n).inService = true →
        (∀ m, m.priority < n.priority → (s.asu.records.get m).inService = false) →
        t.asu.records = s.asu.records.set n { s.asu.records.get n with inService := false } ∧
        OfferRight t ∧
        t = { requested s 0x014 v with
          asu := { s.asu with records := t.asu.records, offer := t.asu.offer }
          bpu := { s.bpu with waiting := t.bpu.waiting } } ∧
        (s.bpu.engagement = .engaged → t.asu.offer ≠ s.asu.offer →
          t.bpu.waiting = withVector s.bpu.waiting) ∧
        (s.bpu.engagement ≠ .engaged ∨ t.asu.offer = s.asu.offer →
          t.bpu.waiting = s.bpu.waiting))

/-- R178, R22: a full read of the vector word acknowledges the source its lowest three bits name, when that
source is pending and outranks every source in service; otherwise it is a plain poll. Memory is not
altered. -/
def Obligations.Acknowledge : Prop :=
  ∀ s : State, s.anchor? ≠ none → ∃ t, exec .acknowledge s = .next t ∧ t.mem = s.mem ∧
    let k := (s.mem.read (s.anchor + 0x10)).toNat % 8
    let qualifies (n : Source) : Prop :=
      s.lcu.engine ≠ .unconfigured ∧ (s.asu.records.get n).pending = true ∧
      ∀ m, (s.asu.records.get m).inService = true → n.priority < m.priority
    (∀ n : Source, n.priority = k → qualifies n →
      t.asu.records = s.asu.records.set n
        { s.asu.records.get n with inService := true, pending := false, count := 0 } ∧
      OfferRight t ∧
      t = { serveUrgent s with
        asu := { s.asu with records := t.asu.records, offer := t.asu.offer }
        bpu := { s.bpu with waiting := t.bpu.waiting } } ∧
      (s.bpu.engagement = .engaged → t.asu.offer ≠ s.asu.offer →
        t.bpu.waiting = withVector s.bpu.waiting) ∧
      (s.bpu.engagement ≠ .engaged ∨ t.asu.offer = s.asu.offer →
        t.bpu.waiting = s.bpu.waiting)) ∧
    ((∀ n : Source, n.priority = k → ¬ qualifies n) → t = serveUrgent s)

/-- R177, R185: the waiting vector write, granted, writes the source number 0 to 4 with its code, count and
argument, or 7 for none, at 010H of the anchor block. -/
def Obligations.VectorWordWrite : Prop :=
  ∀ (s : State) (before after : List Transfer), s.bpu.waiting = before ++ .vector :: after →
    (∀ x ∈ before, x.isStatus = true) → (∀ x ∈ after, x.isDescriptor = false ∧ x ≠ .vector) →
    rowWaits s = false →
    (∀ n, s.asu.offer = some n →
      (s.asu.records.get n).code < 16 ∧ (s.asu.records.get n).count < 256) →
    ∃ t, exec .vectorWordWrite s = .next t ∧
      t = { s with mem := t.mem, bpu := { s.bpu with waiting := before ++ after } } ∧
      StoredAt s t (s.anchor + 0x10)
        (match s.asu.offer with
         | none => [7, 0, 0, 0]
         | some n =>
           let r := s.asu.records.get n
           [BitVec.ofNat 8 (n.priority + 16 * r.code), BitVec.ofNat 8 r.count,
            r.arg.truncate 8, (r.arg >>> 8).truncate 8])

/-- R180, R32: a waiting refresh, granted, writes the 60 bytes of the body captured at its odd write and the
sequence, which has risen by two, and leaves every other byte of memory. R185: what stands at each offset of the
block, a value wider than its field cut to it. That the command makes all six writes is the model's choice
(log 37). -/
def Obligations.StatusRefresh : Prop :=
  (∀ s : State,
    let at_ (offset size : Nat) : Nat := field (offset - 4) size (statusBody s)
    let shown (f : Context → Nat) : Nat := match s.lcu.printing with
      | none => 0
      | some c => f c
    at_ 0x04 1 = (match s.lcu.engine with
      | .unconfigured => 0
      | .idle => 1
      | .arming => 2
      | .seeking => 3
      | .printing => 4
      | .stalled => 5
      | .holding _ => 6
      | .presenting _ => 7
      | .feeding => 8
      | .calibrating _ => 9
      | .faulted => 10) ∧
    at_ 0x05 1 = (match s.lcu.engine with
      | .holding .pause => 1
      | .holding .thermal => 2
      | .presenting .atEnd => 1
      | .presenting .stop => 2
      | .calibrating .item => 1
      | .calibrating .arming => 2
      | _ => 0) ∧
    at_ 0x06 1 < 64 ∧ (∀ r : FaultReason, (at_ 0x06 1).testBit (r.code - 1) = s.lcu.faults.get r) ∧
    at_ 0x07 1 = (match s.htu.supply with
      | .off => 0
      | .settling => 1
      | .on => 2) ∧
    at_ 0x08 2 = s.rrd.producer.toNat ∧ at_ 0x0A 2 = s.rrd.take.toNat ∧
    at_ 0x0C 2 = s.rrd.walk.toNat ∧ at_ 0x0E 2 = s.rrd.retire.toNat ∧
    at_ 0x10 4 = s.mtu.position.toNat ∧
    at_ 0x14 1 = s.bht.free % 256 ∧ at_ 0x15 1 = s.mtu.ramp % 256 ∧
    at_ 0x16 1 = (if s.msu.valid then 1 else 0) ∧
    at_ 0x17 1 = (match s.msu.polarity with
      | .unknown => 0
      | .gapHigh => 1
      | .gapLow => 2) + (if s.msu.calibrated then 128 else 0) ∧
    at_ 0x18 2 = s.msu.calPitch % 65536 ∧ at_ 0x1A 2 = s.msu.calGap % 65536 ∧
    at_ 0x1C 2 = s.msu.lastPitch % 65536 ∧ at_ 0x1E 1 = s.msu.queue.length % 256 ∧
    at_ 0x1F 1 = (match s.htu.grade with
      | .normal => 0
      | .slow => 1
      | .hold => 2
      | .trip => 3) ∧
    (at_ 0x20 1 : Int) = s.htu.theta.emod 256 ∧ at_ 0x21 1 = s.asu.settingsResult % 256 ∧
    at_ 0x22 1 = (match s.asu.engageResult with
      | .none => 0
      | .success => 1
      | .refused => 2) ∧
    at_ 0x23 1 = s.asu.offendingField % 256 ∧
    at_ 0x24 2 = horizon s ∧ at_ 0x26 2 = shown (fun c => c.tag.toNat) ∧
    at_ 0x28 2 = shown (fun c => c.copy) % 65536 ∧ at_ 0x2A 2 = shown (fun c => c.good) % 65536 ∧
    at_ 0x2C 2 = shown (fun c => c.spoiled) % 65536 ∧
    at_ 0x2E 2 = s.lcu.stretches % 65536 ∧ at_ 0x30 2 = s.lcu.stalls % 65536 ∧
    at_ 0x32 2 = s.lcu.thermalStops % 65536 ∧ at_ 0x34 4 = s.hdu.fired.toNat ∧
    at_ 0x38 2 = shown (fun c => c.stretches) % 65536 ∧
    at_ 0x3A 2 = shown (fun c => c.stalls) % 65536 ∧
    at_ 0x3C 2 = shown (fun c => c.thermalStops) % 65536 ∧ at_ 0x3E 2 = 0) ∧
  ∀ (s : State) (rest : List Transfer), s.bpu.waiting =
      .statusOdd :: .statusBody 0 :: .statusBody 1 :: .statusBody 2 :: .statusBody 3 ::
        .statusEven :: rest →
    (∀ x ∈ rest, x.isDescriptor = false ∧ x ≠ .vector) → rowWaits s = false →
    ∃ t, exec .statusRefresh s = .next t ∧
      t = { s with
        mem := t.mem
        bpu := { s.bpu with waiting := rest }
        asu := { s.asu with sequence := s.asu.sequence + 2, capture := none } } ∧
      StoredAt s t (s.anchor + 0x100)
        (leBytes 4 (s.asu.sequence + 2).toNat ++ statusBody s) ∧ (statusBody s).length = 60

/-- R31, R56, R183: the oldest outcome write, granted, stores its four bytes and leaves every other byte;
with none queued nothing is written (log 4). -/
def Obligations.OutcomeWrite : Prop :=
  (∀ (s : State) (at_ : Nat) (data : BitVec 32) (rest : List Transfer),
    s.bpu.waiting = .outcome at_ data :: rest → (∀ x ∈ rest, x.isDescriptor = false) →
    rowWaits s = false →
    ∃ t, exec .outcomeWrite s = .next t ∧
      t = { s with mem := t.mem, bpu := { s.bpu with waiting := rest } } ∧
      StoredAt s t at_ (leBytes 4 data.toNat)) ∧
  ∀ s : State, (∀ x ∈ s.bpu.waiting, x.isOutcome = false) → exec .outcomeWrite s = .next s

/-! ## The ring and the row supply -/

/-- R5, R6, R7, R8, R11: an acceptance adds a record, a hold and the tag; a release removes the head record
of its own item and one hold, and an item that is not at the head holds nothing. -/
def Obligations.HoldTable : Prop :=
  ∀ (t : Bht) (i : Idx) (b : Nat), b < t.entries.length →
    (∀ tag, let u := t.accept i b tag
      u.release = t.release ++ [(i, b)] ∧ u.holdOf b = t.holdOf b + 1 ∧ u.tagOf b = tag ∧
      (∀ k, k ≠ b → u.holdOf k = t.holdOf k ∧ u.tagOf k = t.tagOf k) ∧
      u.free = (if t.holdOf b = 0 then t.free - 1 else t.free) ∧ u.threshold = t.threshold) ∧
    (∀ rest, t.release = (i, b) :: rest → let u := t.releaseItem i
      u.release = rest ∧ u.holdOf b = t.holdOf b - 1 ∧
      (∀ k, u.tagOf k = t.tagOf k) ∧ (∀ k, k ≠ b → u.holdOf k = t.holdOf k) ∧
      u.free = (if t.holdOf b = 1 then t.free + 1 else t.free) ∧ u.threshold = t.threshold) ∧
    ((∀ r ∈ t.release.head?, r.1 ≠ i) → t.releaseItem i = t)

/-- R41, R44, R6: the fetch of a BAND item inside a label that names a band below B and a first row below H
gives one ROWS segment of the copy being supplied; its first walk takes the hold and makes an entry, a
re-walk does neither. R45: a REPEAT or BLANK item inside a label gives a segment of its count, none for a count
of 0. -/
def Obligations.FetchBand : Prop :=
  (∀ (s : State) (f : ItemFetch) (w : WalkLabel), s.rrd.fetch = some f → f.doomed = false →
    Transfer.item ∉ s.bpu.waiting → s.rrd.inside = true → s.rrd.label = some w →
    s.rrd.supplyCopy ≤ w.total → s.lcu.printing ≠ none →
    field 0 1 f.data = 3 ∨ field 0 1 f.data = 4 →
    ∃ t, exec .itemFetchComplete s = .next t ∧
    let i := s.rrd.walk
    let isRepeat := decide (field 0 1 f.data = 3)
    let n := field 2 2 f.data
    let run : Segment := if isRepeat then .repeatRun n s.rrd.supplyCopy w.index
      else .blankRun n s.rrd.supplyCopy w.index
    let held := if n = 0 then s.rrd.hold else some (.segment run)
    (i = s.rrd.take →
      FollowsUp
        { s with rrd := { s.rrd with
            fetch := none, walk := i + 1, take := i + 1, hold := held
            table := s.rrd.table ++
              [{ index := i, kind := if isRepeat then .repeatRow else .blank, complete := false,
                 result := none, reason := 0, byte13 := 0, half14 := 0, tag := itemTag f.data,
                 silent := false }] } } t) ∧
    (i ≠ s.rrd.take →
      FollowsUp { s with rrd := { s.rrd with fetch := none, walk := i + 1, hold := held } } t)) ∧
  ∀ (s : State) (f : ItemFetch) (w : WalkLabel), s.rrd.fetch = some f → f.doomed = false →
    Transfer.item ∉ s.bpu.waiting → s.rrd.inside = true → s.rrd.label = some w →
    s.rrd.supplyCopy ≤ w.total → s.lcu.printing ≠ none →
    field 0 1 f.data = 2 → field 2 2 f.data < s.geo.bands → field 4 1 f.data < s.geo.height →
    ∃ t, exec .itemFetchComplete s = .next t ∧
    let i := s.rrd.walk
    let band := field 2 2 f.data
    let first := field 4 1 f.data
    let count := field 5 1 f.data
    let rows := if count = 0 ∨ s.geo.height < first + count then s.geo.height - first else count
    let held := some (Held.segment (.rows band first rows s.rrd.supplyCopy w.index))
    (i = s.rrd.take →
      FollowsUp
        { s with
          rrd := { s.rrd with
            fetch := none, walk := i + 1, take := i + 1, hold := held
            table := s.rrd.table ++
              [{ index := i, kind := .band, complete := false, result := none, reason := 0,
                 byte13 := 0, half14 := 0, tag := itemTag f.data, silent := false }] }
          bht := s.bht.accept i band w.tag } t) ∧
    (i ≠ s.rrd.take →
      FollowsUp { s with rrd := { s.rrd with fetch := none, walk := i + 1, hold := held } } t)

/-- R42, R46: a refused item is skipped. Its first walk makes a REFUSED entry with the reason, COMPLETE outside
a label, and raises ITEM_REFUSED; a re-walk raises nothing. -/
def Obligations.FetchRefused : Prop :=
  ∀ (s : State) (f : ItemFetch), s.rrd.fetch = some f → f.doomed = false →
    Transfer.item ∉ s.bpu.waiting → (s.lcu.printing = none → s.lcu.staged = none) →
    let k := field 0 1 f.data
    let i := s.rrd.walk
    let reason :=
      if k = 0 ∨ 8 < k then 1
      else if (s.rrd.inside = true ∧ 6 ≤ k) ∨ (s.rrd.inside = false ∧ 2 ≤ k ∧ k ≤ 5) then 2
      else if k = 2 ∧ s.geo.bands ≤ field 2 2 f.data then 3
      else if k = 2 ∧ s.geo.height ≤ field 4 1 f.data then 4
      else 0
    reason ≠ 0 → ∃ t, exec .itemFetchComplete s = .next t ∧
    (i = s.rrd.take →
      FollowsUp
        (raise .ring Code.itemRefused i
          { s with
            rrd := { s.rrd with
              fetch := none, walk := i + 1, take := i + 1
              table := s.rrd.table ++
                [{ index := i, kind := kindOf f.data, complete := !s.rrd.inside,
                   result := some .refused, reason := reason, byte13 := 0, half14 := 0,
                   tag := itemTag f.data, silent := false }] } }) t) ∧
    (i ≠ s.rrd.take →
      FollowsUp { s with rrd := { s.rrd with fetch := none, walk := i + 1 } } t)

/-- R43, R48, R51, R61: a LABEL item fetched outside a label opens it into the STAGED context with its copies
total, format record address, tag and length adjusted, and asks for its format record. A re-walk opens it in the
same way and makes no entry and raises nothing. R62, R64: with PRINTING empty the label moves up at once, and in
IDLE the part then enters ARMING (R65, R66, R161, R168: `EntersArming`). That darkness, speed cap and reprint flags are 0 and clear until the format record is
read is the model's choice (log 7). -/
def Obligations.FetchLabel : Prop :=
  ∀ (s : State) (f : ItemFetch), s.rrd.fetch = some f → f.doomed = false →
    Transfer.item ∉ s.bpu.waiting → s.rrd.inside = false → field 0 1 f.data = 1 →
    ∃ t, exec .itemFetchComplete s = .next t ∧
    let i := s.rrd.walk
    let total := max 1 (min (field 2 2 f.data) 999)
    let tag : BitVec 16 := BitVec.ofNat 16 (field 8 2 f.data)
    let length := if field 10 2 f.data = 0 then s.cfg.defaultLength else field 10 2 f.data
    let context : Context :=
      { tag := tag, total := total, formatAddr := BitVec.ofNat 24 (field 4 3 f.data / 4 * 4),
        length := length, label := i, closing := none, formatRead := false, formatData := [],
        darkness := 0, speedCap := 0, reprintFlag := false, permission := false, good := 0,
        spoiled := 0, copy := 1, reprintMark := false, strobed := false, stalls := 0,
        stretches := 0, thermalStops := 0 }
    let entry : ItemEntry :=
      { index := i, kind := .label, complete := false, result := none, reason := 0, byte13 := 0,
        half14 := 0, tag := tag, silent := false }
    let opened : State :=
      { s with
        bpu := { s.bpu with waiting := s.bpu.waiting ++ [.format i] }
        rrd := { s.rrd with
          fetch := none, walk := i + 1, inside := true, supplyCopy := 1, impliedClose := false
          take := if i = s.rrd.take then i + 1 else s.rrd.take
          label := some { index := i, total := total, tag := tag, closing := none, ended := none }
          table := if i = s.rrd.take then s.rrd.table ++ [entry] else s.rrd.table } }
    let told (u : State) : State :=
      if s.rrd.impliedClose = true ∧ i = s.rrd.take then raise .ring Code.implicitEnd i u else u
    (s.lcu.printing ≠ none →
      FollowsUp (told { opened with lcu := { s.lcu with staged := some context } }) t) ∧
    (s.lcu.printing = none → s.lcu.engine ≠ .unconfigured → s.lcu.engine ≠ .idle →
      FollowsUp
        (told { opened with lcu := { s.lcu with printing := some context, staged := none } }) t) ∧
    (s.lcu.printing = none → s.lcu.engine = .idle → s.lcu.pauseLatch = false → 1 < s.cfg.calLimit →
      EntersArming s t ∧ t.lcu.printing = some context ∧ t.lcu.staged = none) ∧
    (s.lcu.printing = none → s.lcu.engine = .idle → s.lcu.pauseLatch = false → s.gapped = false →
      s.lcu.restTof = none →
      FollowsUp
        (requestRefresh (told
          { opened with
            lcu := { s.lcu with
              printing := some context, staged := none, engine := .arming,
              copyTof := some s.mtu.position, started := false, seek := none, presentTof := none,
              armCancelled := false }
            htu := { s.htu with
              dwell := s.htu.dwell.map fun _ => 0
              conversions := s.htu.conversions + 1
              supply := if s.htu.supply = .off then .settling else s.htu.supply
              settle := if s.htu.supply = .off then
                some { time := s.cfg.settleTime, elapsed := 0 } else s.htu.settle } })) t)

/-- R45, R47, R48, R50, R52: an END item inside a label yields the COPY_END of the copy being supplied, on a first
walk with its entry, and so does a LABEL item inside one, which the walk does not pass. The first close records the
closing index, the END's own or the one before the LABEL item, with the walk label and in its context; later closes
find it. R54: where the label's last copy has ended already, its items complete DONE at the close of the body, refused
ones keeping REFUSED, the LABEL item's entry with the counts (that they wait for that close is the model's inference,
log 42). With further copies to supply the walk returns to the item after the LABEL item; at the last copy the body
closes, by a LABEL item with the implied-close mark. A supply copy past the copies total yields no segment. -/
def Obligations.FetchEnd : Prop :=
  ∀ (s : State) (f : ItemFetch) (w : WalkLabel), s.rrd.fetch = some f → f.doomed = false →
    Transfer.item ∉ s.bpu.waiting → s.rrd.inside = true → s.rrd.label = some w →
    (s.lcu.printing = none → s.lcu.staged = none) →
    let i := s.rrd.walk
    let held := if s.rrd.supplyCopy ≤ w.total
      then some (Held.segment (.copyEnd s.rrd.supplyCopy w.index)) else s.rrd.hold
    let closed (k : Idx) : State :=
      let mark (d : Context) : Context :=
        if d.label = w.index then { d with closing := some (d.closing.getD k) } else d
      { s with
        lcu := { s.lcu with printing := s.lcu.printing.map mark, staged := s.lcu.staged.map mark }
        rrd := { s.rrd with fetch := none, hold := held } }
    let returns (k : Idx) (u : State) : State :=
      { u with rrd := { u.rrd with
          walk := w.index + 1, supplyCopy := s.rrd.supplyCopy + 1
          label := some { w with closing := some (w.closing.getD k) } } }
    let leaves (implied : Bool) (walk k : Idx) (u : State) : State :=
      { u with rrd := { u.rrd with
          walk := walk, inside := false, label := none
          impliedClose := s.rrd.impliedClose || implied
          table := match w.ended with
            | some (good, spoiled) => labelEnds s.rrd.retire w.index (w.closing.getD k) .done good
                spoiled u.rrd.table
            | none => u.rrd.table } }
    (field 0 1 f.data = 5 → ∃ t, exec .itemFetchComplete s = .next t ∧
      let entry : ItemEntry :=
        { index := i, kind := .endCopy, complete := false, result := none, reason := 0, byte13 := 0,
          half14 := 0, tag := itemTag f.data, silent := false }
      let passed : State := { closed i with rrd := { (closed i).rrd with
        take := if i = s.rrd.take then i + 1 else s.rrd.take
        table := if i = s.rrd.take then s.rrd.table ++ [entry] else s.rrd.table } }
      (s.rrd.supplyCopy < w.total → FollowsUp (returns i passed) t) ∧
      (w.total ≤ s.rrd.supplyCopy → FollowsUp (leaves false (i + 1) i passed) t)) ∧
    (field 0 1 f.data = 1 → ∃ t, exec .itemFetchComplete s = .next t ∧
      (s.rrd.supplyCopy < w.total → FollowsUp (returns (i - 1) (closed (i - 1))) t) ∧
      (w.total ≤ s.rrd.supplyCopy → FollowsUp (leaves true i (i - 1) (closed (i - 1))) t))

/-- R8, R12, R55: when the item at the retire index is COMPLETE, the whole run of COMPLETE items retires in one
advance, up to the walk index where a rewind has left COMPLETE items behind it (R38; the model's inference, log 51):
holds are released in ring order, an outcome is queued for every item but the silent ones, BANDS_FREE is judged once,
and a refresh is requested after the outcomes; one that was waiting already goes behind them (the model's inference,
log 14). R10, R56: the outcome of a BAND item shows its band after the item's own release.
R55: the LABEL events are raised in ring order, none for a refused item (the model's inference, log 40), so that the
record keeps the last one's code and argument. LABEL_RETIRED has the tag of the item's first walk (the model's
inference, log 55). -/
def Obligations.RetireAdvance : Prop :=
  ∀ (s : State) (run rest : List ItemEntry), s.rrd.table = run ++ rest → run ≠ [] →
    (∀ e ∈ run, e.complete = true ∧ e.index ≠ s.rrd.walk) →
    (∀ e ∈ rest.head?, e.complete = false ∨ e.index = s.rrd.walk) →
    let t := settle s
    let events := run.filterMap labelEvent
    t.rrd.retire = s.rrd.retire + BitVec.ofNat 16 run.length ∧ t.rrd.table = rest ∧
    t.bht = run.foldl (fun h e => h.releaseItem e.index) s.bht ∧
    t.bpu.waiting.filter Transfer.isOutcome =
      s.bpu.waiting.filter Transfer.isOutcome ++ outcomesOf s.geo s.bht run ∧
    (∃ a b, t.bpu.waiting = a ++ refreshTransfers ++ b ∧ ∀ x ∈ b, x.isOutcome = false) ∧
    (events = [] → t.asu.records.get .label = s.asu.records.get .label) ∧
    (∀ e ∈ events.getLast?, t.asu.records.get .label =
      { pending := true, inService := (s.asu.records.get .label).inService, code := e.1, arg := e.2,
        count := min 255 ((s.asu.records.get .label).count + events.length) }) ∧
    (s.bht.free < s.bht.threshold → s.bht.threshold ≤ t.bht.free →
      (t.asu.records.get .bands).pending = true ∧
      (t.asu.records.get .bands).code = Code.bandsFree ∧
      (t.asu.records.get .bands).arg = BitVec.ofNat 16 t.bht.free) ∧
    (¬ (s.bht.free < s.bht.threshold ∧ s.bht.threshold ≤ t.bht.free) →
      t.asu.records.get .bands = s.asu.records.get .bands)

/-- R10, R56: the outcome bytes 12 to 15 of an item: the result value, and in bytes 13 to 15 the reason of a
refused item, the hold count and last tag of a BAND item's band, or what the item's entry carries. -/
def Obligations.OutcomeFields : Prop :=
  ∀ (t : Bht) (e : ItemEntry) (r : ItemResult), e.result = some r →
    let code := match r with
      | .done => 1
      | .refused => 2
      | .cancelled => 3
      | .failed => 4
    (r = .refused → e.reason < 256 → ∀ band,
      leBytes 4 (outcomeWord t band e).toNat = [2, BitVec.ofNat 8 e.reason, 0, 0]) ∧
    (r ≠ .refused → ∀ b, t.holdOf b < 256 →
      leBytes 4 (outcomeWord t (some b) e).toNat =
        [BitVec.ofNat 8 code, BitVec.ofNat 8 (t.holdOf b), (t.tagOf b).truncate 8,
         (t.tagOf b >>> 8).truncate 8]) ∧
    (r ≠ .refused → e.byte13 < 256 → e.half14 < 65536 →
      leBytes 4 (outcomeWord t none e).toNat =
        [BitVec.ofNat 8 code, BitVec.ofNat 8 e.byte13, BitVec.ofNat 8 e.half14,
         BitVec.ofNat 8 (e.half14 / 256)])

/-- R47, R82, R89: the segment in the output hold moves to the tail of a segment queue that holds fewer than
8, or is dropped under the discard mark, which its COPY_END clears; it waits before a full queue. -/
def Obligations.SegmentHandover : Prop :=
  ∀ (s : State) (seg : Segment), s.rrd.hold = some (.segment seg) →
    ∃ t, exec .segmentHandover s = .next t ∧
    (s.rsu.discard ≠ some (seg.label, seg.copy) → s.rsu.queue.length < 8 →
      FollowsUp
        { s with
          rrd := { s.rrd with hold := none }
          rsu := { s.rsu with queue := s.rsu.queue ++ [seg] } } t) ∧
    (s.rsu.discard ≠ some (seg.label, seg.copy) → 8 ≤ s.rsu.queue.length → FollowsUp s t) ∧
    (s.rsu.discard = some (seg.label, seg.copy) →
      FollowsUp
        { s with
          rrd := { s.rrd with hold := none }
          rsu := { s.rsu with discard := if seg.isEnd then none else s.rsu.discard } } t)

/-- R83, R84: the line buffer fills while it is FILLING, or holds 4 or fewer slots, until it holds 8 or the
queue is empty; at more than 4 slots and not FILLING it takes nothing. R83: a ROWS segment gives one ROW slot for each
of its rows in ascending order, PENDING with nothing read, a REPEAT and a BLANK segment one RUN slot, a COPY_END one
END slot, and the order of the stream stands. R2, R31, R85: an idle step grants the next transfer of the first ROW slot
that has bytes to come: at most 16 bytes of its row, in ascending order, from memory as it stands (that one step
grants one transfer is the model's choice, log 3). -/
def Obligations.FillHysteresis : Prop :=
  (∀ r : Rsu, r.buffer.length ≤ 8 →
    let t := r.fill
    let slotsOf (x : Segment) : List Slot := match x with
      | .rows b f n c l => (List.range n).map fun k => .row b (f + k) c l [] none
      | .repeatRun n c l => [.run true n c l]
      | .blankRun n c l => [.run false n c l]
      | .copyEnd c l => [.endMark c l]
    (r.filling = false → 4 < r.buffer.length → t = r) ∧
    (r.filling = true ∨ r.buffer.length ≤ 4 →
      (∃ more, t.buffer = r.buffer ++ more) ∧ (t.buffer.length = 8 ∨ t.queue = []) ∧
      (t.filling = true ↔ t.buffer.length < 8) ∧ t.buffer.length ≤ 8 ∧
      ((∀ x ∈ r.queue, x.isEnd = false → 1 ≤ x.lines) →
        t.buffer ++ t.queue.flatMap slotsOf = r.buffer ++ r.queue.flatMap slotsOf ∧
        (t.stream.map fun e => e.lines).sum = (r.stream.map fun e => e.lines).sum))) ∧
  ∀ (s : State) (before after : List Slot) (b r c : Nat) (l : Idx) (got : List Byte),
    s.pending = [] → s.rsu.buffer = before ++ .row b r c l got none :: after →
    (∀ x ∈ before, ∀ b' r' c' l' g', x = .row b' r' c' l' g' none → s.geo.dots / 8 ≤ g'.length) →
    got.length < s.geo.dots / 8 →
    ∃ t, step s = .next t ∧ t.mem = s.mem ∧ t.bpu = s.bpu ∧
      let read := s.mem.readBytes
        (s.geo.imageBase + (b * s.geo.height + r) * (s.geo.dots / 8) + got.length)
        (min 16 (s.geo.dots / 8 - got.length))
      t.rsu = { s.rsu with buffer := before ++ .row b r c l (got ++ read) none :: after }

/-- R42, R49, R53: a FEED, CALIBRATE or SETTINGS item fetched outside a label becomes the pending operation of the
output hold. R49, R64, R72: in IDLE a pending operation is handed over. A FEED of a line count starts the paper from
index 0 toward that many lines on, with the rest TOF absent; a CALIBRATE on continuous media finishes at
once and leaves the part in IDLE. R161: on gapped media it starts a calibration run from index 0. -/
def Obligations.OperationHandover : Prop :=
  (∀ (s : State) (f : ItemFetch) (kind : ItemKind) (held : Held), s.rrd.fetch = some f →
    f.doomed = false → Transfer.item ∉ s.bpu.waiting → s.rrd.inside = false →
    (s.lcu.printing = none → s.lcu.staged = none) →
    (field 0 1 f.data = 6 ∧ kind = .feed ∧ held = .feed s.rrd.walk (field 2 2 f.data)) ∨
      (field 0 1 f.data = 7 ∧ kind = .calibrate ∧ held = .calibrate s.rrd.walk) ∨
      (field 0 1 f.data = 8 ∧ kind = .settings ∧ held = .settings s.rrd.walk) →
    ∃ t, exec .itemFetchComplete s = .next t ∧
    let i := s.rrd.walk
    let entry : ItemEntry :=
      { index := i, kind := kind, complete := false, result := none, reason := 0, byte13 := 0,
        half14 := 0, tag := itemTag f.data, silent := false }
    FollowsUp
      { s with rrd := { s.rrd with
          fetch := none, walk := i + 1, hold := some held
          take := if i = s.rrd.take then i + 1 else s.rrd.take
          table := if i = s.rrd.take then s.rrd.table ++ [entry] else s.rrd.table } } t) ∧
  ∀ s : State, s.lcu.engine = .idle → s.lcu.pauseLatch = false → s.lcu.printing = none →
    s.lcu.staged = none → s.lcu.operation = none → s.msu.cal = none →
    (∀ i n, s.rrd.hold = some (.feed i n) → 0 < n →
      ∃ t, exec .operationHandover s = .next t ∧ t.mem = s.mem ∧
        t.lcu.engine = .feeding ∧ t.lcu.operation = some { index := i, feed := some n } ∧
        t.lcu.restTof = none ∧ t.rrd.hold = none ∧
        t.mtu.motion = .forward ∧ t.mtu.ramp = 0 ∧ t.mtu.dirForward = true ∧
        t.mtu.position = s.mtu.position + 1 ∧
        t.mtu.source = .distance (.at (s.mtu.position + BitVec.ofNat 32 n)) ∧
        t.mtu.timer = some { period := s.mtu.ramps.period 0, elapsed := 0 } ∧
        t.hdu.state = .idle ∧ t.hdu.strobes = List.replicate 8 false ∧ t.seu.restTimer = none ∧
        t.htu = s.htu) ∧
    (∀ i, s.rrd.hold = some (.calibrate i) → s.gapped = false →
      ∃ t, exec .operationHandover s = .next t ∧ t.mem = s.mem ∧
        t.lcu.engine = .idle ∧ t.lcu.operation = none ∧ t.rrd.hold = none ∧
        t.mtu = { s.mtu with tailRunOn := t.mtu.tailRunOn } ∧ t.msu = s.msu ∧ t.htu = s.htu) ∧
    (∀ i, s.rrd.hold = some (.calibrate i) → s.gapped = true → 1 < s.cfg.calLimit →
      ∃ t, exec .operationHandover s = .next t ∧ t.mem = s.mem ∧
        t.lcu.engine = .calibrating .item ∧ t.lcu.operation = some { index := i, feed := none } ∧
        t.rrd.hold = none ∧ t.mtu.motion = .forward ∧ t.mtu.ramp = 0 ∧ t.mtu.limitZero = true ∧
        t.mtu.source = .distance .unbounded ∧ t.mtu.position = s.mtu.position + 1 ∧
        t.mtu.timer = some { period := s.mtu.ramps.period 0, elapsed := 0 } ∧
        t.msu.polarity = .unknown ∧ t.msu.valid = false ∧ t.msu.queue = [] ∧ t.msu.passed = [] ∧
        t.msu.phase = .start ∧ t.msu.run = none ∧ t.msu.refEdge = none ∧
        t.msu.senseMark = s.mtu.position ∧
        t.msu.cal = some { phase := .learning, count := 1, measured := none
                           savedPolarity := s.msu.polarity
                           savedCalibrated := s.msu.calibrated } ∧
        (s.msu.valid = true → (t.asu.records.get .media).pending = true ∧
          (t.asu.records.get .media).code = Code.regLost ∧
          (t.asu.records.get .media).arg = 3) ∧
        (s.msu.valid = false → t.asu.records.get .media = s.asu.records.get .media) ∧
        t.htu = s.htu)

/-- R29, R53, R134, R160, R184: the end of a settings re-read puts the settings read into effect, the guard
mode and the free-band threshold among them, completes the item and empties the output hold. A ramp table
waits while the paper moves. R151: the polarity becomes the default read unless it is calibrated. R157, R160: a change
of media kind, of a sensing length or of the polarity loses registration, with REG_LOST 2 where it was VALID; another
re-read leaves the Media Sensing Unit as it stands. R98, R119, R133, R171, R173, R184: each field of the settings block
with its clamp, and the number of the first field that a clamp changed. -/
def Obligations.SettingsReread : Prop :=
  (∀ (g : Geometry) (b : List Byte),
    let c := readSettings g b
    let v (offset size : Nat) : Nat := field offset size b
    let within (lo hi x : Nat) : Nat := max lo (min x hi)
    let raised (k : Nat) : Nat := max 200 (v (0x48 + 2 * k) 2)
    c.eRef = within 16 8191 (v 0x00 2) ∧ c.tMax = within 16 16383 (v 0x02 2) ∧
    c.f1 = min 128 (v 0x04 1) ∧ c.f2 = min 128 (v 0x05 1) ∧ c.f3 = min 128 (v 0x06 1) ∧
    c.coolTime = v 0x07 1 ∧ c.factors = ((List.range 16).map fun k => v (0x08 + k) 1) ∧
    c.thermistor = ((List.range 17).map fun k => max (-40) (signedField (0x18 + k) b)) ∧
    c.thetaSlow = within 0 127 (v 0x29 1) ∧
    c.thetaHold = max (c.thetaSlow + 1) (within 0 127 (v 0x2A 1)) ∧
    c.thetaTrip = max (c.thetaHold + 1) (within 0 127 (v 0x2B 1)) ∧
    c.slowCap = min (v 0x2C 1) (c.rampCount - 1) ∧ c.tGap = within 2 255 (v 0x2D 1) ∧
    c.dotLimit = within (g.dots / g.groups) g.dots (v 0x2E 2) ∧
    c.rampCount = within 1 32 (v 0x30 1) ∧ c.startRows = within 1 255 (v 0x31 1) ∧
    c.restartRows = within 1 255 (v 0x32 1) ∧
    c.media = (if v 0x33 1 = 1 then .continuous else .gapped) ∧
    c.polarity = (if v 0x34 1 = 1 then .gapHigh else if v 0x34 1 = 2 then .gapLow else .auto) ∧
    c.guardLength = within 1 255 (v 0x35 1) ∧ c.tofAdjust = v 0x36 1 ∧
    c.settleTime = within 1 255 (v 0x37 1) ∧ c.dwellTime = v 0x38 1 ∧ c.presentOffset = v 0x39 1 ∧
    c.freeThreshold = within 1 g.bands (v 0x3A 1) ∧
    c.guard = (if v 0x3B 1 = 1 then .block else .pass) ∧ c.sensorDistance = v 0x3C 2 ∧
    c.maxGap = v 0x3E 2 ∧ c.maxPitch = v 0x40 2 ∧ c.pitchTolerance = v 0x42 1 ∧
    c.calLimit = within 1 65535 (v 0x44 2) ∧ c.defaultLength = within 1 65535 (v 0x46 2) ∧
    c.periods.length = c.rampCount ∧ c.periods[0]? = some (raised 0) ∧
    (∀ k p, k + 1 < c.rampCount → c.periods[k]? = some p →
      c.periods[k + 1]? = some (min p (raised (k + 1)))) ∧
    let changed (n : Nat) : Prop := match n with
      | 1 => c.eRef ≠ v 0x00 2
      | 2 => c.tMax ≠ v 0x02 2
      | 3 => c.f1 ≠ v 0x04 1
      | 4 => c.f2 ≠ v 0x05 1
      | 5 => c.f3 ≠ v 0x06 1
      | 8 => ∃ k, k < 17 ∧ signedField (0x18 + k) b < -40
      | 9 => 127 < v 0x29 1
      | 10 => 127 < v 0x2A 1 ∨ c.thetaHold ≠ v 0x2A 1
      | 11 => 127 < v 0x2B 1 ∨ c.thetaTrip ≠ v 0x2B 1
      | 12 => c.slowCap ≠ v 0x2C 1
      | 13 => c.tGap ≠ v 0x2D 1
      | 14 => c.dotLimit ≠ v 0x2E 2
      | 15 => c.rampCount ≠ v 0x30 1
      | 16 => c.startRows ≠ v 0x31 1
      | 17 => c.restartRows ≠ v 0x32 1
      | 18 => 1 < v 0x33 1
      | 19 => 2 < v 0x34 1
      | 20 => c.guardLength ≠ v 0x35 1
      | 22 => c.settleTime ≠ v 0x37 1
      | 25 => c.freeThreshold ≠ v 0x3A 1
      | 26 => 1 < v 0x3B 1
      | 31 => c.calLimit ≠ v 0x44 2
      | 32 => c.defaultLength ≠ v 0x46 2
      | 33 => ∃ k, k < c.rampCount ∧ c.periods[k]? ≠ some (v (0x48 + 2 * k) 2)
      | _ => False
    (firstClamped g b = 0 ↔ ∀ n, ¬ changed n) ∧
    ∀ n, n ≠ 0 → firstClamped g b = n → changed n ∧ ∀ k, k < n → ¬ changed k) ∧
  ∀ (s : State) (i : Idx) (b : List Byte), s.rrd.hold = some (.settings i) →
    s.rrd.reread = some b → (∀ x ∈ s.bpu.waiting, x.isReread = false) →
    ∃ t, exec .settingsRereadComplete s = .next t ∧ t.mem = s.mem ∧
    let c := readSettings s.geo b
    t.settings = some c ∧ t.bpu.guard = c.guard ∧ t.bht.threshold = c.freeThreshold ∧
    t.asu.settingsResult = firstClamped s.geo b ∧ t.rrd.hold = none ∧ t.rrd.reread = none ∧
    (firstClamped s.geo b ≠ 0 → (t.asu.records.get .ring).pending = true) ∧
    (s.mtu.motion = .rest → t.mtu.table = some c.rampTable) ∧
    (s.mtu.motion ≠ .rest → s.htu.dwell = none →
      t.mtu.pendingTable = some c.rampTable ∧ t.mtu.table = s.mtu.table) ∧
    (let polarity : Polarity := if s.msu.calibrated then s.msu.polarity else match c.polarity with
        | .auto => .unknown
        | .gapHigh => .gapHigh
        | .gapLow => .gapLow
      let lost := s.cfg.media ≠ c.media ∨ s.cfg.sensorDistance ≠ c.sensorDistance ∨
        s.cfg.guardLength ≠ c.guardLength ∨ s.cfg.tofAdjust ≠ c.tofAdjust ∨
        s.msu.polarity ≠ polarity
      (lost → t.msu.valid = false ∧ t.msu.queue = []) ∧
      (s.htu.dwell = none ∨ (s.mtu.stopping = none ∧ s.mtu.latch = none) →
        (lost → t.msu = { s.msu with
            polarity := polarity, valid := false, queue := [], passed := [], phase := .start
            openGap := none, refEdge := none, run := none } ∧
          (s.msu.valid = true → (t.asu.records.get .media).pending = true ∧
            (t.asu.records.get .media).code = Code.regLost ∧
            (t.asu.records.get .media).arg = 2) ∧
          (s.msu.valid = false → t.asu.records.get .media = s.asu.records.get .media)) ∧
        (¬ lost → t.msu = s.msu ∧
          t.asu.records.get .media = s.asu.records.get .media))) ∧
    (∀ e, s.rrd.table = [e] → e.index = i → e.kind = .settings → e.silent = false →
      e.result = none → s.rrd.retire = i → s.rrd.walk = i + 1 →
      t.rrd.table = [] ∧ t.rrd.retire = i + 1 ∧ (t.asu.records.get .label).pending = true)

/-- R61: the format record read sets darkness, clamped to −15 to +15, the speed cap index, clamped to ramp
count − 1, the reprint flag and with it the permission, and the format state READ. -/
def Obligations.FormatRecordRead : Prop :=
  ∀ (s : State) (c : Context), c.formatRead = false → Transfer.format c.label ∉ s.bpu.waiting →
    let b := c.formatData
    let flag := decide (field 2 1 b % 2 = 1)
    let d : Context := { c with
      formatRead := true, formatData := [], reprintFlag := flag, permission := flag
      darkness := max (-15) (min 15 (signedField 0 b))
      speedCap := min (field 1 1 b) (s.cfg.rampCount - 1) }
    (s.lcu.printing = some c → ∃ t, exec .formatRecordRead s = .next t ∧
      FollowsUp { s with lcu := { s.lcu with printing := some d } } t) ∧
    ((∀ p, s.lcu.printing = some p → p.formatRead = true) → s.lcu.staged = some c →
      ∃ t, exec .formatRecordRead s = .next t ∧
        FollowsUp { s with lcu := { s.lcu with staged := some d } } t)

/-- R2, R83, R85: the completion of the first PENDING slot's fetch makes it COMPLETE with the row's dots: the
bytes its transfers have returned, the rest read from memory as it stands. R87, R88, R99, R108: a delivery that waits
for the head row is then made: the row is computed into the line record under the copy's owner, the history shifts,
and an AWAITING head becomes ACTIVE unless the record is blank or firing is not allowed. Dot k of a row is bit 7 − k mod 8
of its byte k div 8, so that dot 0 is the most significant bit of the first byte. The row's last grants are taken
inside the command (the model's choice, log 5). A line that a delivery makes idle leaves the line clock at its last
count (the model's choice, log 54). -/
def Obligations.RowFetchComplete : Prop :=
  (∀ (bytes : List Byte) (k : Nat), (rowDots bytes).length = 8 * bytes.length ∧
    (k < 8 * bytes.length →
      (rowDots bytes)[k]? = (bytes[k / 8]?).map fun b => b.getLsbD (7 - k % 8))) ∧
  (∀ (s : State) (before after : List Slot) (b r c : Nat) (l : Idx) (got : List Byte),
    s.rsu.buffer = before ++ .row b r c l got none :: after → s.rsu.waiting = false →
    (∀ x ∈ before, ∀ b' r' c' l' g', x ≠ .row b' r' c' l' g' none) →
    ∃ t, exec .rowFetchComplete s = .next t ∧
    let bytes := got ++ s.mem.readBytes
      (s.geo.imageBase + (b * s.geo.height + r) * (s.geo.dots / 8) + got.length)
      (s.geo.dots / 8 - got.length)
    FollowsUp
      { s with rsu := { s.rsu with
          buffer := before ++ .row b r c l [] (some (rowDots bytes)) :: after } } t) ∧
  ∀ (s : State) (c : Context) (rest : List Slot) (b r k : Nat) (l : Idx) (got : List Byte),
    s.rsu.buffer = .row b r k l got none :: rest → s.rsu.waiting = true → s.lcu.started = true →
    s.lcu.printing = some c → s.hdu.state = .awaiting → s.mtu.stopping = none →
    s.mtu.latch = none →
    ∃ t, exec .rowFetchComplete s = .next t ∧
    let bytes := got ++ s.mem.readBytes
      (s.geo.imageBase + (b * s.geo.height + r) * (s.geo.dots / 8) + got.length)
      (s.geo.dots / 8 - got.length)
    let line := lineRecord s.geo s.cfg s.seu.band c.darkness s.seu.h1 s.seu.h2 (rowDots bytes)
      (some (c.copy, c.label))
    let delivered : State :=
      { s with
        rsu := { s.rsu with
          buffer := rest, waiting := false
          repeatImage := some { image := rowDots bytes, copy := k, label := l } }
        seu := { s.seu with record := line, h1 := line.fired, h2 := s.seu.h1 } }
    (line.slices = [] ∨ s.htu.supply ≠ .on ∨ s.msu.headOpen = true →
      FollowsUp { delivered with hdu := { s.hdu with state := .idle, line := none } } t) ∧
    (line.slices ≠ [] → s.htu.supply = .on → s.msu.headOpen = false →
      FollowsUp
        { delivered with hdu := { s.hdu with
            state := .active, line := some line, shift := .shifting 1 0, firing := none
            tGap := s.cfg.tGap
            bursts := line.slices.map fun x => packBursts s.cfg.dotLimit none 0 x.counts } } t)

/-! ## The line -/

/-- R87, R99, R108, R120, R135, R136: while PRINTING, the expiry of a line's period with a line planned takes the
next step: the media position rises by one, the ramp index and the line timer take the plan, the row the head of
the stream gives (`HeadGives`) is computed into the line record under the history, the history shifts, and the Head
Drive Unit becomes ACTIVE unless the record is blank or firing is not allowed. R67, R68, R75, R89: at the step that
reaches the copy's end the copy counts as good and its elements leave the stream, OVERLONG is raised where rows
remain, and a last copy ends its label; the discard mark is set unless the copy's COPY_END is anywhere in the stream,
its queue included (the model's inference from R89, log 17); the next copy goes on where it is ready and no pause waits, and the paper is
presented otherwise. A reprint that strobed nothing gives up its permission with its mark (the model's inference,
log 29). R88: where the head row is still PENDING the delivery waits: the step is taken, the head stays AWAITING, and
neither a record nor the history changes. -/
def Obligations.PrintedLine : Prop :=
  (∀ (s : State) (c : Context) (j : Nat) (dots : Dots) (left : List Slot)
    (image : Option RepeatImage), s.lcu.engine = .printing → s.lcu.started = true →
    s.lcu.printing = some c → s.msu.cal = none → s.lcu.seek = none → s.mtu.timer ≠ none →
    s.mtu.motion = .forward → s.hdu.state = .idle → planLine s = .line j →
    HeadGives s dots left image →
    let next := s.mtu.position + 1
    let line := lineRecord s.geo s.cfg s.seu.band c.darkness s.seu.h1 s.seu.h2 dots
      (some (c.copy, c.label))
    let filled (r : Rsu) : Rsu := if s.bpu.engagement = .engaged then r.fill else r
    let taken := filled { s.rsu with buffer := left, repeatImage := image, waiting := false }
    let steps (t : State) : Prop := t.mem = s.mem ∧ t.htu = s.htu ∧ t.mtu.motion = .forward ∧
      t.mtu.dirForward = true ∧ t.mtu.position = next ∧ t.mtu.ramp = j ∧ t.mtu.latch = none ∧
      t.mtu.timer = some { period := s.mtu.ramps.period j, elapsed := 0 } ∧
      t.msu.sensing = some (s.mtu.position, s.mtu.ramps.period j) ∧
      t.seu.record = line ∧ t.seu.h1 = line.fired ∧ t.seu.h2 = s.seu.h1 ∧
      t.seu.restTimer = none ∧
      (line.slices = [] ∨ s.htu.supply ≠ .on ∨ s.msu.headOpen = true →
        t.hdu.state = .idle ∧ t.hdu.line = none) ∧
      (line.slices ≠ [] → s.htu.supply = .on → s.msu.headOpen = false →
        t.hdu.state = .active ∧ t.hdu.line = some line ∧ t.hdu.shift = .shifting 1 0 ∧
        t.hdu.firing = none ∧
        t.hdu.bursts = line.slices.map fun x => packBursts s.cfg.dotLimit none 0 x.counts)
    let ends : Prop :=
      if s.gapped then ∃ p, s.lcu.copyTof = some p ∧ 1 ≤ ahead next p ∧
        s.msu.queue.head?.map (fun e => e.tof) = some next
      else ∃ p, s.lcu.copyTof = some p ∧ next = p + BitVec.ofNat 32 c.length
    (¬ ends → (∀ p, s.lcu.copyTof = some p → linesAhead next p < s.cfg.calLimit) →
      ∃ t, exec .linePeriodExpiry s = .next t ∧ steps t ∧ t.lcu = s.lcu ∧ t.rsu = taken) ∧
    (ends → 0 < s.cfg.calLimit → ∃ t, exec .linePeriodExpiry s = .next t ∧ steps t ∧
      let mine (e : Element) : Bool := e.copy == c.copy && e.label == c.label
      let good : Context := { c with
        good := c.good + 1, reprintMark := false, permission := c.permission && !c.reprintMark }
      let last := c.total ≤ c.copy
      let successor := if last then s.lcu.staged else some { good with copy := c.copy + 1 }
      let ready := ∃ d, successor = some d ∧ d.formatRead = true ∧
        (taken.endCopy c.copy c.label).holds d.label d.copy = true
      t.rsu.repeatImage = none ∧ (∀ e ∈ t.rsu.stream, mine e = false) ∧
      t.rsu.discard = (if ∃ e ∈ taken.stream, mine e = true ∧ e.isEnd = true then s.rsu.discard
        else some (c.label, c.copy)) ∧
      (s.gapped = true → t.msu.queue = s.msu.queue.tail) ∧
      ((∀ rest, taken.buffer ≠ .endMark c.copy c.label :: rest) →
        (t.asu.records.get .label).pending = true ∧
        (¬ last → (∀ e ∈ s.rrd.table.head?, e.complete = false) →
          (t.asu.records.get .label).code = Code.overlong ∧
          (t.asu.records.get .label).arg = c.tag)) ∧
      (∀ rest, taken.buffer = .endMark c.copy c.label :: rest → ¬ last →
        (∀ e ∈ s.rrd.table.head?, e.complete = false) →
        t.asu.records.get .label = s.asu.records.get .label) ∧
      t.lcu.staged = (if last then none else s.lcu.staged) ∧
      (ready ∧ s.lcu.pauseLatch = false →
        t.lcu.engine = .printing ∧ t.lcu.printing = successor.map (fun d => { d with strobed := false }) ∧
        t.lcu.copyTof = some next ∧ t.lcu.started = true ∧ t.mtu.source = s.mtu.source) ∧
      (¬ (ready ∧ s.lcu.pauseLatch = false) →
        t.lcu.engine = .presenting .atEnd ∧ t.lcu.printing = successor ∧ t.lcu.copyTof = none ∧
        t.lcu.started = false ∧ t.lcu.presentTof = some next ∧
        t.mtu.source = .distance (.at (next + BitVec.ofNat 32 s.cfg.presentOffset))))) ∧
  ∀ (s : State) (c : Context) (j b r k : Nat) (l : Idx) (got : List Byte) (rest : List Slot),
    s.lcu.engine = .printing → s.lcu.started = true → s.lcu.printing = some c → s.msu.cal = none →
    s.lcu.seek = none → s.mtu.timer ≠ none → s.mtu.motion = .forward → s.hdu.state = .idle →
    planLine s = .line j → s.rsu.buffer = .row b r k l got none :: rest →
    let next := s.mtu.position + 1
    (s.gapped = true → ∀ e ∈ s.msu.queue.head?, e.tof ≠ next) →
    (s.gapped = false → (∀ e ∈ s.msu.queue.head?, e.tof ≠ next) ∧
      ∀ p, s.lcu.copyTof = some p → next ≠ p + BitVec.ofNat 32 c.length) →
    (∀ p, s.lcu.copyTof = some p → linesAhead next p < s.cfg.calLimit) →
    ∃ t, exec .linePeriodExpiry s = .next t ∧
      FollowsUp
        { s with
          mtu := { s.mtu with
            motion := .forward, dirForward := true, ramp := j, latch := none, position := next
            timer := some { period := s.mtu.ramps.period j, elapsed := 0 }, stopping := none }
          hdu := { s.hdu with
            state := .awaiting, line := none, bursts := [], shift := .idle, firing := none
            strobes := List.replicate 8 false, clock := 0 }
          seu := { s.seu with restTimer := none }
          msu := { s.msu with sensing := some (s.mtu.position, s.mtu.ramps.period j) }
          rsu := { s.rsu with waiting := true } } t

/-- R127, R136: a line still in progress when its period expires is stretched: the plan waits in the latch and
the line is counted once for its label and the engine. R70, R143, R144: with a horizon of 0 at ramp index 0
the paper comes to rest and the copy stalls, counted for its label and the engine. R71, R143: a deceleration at
ramp index 0 brings the rest of a thermal hold, the grade still HOLD or above (that HORIZON is the source then is the
model's choice, log 48). -/
def Obligations.LineStretchedOrStalled : Prop :=
  ∀ (s : State) (c : Context), s.mtu.timer ≠ none → s.mtu.motion = .forward →
    s.lcu.printing = some c →
    (∀ (j n : Nat) (line : LineRecord), s.hdu.state = .active → s.hdu.line = some line →
      line.owner = some (n, c.label) → planLine s = .line j →
      ∃ t, exec .linePeriodExpiry s = .next t ∧
        FollowsUp
          { s with
            mtu := { s.mtu with timer := none, latch := some (j, s.mtu.ramps.period j) }
            lcu := { s.lcu with
              stretches := min 65535 (s.lcu.stretches + 1)
              printing := some { c with stretches := min 65535 (c.stretches + 1) } } } t) ∧
    (s.lcu.engine = .printing → s.hdu.state = .idle → s.mtu.source = .horizon → horizon s = 0 →
      s.mtu.ramp = 0 → s.mtu.tailRunOn = false →
      ∃ t, exec .linePeriodExpiry s = .next t ∧
        FollowsUp
          (requestRefresh
            { s with
              mtu := { s.mtu with
                motion := .rest, dirForward := true, ramp := 0, timer := none, latch := none
                limitZero := false, tailRunOn := false, backfeed := 0, pendingTable := none
                table := s.mtu.pendingTable.or s.mtu.table, stopping := none }
              seu := { s.seu with restTimer := some 0 }
              msu := { s.msu with sensing := none }
              htu := { s.htu with dwell := s.htu.dwell.map fun _ => 0 }
              lcu := { s.lcu with
                engine := .stalled
                stalls := min 65535 (s.lcu.stalls + 1)
                printing := some { c with stalls := min 65535 (c.stalls + 1) } } }) t) ∧
    (s.lcu.engine = .printing → s.hdu.state = .idle → s.mtu.source = .decelerate → s.mtu.ramp = 0 →
      s.htu.grade = .hold ∨ s.htu.grade = .trip →
      ∃ t, exec .linePeriodExpiry s = .next t ∧
        FollowsUp
          (requestRefresh
            { s with
              mtu := { s.mtu with
                motion := .rest, dirForward := true, ramp := 0, timer := none, latch := none
                source := .horizon, limitZero := false, tailRunOn := false, backfeed := 0
                pendingTable := none, table := s.mtu.pendingTable.or s.mtu.table
                stopping := none }
              seu := { s.seu with restTimer := some 0 }
              msu := { s.msu with sensing := none }
              htu := { s.htu with dwell := s.htu.dwell.map fun _ => 0 }
              lcu := { s.lcu with engine := .holding .thermal } }) t)

/-- R139, R141, R143: what a planning point decides. With an amount ahead the next index is the smallest of i + 1
and the five caps (R138: the PRINTING label's speed cap in HORIZON; R139: the slow cap in a grade above NORMAL, the
lines beyond the one planned, the index limit; R140: the highest entry whose period is at least the forecast line
time, 0 where none is), raised to i − 1 where it lies below; without one, and in a deceleration, it falls by one entry
to 0 and the paper stops there, but for a tail run-on. R138: the amount ahead of each source. R90, R91, R92: the
horizon, from the stream's lines and the ends that are known: a copy with its COPY_END counts up to its end, on
continuous media its remaining length, a copy without it no more than its lines; on gapped media the first copy with
its COPY_END and no known end counts at least S − guard length in the sum. -/
def Obligations.PlanBounded : Prop :=
  (∀ s : State,
    let i := s.mtu.ramp
    let a := amountAhead s
    let periods := (s.mtu.table.map fun t => t.periods).getD []
    let top := periods.length - 1
    let label := match s.lcu.printing with
      | some c => min c.speedCap top
      | none => 0
    let thermal := if s.htu.grade = .normal then top
      else (s.mtu.table.map fun t => t.slowCap).getD 0
    let time := s.mtu.ramps.timeCap s.hdu.forecastTime
    let caps := [if s.mtu.source = .horizon then label else top, thermal, a - 1, time,
      if s.mtu.limitZero then 0 else top]
    (periods.Pairwise (fun p q => q ≤ p) →
      (∀ k p, periods[k]? = some p → s.hdu.forecastTime ≤ p → k ≤ time) ∧
      (time ≠ 0 → ∃ p, periods[time]? = some p ∧ s.hdu.forecastTime ≤ p)) ∧
    (∀ j, planLine s = .line j → j ≤ i + 1 ∧ i ≤ j + 1) ∧
    (s.mtu.source ≠ .decelerate → 1 ≤ a → ∃ m ∈ caps, (∀ k ∈ caps, m ≤ k) ∧
      planLine s = .line (max (i - 1) (min (i + 1) m))) ∧
    (s.mtu.source ≠ .decelerate → a = 0 → 0 < i → planLine s = .line (i - 1)) ∧
    (s.mtu.source ≠ .decelerate → a = 0 → i = 0 → s.mtu.tailRunOn = true → planLine s = .line 0) ∧
    (s.mtu.source = .horizon → a = 0 → i = 0 → s.mtu.tailRunOn = false →
      planLine s = .stop .horizonExhausted) ∧
    (∀ g, s.mtu.source = .distance g → a = 0 → i = 0 → s.mtu.tailRunOn = false →
      planLine s = .stop .targetReached) ∧
    (s.mtu.source = .decelerate → 0 < i → planLine s = .line (i - 1)) ∧
    (s.mtu.source = .decelerate → i = 0 → planLine s = .stop .decelerated) ∧
    (s.mtu.source = .horizon → a = horizon s) ∧
    (∀ p, s.mtu.source = .distance (.at p) → a = min 65535 (linesAhead p s.mtu.position)) ∧
    (s.mtu.source = .distance .renewed →
      a = max 1 (s.cfg.sensorDistance - s.cfg.guardLength)) ∧
    (s.mtu.source = .distance .unbounded → 1 ≤ a)) ∧
  ∀ s : State,
    let linesOf (l : List Element) : Nat := (l.map fun e => e.lines).sum
    let isOpen (l : List Element) : Prop := ∀ e ∈ l, e.isEnd = false
    let start := if s.lcu.started then some s.mtu.position else s.lcu.copyTof
    let tofs := s.msu.queue.map fun e => e.tof
    let ahead_ := s.cfg.sensorDistance - s.cfg.guardLength
    (s.rsu.stream = [] → horizon s = 0) ∧
    (∀ body, s.rsu.stream = body → isOpen body →
      (start = none ∨ (s.gapped = true ∧ tofs = []) → horizon s = min 65535 (linesOf body)) ∧
      (∀ p e more, start = some p → s.gapped = true → tofs = e :: more →
        horizon s = min 65535 (min (linesOf body) (linesAhead e p))) ∧
      (∀ p o c, start = some p → s.gapped = false → s.lcu.copyTof = some o →
        s.lcu.printing = some c → (∀ x ∈ body, x.label = c.label) →
        horizon s = min 65535
          (min (linesOf body) (linesAhead (o + BitVec.ofNat 32 c.length) p)))) ∧
    (∀ body x, s.rsu.stream = body ++ [x] → isOpen body → x.isEnd = true →
      (start = none → horizon s = min 65535 (linesOf body)) ∧
      (∀ p e more, start = some p → s.gapped = true → tofs = e :: more →
        horizon s = min 65535 (linesAhead e p)) ∧
      (∀ p, start = some p → s.gapped = true → tofs = [] →
        horizon s = min 65535 (max (linesOf body) ahead_)) ∧
      (∀ p o c, start = some p → s.gapped = false → s.lcu.copyTof = some o →
        s.lcu.printing = some c → x.label = c.label →
        horizon s = min 65535 (linesAhead (o + BitVec.ofNat 32 c.length) p))) ∧
    (∀ body x more, s.rsu.stream = body ++ x :: more → isOpen body → x.isEnd = true →
      isOpen more → more ≠ [] → s.gapped = true →
      (start = none → horizon s = min 65535 (linesOf body + linesOf more)) ∧
      (∀ p, start = some p → tofs = [] →
        horizon s = min 65535 (max (linesOf body) ahead_ + linesOf more)) ∧
      (∀ p e, start = some p → tofs = [e] →
        horizon s = min 65535 (linesAhead e p + linesOf more)) ∧
      (∀ p e f rest, start = some p → tofs = e :: f :: rest →
        horizon s = min 65535 (linesAhead e p + min (linesOf more) (linesAhead f e)))) ∧
    (∀ body x more y, s.rsu.stream = body ++ x :: more ++ [y] → isOpen body → x.isEnd = true →
      isOpen more → y.isEnd = true → s.gapped = true →
      (∀ p, start = some p → tofs = [] →
        horizon s = min 65535 (max (linesOf body) ahead_ + linesOf more)) ∧
      (∀ p e, start = some p → tofs = [e] →
        horizon s = min 65535 (max (linesAhead e p + linesOf more) ahead_)) ∧
      (∀ p e f rest, start = some p → tofs = e :: f :: rest →
        horizon s = min 65535 (linesAhead e p + linesAhead f e)))

/-- R65, R70, R135, R142: a copy starts once every ARMING condition holds, and a stalled copy goes on once the
horizon allows: PRINTING, with the paper stepping at ramp index 0. Without the conditions nothing happens (the
model's choice, log 4). The copy does not end at this step. R144: a backfeed that ends under a deceleration order leaves
the planning source HORIZON (the model's choice, log 48). R146, R155: the backfeed that ARMING makes before steps
back one line at each expiry, a TOF it steps back over returns to the edge queue, and with no line left the paper is
at rest in ARMING. -/
def Obligations.CopyStarts : Prop :=
  ∀ (s : State) (c : Context), s.lcu.printing = some c → s.msu.cal = none → s.lcu.seek = none →
    (∀ e ∈ s.msu.queue.head?, e.tof ≠ s.mtu.position + 1) →
    (∀ p, s.lcu.copyTof = some p → linesAhead (s.mtu.position + 1) p < s.cfg.calLimit) →
    (s.gapped = false → ∀ p, s.lcu.copyTof = some p →
      s.mtu.position + 1 ≠ p + BitVec.ofNat 32 c.length) →
    let reaches (rows : Nat) := rows ≤ horizon s ∨ (1 ≤ horizon s ∧ s.rsu.lastClosed = true)
    let steps (t : State) := t.lcu.engine = .printing ∧ t.mem = s.mem ∧
      t.mtu.motion = .forward ∧ t.mtu.ramp = 0 ∧ t.mtu.source = .horizon ∧
      t.mtu.position = s.mtu.position + 1 ∧ t.lcu.copyTof = s.lcu.copyTof ∧
      t.mtu.timer = some { period := s.mtu.ramps.period 0, elapsed := 0 } ∧
      t.seu.restTimer = none ∧ t.htu.supply = s.htu.supply ∧
      t.htu.dwell = s.htu.dwell.map (fun _ => 0)
    (s.lcu.engine = .arming → s.mtu.motion = .rest → s.htu.supply = .on → s.msu.headOpen = false →
      s.htu.grade = .normal ∨ s.htu.grade = .slow → c.formatRead = true →
      s.rsu.holds c.label c.copy = true → reaches s.cfg.startRows →
      ∃ t, exec .copyStart s = .next t ∧ steps t ∧ t.lcu.restTof = none ∧ t.lcu.started = true ∧
        t.lcu.printing = some { c with strobed := false }) ∧
    (s.lcu.engine = .arming → ¬ (s.mtu.motion = .rest ∧ s.htu.supply = .on ∧
        s.msu.headOpen = false ∧ (s.htu.grade = .normal ∨ s.htu.grade = .slow) ∧
        c.formatRead = true ∧ s.rsu.holds c.label c.copy = true ∧ reaches s.cfg.startRows) →
      exec .copyStart s = .next s) ∧
    (s.lcu.engine = .stalled → reaches s.cfg.restartRows →
      ∃ t, exec .stallRestart s = .next t ∧ steps t ∧ t.lcu.printing = some c ∧
        t.lcu.stalls = s.lcu.stalls) ∧
    (s.lcu.engine = .stalled → ¬ reaches s.cfg.restartRows → exec .stallRestart s = .next s) ∧
    (s.lcu.engine = .arming → s.mtu.motion = .backward → s.mtu.timer ≠ none → 0 < s.mtu.backfeed →
      s.msu.queue.length < 16 →
      ∃ t, exec .linePeriodExpiry s = .next t ∧
        FollowsUp
          { s with
            mtu := { s.mtu with
              dirForward := false, ramp := 0, latch := none, position := s.mtu.position - 1
              backfeed := s.mtu.backfeed - 1
              timer := some { period := s.mtu.ramps.period 0, elapsed := 0 } }
            seu := { s.seu with restTimer := none }
            msu := match s.msu.passed with
              | e :: rest => if e.tof = s.mtu.position
                then { s.msu with queue := e :: s.msu.queue, passed := rest } else s.msu
              | [] => s.msu } t) ∧
    (s.lcu.engine = .arming → s.mtu.motion = .backward → s.mtu.timer ≠ none → s.mtu.backfeed = 0 →
      s.lcu.pauseLatch = false → s.lcu.armCancelled = false →
      ∃ t, exec .linePeriodExpiry s = .next t ∧
        FollowsUp
          { s with
            mtu := { s.mtu with
              motion := .rest, dirForward := true, ramp := 0, timer := none, latch := none
              source := if s.mtu.source = .decelerate then .horizon else s.mtu.source
              limitZero := false, tailRunOn := false, backfeed := 0, pendingTable := none
              table := s.mtu.pendingTable.or s.mtu.table, stopping := none }
            seu := { s.seu with restTimer := some 0 }
            msu := { s.msu with sensing := none } } t)

/-- R121: the dots of a set enter the head's shift register from dot D−1 down to dot 0, two in a tick, dot 0 last at
the stage of dot 0. The end of the shift has shifted in the rest, so that a register that held the dots shifted so far
holds the whole set, whatever stood there before the shift (R129); the stages are those of log 56. R121, R123, R125: a
completed shift is latched at once when the burst counter is idle, which begins the
slice's first burst and the shift of the next slice; while a burst fires it waits. The latch of slice 1 makes
the line a fired line, which marks the context of the line's label, whichever copy of it is current (log 16); a line
whose label PRINTING does not hold marks nothing. -/
def Obligations.ShiftComplete : Prop :=
  (∀ (s : State) (n d : Nat) (x : Slice), s.pending = [] → s.hdu.shift = .shifting n d →
    s.hdu.slice n = some x → x.dots.length = s.geo.dots → d + 2 ≤ s.geo.dots →
    ∃ t, step s = .next t ∧ t.hdu.shift = .shifting n (d + 2) ∧ t.hdu.latch = s.hdu.latch ∧
      t.hdu.register =
        ((x.dots.drop (s.geo.dots - d - 2)).take 2 ++ s.hdu.register).take s.geo.dots) ∧
  ∀ (s : State) (n d : Nat), s.hdu.shift = .shifting n d →
    let shiftedIn (x : Slice) (r : Dots) : Prop :=
      (s.hdu.register.length ≤ s.geo.dots →
        r = (x.dots.take (x.dots.length - d) ++ s.hdu.register).take s.geo.dots) ∧
      (x.dots.length = s.geo.dots → d ≤ s.geo.dots → s.hdu.register.length ≤ s.geo.dots →
        s.hdu.register.take d = x.dots.drop (s.geo.dots - d) → r = x.dots)
    (s.hdu.firing ≠ none → ∃ r, exec .shiftComplete s =
        .next { s with hdu := { s.hdu with shift := .loaded n, register := r } } ∧
      ∀ x, s.hdu.slice n = some x → shiftedIn x r) ∧
    ∀ (x : Slice) (u : Burst), s.hdu.firing = none → s.hdu.slice n = some x →
      s.hdu.burst n 0 = some u →
      ∃ t, exec .shiftComplete s = .next t ∧ shiftedIn x t.hdu.register ∧
        t.hdu = { s.hdu with
          register := t.hdu.register
          latch := some x.dots
          shift := if (s.hdu.slice (n + 1)).isSome then .shifting (n + 1) 0 else .idle
          firing := some { slice := n, burst := 0, count := 0, compareA := x.duration,
                           compareB := x.duration + s.hdu.tGap, active := true }
          strobes := (List.range 8).map fun k => u.groups.contains k
          fired := if n = 1 then s.hdu.fired + 1 else s.hdu.fired } ∧
        t.htu = { s.htu with dwell := if n = 1 then s.htu.dwell.map fun _ => 0 else s.htu.dwell } ∧
        (n ≠ 1 → t.lcu = s.lcu) ∧
        (∀ c line k, n = 1 → s.lcu.printing = some c → s.hdu.line = some line →
          line.owner = some (k, c.label) →
          let marked : Context := { c with
            strobed := true, reprintMark := false, permission := c.permission && !c.reprintMark }
          t.lcu = { s.lcu with printing := some marked }) ∧
        ((∀ c line k, s.lcu.printing = some c → s.hdu.line = some line →
          line.owner ≠ some (k, c.label)) → t.lcu = s.lcu) ∧
        t = { s with hdu := t.hdu, htu := t.htu, lcu := t.lcu }

/-- R122: the bursts of a slice take the groups with firing dots in ascending order, each once, hold at most L dots
where no group alone holds more, and each closes only where the next group would pass L. R124, R128: the line time.
R123, R124: at compare A the strobes become inactive; at compare B the next burst of the slice begins, or the slice
ends, and with the last slice the line. R121: a next slice that has been shifted is latched as the slice ends. R127,
R144: at the line end a step that waits is taken as planned, and a stop that waits brings the rest. That the line clock
keeps its last count from a line end on is the model's choice (log 54). -/
def Obligations.Bursts : Prop :=
  (∀ (limit : Nat) (counts : List Nat), (∀ x ∈ counts, x ≤ limit) →
    let bursts := packBursts limit none 0 counts
    let dotsOf (n : Nat) : Nat := counts[n]?.getD 0
    (bursts.map fun b => b.groups).flatten =
      (List.range counts.length).filter (fun n => decide (0 < dotsOf n)) ∧
    (∀ b ∈ bursts, b.groups ≠ [] ∧ b.dots = (b.groups.map dotsOf).sum ∧ b.dots ≤ limit) ∧
    ∀ k b b', bursts[k]? = some b → bursts[k + 1]? = some b' →
      ∀ n ∈ b'.groups.head?, limit < b.dots + dotsOf n) ∧
  (∀ (r : LineRecord) (dots limit tGap : Nat),
    let fire (x : Slice) : Nat := (packBursts limit none 0 x.counts).length * (x.duration + tGap)
    (r.slices = [] → r.time dots limit tGap = 0) ∧
    ∀ before last, r.slices = before ++ [last] → r.time dots limit tGap =
      dots / 2 + (before.map fun x => max (fire x) (dots / 2)).sum + fire last) ∧
  ∀ (s : State) (f : Firing), s.hdu.firing = some f →
    (f.active = true → exec .burstCompareA s =
      .next { s with hdu := { s.hdu with
        strobes := List.replicate 8 false
        firing := some { f with count := f.compareA, active := false } } }) ∧
    (∀ x u, f.active = false → s.hdu.slice f.slice = some x →
      s.hdu.burst f.slice (f.burst + 1) = some u →
      ∃ t, exec .burstCompareB s = .next t ∧
        FollowsUp
          { s with hdu := { s.hdu with
              firing := some { slice := f.slice, burst := f.burst + 1, count := 0,
                               compareA := x.duration, compareB := x.duration + s.hdu.tGap,
                               active := true }
              strobes := (List.range 8).map fun k => u.groups.contains k } } t) ∧
    (∀ n d, f.active = false → s.hdu.burst f.slice (f.burst + 1) = none →
      (s.hdu.slice (f.slice + 1)).isSome = true → s.hdu.shift = .shifting n d →
      ∃ t, exec .burstCompareB s = .next t ∧
        FollowsUp { s with hdu := { s.hdu with firing := none } } t) ∧
    (f.active = false → s.hdu.burst f.slice (f.burst + 1) = none →
      s.hdu.slice (f.slice + 1) = none → s.mtu.stopping = none → s.mtu.latch = none →
      ∃ t, exec .burstCompareB s = .next t ∧
        FollowsUp
          { s with hdu := { s.hdu with
              state := .idle, line := none, bursts := [], shift := .idle, firing := none
              strobes := List.replicate 8 false } } t) ∧
    (∀ x u, f.active = false → s.hdu.burst f.slice (f.burst + 1) = none → 0 < f.slice →
      s.hdu.slice (f.slice + 1) = some x → s.hdu.burst (f.slice + 1) 0 = some u →
      s.hdu.shift = .loaded (f.slice + 1) →
      ∃ t, exec .burstCompareB s = .next t ∧
        FollowsUp
          { s with hdu := { s.hdu with
              latch := some x.dots
              shift := if (s.hdu.slice (f.slice + 2)).isSome then .shifting (f.slice + 2) 0 else .idle
              firing := some { slice := f.slice + 1, burst := 0, count := 0, compareA := x.duration,
                               compareB := x.duration + s.hdu.tGap, active := true }
              strobes := (List.range 8).map fun k => u.groups.contains k } } t) ∧
    (∀ j period c, f.active = false → s.hdu.burst f.slice (f.burst + 1) = none →
      s.hdu.slice (f.slice + 1) = none → s.mtu.stopping = none → s.mtu.latch = some (j, period) →
      s.lcu.printing = some c → s.msu.cal = none → s.lcu.seek = none →
      (∀ e ∈ s.msu.queue.head?, e.tof ≠ s.mtu.position + 1) →
      (∀ p, s.lcu.copyTof = some p → linesAhead (s.mtu.position + 1) p < s.cfg.calLimit) →
      (s.gapped = false → ∀ p, s.lcu.copyTof = some p →
        s.mtu.position + 1 ≠ p + BitVec.ofNat 32 c.length) →
      ∃ t, exec .burstCompareB s = .next t ∧ t.mem = s.mem ∧ t.lcu = s.lcu ∧ t.htu = s.htu ∧
        t.mtu.motion = .forward ∧ t.mtu.position = s.mtu.position + 1 ∧ t.mtu.ramp = j ∧
        t.mtu.latch = none ∧ t.mtu.timer = some { period := period, elapsed := 0 } ∧
        t.mtu.source = s.mtu.source ∧ t.msu.sensing = some (s.mtu.position, period)) ∧
    (∀ c cause, f.active = false → s.hdu.burst f.slice (f.burst + 1) = none →
      s.hdu.slice (f.slice + 1) = none → s.mtu.stopping = some cause → s.lcu.engine = .printing →
      s.lcu.printing = some c → s.mtu.source ≠ .decelerate →
      ∃ t, exec .burstCompareB s = .next t ∧ t.mem = s.mem ∧ t.lcu.engine = .stalled ∧
        t.lcu.stalls = min 65535 (s.lcu.stalls + 1) ∧
        t.lcu.printing = some { c with stalls := min 65535 (c.stalls + 1) } ∧
        t.mtu.motion = .rest ∧ t.mtu.ramp = 0 ∧ t.mtu.timer = none ∧ t.mtu.stopping = none ∧
        t.mtu.position = s.mtu.position ∧ t.hdu.state = .idle ∧
        t.hdu.strobes = List.replicate 8 false ∧ t.seu.restTimer = some 0)

/-- R109: the rest timer's passing of the cool time clears both history rows and stops the timer. R181: the
end of a 100 ms period of the status timer starts the next, and requests a refresh while the engine is in
neither IDLE nor UNCONFIGURED. A stopped timer ends nothing (log 4). -/
def Obligations.TimerPeriods : Prop :=
  (∀ s : State,
    (s.seu.restTimer ≠ none → ∃ t, exec .coolTimeExpiry s = .next t ∧
      FollowsUp
        { s with seu := { s.seu with
            h1 := List.replicate s.geo.dots false, h2 := List.replicate s.geo.dots false
            restTimer := none } } t) ∧
    (s.seu.restTimer = none → exec .coolTimeExpiry s = .next s)) ∧
  ∀ s : State, ∃ t, exec .statusTimer s = .next t ∧
    (s.asu.statusTimer = none → t = s) ∧
    (s.asu.statusTimer ≠ none → (s.lcu.engine = .idle ∨ s.lcu.engine = .unconfigured) →
      t = { s with asu := { s.asu with statusTimer := some 0 } }) ∧
    (s.asu.statusTimer ≠ none → s.lcu.engine ≠ .idle → s.lcu.engine ≠ .unconfigured →
      t = { s with
        asu := { s.asu with statusTimer := some 0 }
        bpu := { s.bpu with waiting := withRefresh s.bpu.waiting } })

/-! ## Sensing, temperature and the head supply -/

/-- R150 to R154: the sensing of a forward line. A line behind the sense mark is not taken, one under an unknown
polarity takes no part in a level run; the line that confirms a gap opens it at the run's first line, exact but from
START, and the line that confirms the body after it forms an entry, which joins the edge queue where its top of form
lies ahead, becomes a seek's target where it has none, and raises PITCH_MISMATCH where its pitch is off. With no line to
sense nothing happens (the model's choice, log 4). R66, R76, R156: an entry offered to a full queue overflows it: the
copy is spoiled and the paper stops through PRESENTING(STOP), or a seek goes on without a target. R157, R158: the GAP
line that brings its run to the max gap is a PAPER_OUT fault and loses registration. R159: a BODY run at the max pitch
in PRINTING is a GAP_MISSING fault, once for the run. R161, R162: in LEARNING a run of twice the guard length sets the
polarity and begins MEASURING, where the first entry with a pitch is measured and gives the paper its target.
R161, R163: each step of a run counts a line, and the line that brings the count to the calibration limit before
FINISHING fails the run: CAL_FAILED, a deceleration, the item FAILED or for an arming calibration the pause latch (that
the engine stays CALIBRATING until the rest is the model's inference, log 28). R72, R162: the rest at the target makes
the measured pitch and gap the calibrated ones, raises CAL_DONE, completes the item and sets the rest TOF (that of the
measuring entry: the model's inference, log 32). -/
def Obligations.LineSensing : Prop :=
  (∀ (a b c : Bool) (s : State),
    (s.msu.sensing = none → ∃ t, exec (.lineSensing a b c) s = .next t ∧ FollowsUp s t) ∧
    ∀ (p : Pos) (period : Nat), s.msu.sensing = some (p, period) →
    let high := (a && b) || (a && c) || (b && c)
    let gap := match s.msu.polarity with
      | .gapLow => !high
      | _ => high
    let fresh : LevelRun := { high := high, first := p, length := 1, reported := false }
    let run : LevelRun := match s.msu.run with
      | some r => if r.high = high then { r with length := min 65535 (r.length + 1) } else fresh
      | none => fresh
    let m : Msu := { s.msu with sensing := none, senseMark := p + 1 }
    let confirms := s.gapped = true ∧ run.length = s.cfg.guardLength
    let passedOver := ¬ confirms ∨ (s.msu.phase = .body ∧ gap = false) ∨
      (s.msu.phase = .gap ∧ gap = true)
    let paperOut := gap = true ∧ s.cfg.maxGap ≠ 0 ∧ run.length = s.cfg.maxGap
    let missing := gap = false ∧ s.gapped = true ∧ s.cfg.maxPitch ≠ 0 ∧ s.lcu.engine = .printing ∧
      s.cfg.maxPitch ≤ run.length ∧ run.reported = false
    (ahead p s.msu.senseMark < 0 → ∃ t, exec (.lineSensing a b c) s = .next t ∧
      FollowsUp { s with msu := { s.msu with sensing := none } } t) ∧
    (∀ r, 0 ≤ ahead p s.msu.senseMark → s.msu.cal = some r → r.phase = .learning →
      ∃ t, exec (.lineSensing a b c) s = .next t ∧
      (run.length ≠ 2 * s.cfg.guardLength → FollowsUp { s with msu := { m with run := some run } } t) ∧
      (run.length = 2 * s.cfg.guardLength → FollowsUp
        { s with msu := { m with
            run := some run, polarity := if high then .gapLow else .gapHigh, phase := .body
            cal := some { r with phase := .measuring } } } t)) ∧
    (0 ≤ ahead p s.msu.senseMark → (∀ r, s.msu.cal = some r → r.phase ≠ .learning) →
      (s.msu.polarity = .unknown → ∃ t, exec (.lineSensing a b c) s = .next t ∧
        FollowsUp { s with msu := m } t) ∧
      (s.msu.polarity ≠ .unknown → passedOver → ¬ paperOut → ¬ missing →
        ∃ t, exec (.lineSensing a b c) s = .next t ∧
        FollowsUp { s with msu := { m with run := some run } } t) ∧
      (s.msu.polarity ≠ .unknown → confirms → s.msu.phase = .start → ¬ paperOut → ¬ missing →
        ∃ t, exec (.lineSensing a b c) s = .next t ∧
        (gap = false → FollowsUp { s with msu := { m with run := some run, phase := .body } } t) ∧
        (gap = true → FollowsUp
          { s with msu := { m with
              run := some run, phase := .gap
              openGap := some { edge := run.first, exact := false, pitch := 0 } } } t)) ∧
      (s.msu.polarity ≠ .unknown → confirms → gap = true → s.msu.phase = .body → ¬ paperOut →
        ∃ t, exec (.lineSensing a b c) s = .next t ∧
        FollowsUp
          { s with msu := { m with
              run := some run, phase := .gap, refEdge := some run.first
              openGap := some
                { edge := run.first, exact := true
                  pitch := match s.msu.refEdge with
                    | none => 0
                    | some e => min 65535 (linesAhead run.first e) } } } t) ∧
      (∀ g, s.msu.polarity ≠ .unknown → confirms → gap = false → s.msu.phase = .gap →
        s.msu.openGap = some g → ¬ missing →
        let tof := run.first + BitVec.ofNat 32 (s.cfg.sensorDistance + s.cfg.tofAdjust)
        let passed : Msu := { m with run := some run, phase := .body, openGap := none }
        let entry : Edge :=
          { tof := tof, gap := min 65535 (linesAhead run.first g.edge), pitch := g.pitch }
        let joined : Msu := { passed with
          queue := s.msu.queue ++ [entry], lastPitch := g.pitch, valid := true }
        let mismatch := 0 < g.pitch ∧ 0 < s.msu.calPitch ∧
          (g.pitch + s.cfg.pitchTolerance < s.msu.calPitch ∨
            s.msu.calPitch + s.cfg.pitchTolerance < g.pitch)
        let lost : Msu := { passed with queue := [], passed := [], valid := false }
        let overflowed (u : State) : State :=
          raise .media Code.edgeOverflow (tof.truncate 16) { u with msu := lost }
        (ahead tof s.mtu.position < 1 → ∃ t, exec (.lineSensing a b c) s = .next t ∧
          FollowsUp { s with msu := passed } t) ∧
        (1 ≤ ahead tof s.mtu.position → s.msu.queue.length < 16 → s.msu.cal = none →
          let u : State := match s.lcu.seek with
            | some { start := start, target := none } =>
              { s with
                msu := joined
                lcu := { s.lcu with seek := some { start := start, target := some tof } }
                mtu := { s.mtu with source := .distance (.at tof) } }
            | _ => { s with msu := joined }
          ∃ t, exec (.lineSensing a b c) s = .next t ∧ (¬ mismatch → FollowsUp u t) ∧
            (mismatch → FollowsUp
              (raise .media Code.pitchMismatch (BitVec.ofNat 16 g.pitch) u) t)) ∧
        (∀ r, 1 ≤ ahead tof s.mtu.position → s.msu.queue.length < 16 → s.msu.cal = some r →
          s.lcu.seek = none → ∃ t, exec (.lineSensing a b c) s = .next t ∧
          (r.phase = .measuring → 0 < g.pitch → FollowsUp
            { s with
              msu := { joined with
                cal := some { r with phase := .finishing, measured := some entry } }
              mtu := { s.mtu with
                source := .distance (.at (tof + BitVec.ofNat 32 s.cfg.presentOffset)) } } t) ∧
          (r.phase ≠ .measuring ∨ g.pitch = 0 → FollowsUp { s with msu := joined } t)) ∧
        (1 ≤ ahead tof s.mtu.position → 16 ≤ s.msu.queue.length →
          ∃ t, exec (.lineSensing a b c) s = .next t ∧
          (s.lcu.engine ≠ .printing → s.lcu.engine ≠ .stalled → s.lcu.engine ≠ .holding .thermal →
            s.lcu.seek = none → FollowsUp (overflowed s) t) ∧
          (∀ k, s.lcu.engine = .seeking ∨ s.lcu.engine = .feeding → s.lcu.seek = some k →
            linesAhead s.mtu.position k.start < s.cfg.calLimit →
            FollowsUp
              (overflowed
                { s with
                  lcu := { s.lcu with seek := some { k with target := none } }
                  mtu := { s.mtu with source := .distance .renewed } }) t) ∧
          (∀ c, s.lcu.engine = .printing → s.lcu.printing = some c → s.mtu.motion = .forward →
            s.mtu.stopping = none → s.mtu.latch = none →
            t.lcu.engine = .presenting .stop ∧ CopySpoiled t c ∧ t.msu = lost ∧
            t.mtu.source = .decelerate ∧ t.mtu.motion = .forward ∧
            t.mtu.position = s.mtu.position ∧ t.hdu.state = .idle ∧
            t.hdu.strobes = List.replicate 8 false ∧ t.htu = s.htu ∧
            (t.asu.records.get .media).pending = true ∧
            (t.asu.records.get .media).code = Code.edgeOverflow ∧
            (t.asu.records.get .media).arg = tof.truncate 16) ∧
          (∀ c, s.lcu.engine = .stalled ∨ s.lcu.engine = .holding .thermal →
            s.lcu.printing = some c → s.mtu.motion = .rest → s.lcu.pauseLatch = true →
            s.lcu.restTof = none →
            t.lcu.engine = .holding .pause ∧ CopySpoiled t c ∧ t.msu = lost ∧
            t.mtu.motion = .rest))) ∧
      (s.msu.polarity ≠ .unknown → passedOver → paperOut → s.msu.cal = none →
        s.mtu.motion ≠ .rest → s.lcu.engine ∈ [.arming, .seeking, .printing, .presenting .atEnd,
          .presenting .stop, .feeding, .calibrating .item, .calibrating .arming] →
        ∃ t, exec (.lineSensing a b c) s = .next t ∧ FaultStops s t .paperOut ∧
        t.lcu.openedSincePaperOut = false ∧
        t.msu = { m with
          run := none, queue := [], passed := [], valid := false, phase := .start
          openGap := none, refEdge := none } ∧
        (s.msu.valid = true → (t.asu.records.get .media).pending = true ∧
          (t.asu.records.get .media).code = Code.regLost ∧
          (t.asu.records.get .media).arg = 1) ∧
        (s.msu.valid = false → t.asu.records.get .media = s.asu.records.get .media) ∧
        ∀ c, s.lcu.engine = .printing → s.lcu.printing = some c → CopySpoiled t c) ∧
      (s.msu.polarity ≠ .unknown → passedOver → missing → s.msu.cal = none →
        s.mtu.motion ≠ .rest →
        ∃ t, exec (.lineSensing a b c) s = .next t ∧ FaultStops s t .gapMissing ∧
        t.msu = { m with run := some { run with reported := true } } ∧
        ∀ c, s.lcu.printing = some c → CopySpoiled t c))) ∧
  ∀ (s : State) (r : CalRun) (why : CalReason), s.lcu.engine = .calibrating why →
    s.msu.cal = some r → s.lcu.seek = none → s.mtu.timer ≠ none → s.mtu.motion = .forward →
    s.hdu.state = .idle →
    let done (result : ItemResult) (u : State) : Prop := ∀ o, s.lcu.operation = some o →
      u.lcu.operation = none ∧
      u.rrd = { s.rrd with table := s.rrd.table.map fun e : ItemEntry =>
        if e.index = o.index then { e.ends result with byte13 := 0 } else e }
    (∀ j, planLine s = .line j → (∀ e ∈ s.msu.queue.head?, e.tof ≠ s.mtu.position + 1) →
      ∃ t, exec .linePeriodExpiry s = .next t ∧
      let n := min 65535 (r.count + 1)
      t.mtu.motion = .forward ∧ t.mtu.position = s.mtu.position + 1 ∧ t.mtu.ramp = j ∧
      t.lcu.engine = .calibrating why ∧ t.htu = s.htu ∧
      (r.phase = .finishing ∨ n < s.cfg.calLimit →
        t.lcu = s.lcu ∧ t.mtu.source = s.mtu.source ∧
        t.msu = { s.msu with
          cal := some { r with count := n }
          sensing := some (s.mtu.position, s.mtu.ramps.period j) }) ∧
      (r.phase ≠ .finishing → s.cfg.calLimit ≤ n →
        CalibrationDropped s t r ∧ t.mtu.source = .decelerate ∧
        (t.asu.records.get .media).pending = true ∧
        (t.asu.records.get .media).code = Code.calFailed ∧
        (t.asu.records.get .media).arg = (if r.phase = .learning then 1 else 2) ∧
        (why = .arming → t.lcu = { s.lcu with pauseLatch := true }) ∧
        (why = .item → t.lcu = { s.lcu with operation := none } ∧
          ∃ u, FollowsUp u t ∧ done .failed u))) ∧
    ∀ (stop : RestCause) (e : Edge), planLine s = .stop stop → s.mtu.source ≠ .decelerate →
      r.measured = some e → s.lcu.printing = none → s.lcu.staged = none →
      (∀ i n, s.rrd.hold ≠ some (.feed i n)) → (∀ i, s.rrd.hold ≠ some (.calibrate i)) →
      ∃ t, exec .linePeriodExpiry s = .next t ∧ t.mtu.motion = .rest ∧
        t.mtu.position = s.mtu.position ∧ t.mtu.limitZero = false ∧
        t.lcu.engine = (if s.lcu.pauseLatch then .holding .pause else .idle) ∧
        t.lcu.restTof = some e.tof ∧
        t.msu = { s.msu with
          calPitch := e.pitch, calGap := e.gap, calibrated := true, cal := none, sensing := none } ∧
        (t.asu.records.get .media).pending = true ∧
        (t.asu.records.get .media).code = Code.calDone ∧
        (t.asu.records.get .media).arg = BitVec.ofNat 16 e.pitch ∧
        ∃ u, FollowsUp u t ∧ done .done u

/-- R126, R164, R165, R73, R74: one sample of the head-open switch. The debounced state changes at the third
agreeing sample. A closing raises HEAD_CLOSED and clears its faults; an opening in IDLE raises HEAD_OPEN and
loses registration, the level run standing (the model's inference, log 30), and in PRINTING, the paper moving, it is
a fault that stops the paper, the strobes and the supply and spoils the copy. R52, R75, R93: the spoil counts where
the copy has strobed, and orders the same copy again, or after a counted spoil without the permission the next; the
stream, the output hold and the STAGED context empty, the walk goes back into the body, and the spoil of the last
copy ends the label. That the third sample leaves the count at 0 is the model's choice (log 49). -/
def Obligations.HopenSample : Prop :=
  ∀ (x : Bool) (s : State),
    (s.bpu.resetLine = true → exec (.hopenSample x) s = .next s) ∧
    (s.bpu.resetLine = false → ∃ t, exec (.hopenSample x) s = .next t ∧
      let third := s.msu.lastSample = some x ∧ s.msu.agree = 2
      let n := if s.msu.lastSample = some x then s.msu.agree + 1 else 1
      let m : Msu := { s.msu with headOpen := x, agree := 0, lastSample := some x }
      (s.msu.switchKnown = true → x = s.msu.headOpen → FollowsUp { s with msu := m } t) ∧
      ((s.msu.switchKnown = true → x ≠ s.msu.headOpen) → n < 3 →
        FollowsUp { s with msu := { s.msu with agree := n, lastSample := some x } } t) ∧
      (s.msu.switchKnown = false → third →
        FollowsUp { s with msu := { m with switchKnown := true } } t) ∧
      (s.msu.switchKnown = true → s.msu.headOpen = true → x = false → third →
        s.lcu.engine ≠ .unconfigured →
        FollowsUp
          (raise .media Code.headClosed 0
            { s with
              msu := m
              lcu := { s.lcu with faults := { s.lcu.faults with
                headOpen := false
                paperOut := s.lcu.faults.paperOut && !s.lcu.openedSincePaperOut } } }) t) ∧
      (s.msu.switchKnown = true → s.msu.headOpen = false → x = true → third →
        s.hdu.state ≠ .active → s.lcu.engine = .idle →
        FollowsUp
          (raise .media Code.headOpen 0
            { s with
              msu := { m with queue := [], passed := [], valid := false, phase := .start,
                              openGap := none, refEdge := none, senseMark := s.mtu.position }
              lcu := { s.lcu with openedSincePaperOut := true } }) t) ∧
      (s.msu.switchKnown = true → s.msu.headOpen = false → x = true → third →
        s.lcu.engine = .printing → s.mtu.motion ≠ .rest →
        t.lcu.engine = .faulted ∧ t.lcu.faults.headOpen = true ∧ t.msu.headOpen = true ∧
        t.msu.valid = false ∧ t.mtu.motion = .rest ∧ t.mtu.ramp = 0 ∧ t.htu.supply = .off ∧
        t.hdu.state = .idle ∧ t.hdu.strobes = List.replicate 8 false ∧
        t.mtu.position = s.mtu.position ∧ t.mem = s.mem ∧
        (t.asu.records.get .fault).pending = true ∧ (t.asu.records.get .fault).code = 4 ∧
        ∀ c, s.lcu.printing = some c → CopySpoiled t c))

/-- R100, R171, R172, R173: the schedule requests a conversion every 10 ms; a sample of a valid code sets the
temperature by the thermistor table, the temperature band and the grade; code 0 or 255 is a sensor fault. The
grade rises to the highest threshold reached, and falls one at a time at 5 below each threshold. A stopped
schedule requests nothing (log 4), and a sample no conversion asked for is taken as one that was (log 25): the
model's choices. R70, R71, R174: a rise into HOLD orders a deceleration in PRINTING and HOLDING(THERMAL) at once in
STALLED, counted as a thermal stop; a rise into TRIP is a fault; a grade below HOLD ends the trip condition, and
HOLDING(THERMAL) with it, which goes on printing where the horizon allows and stalls otherwise. R175: a conversion
still outstanding after a failed engage is graded too, no fault being taken while UNCONFIGURED (R73), and one before
the first settings is counted alone (the model's reading, log 20). -/
def Obligations.Conversions : Prop :=
  (∀ s : State, (s.htu.schedule = none → exec .periodicConversion s = .next s) ∧
    (s.htu.schedule ≠ none → exec .periodicConversion s =
      .next { s with htu := { s.htu with
        schedule := some 10, conversions := s.htu.conversions + 1 } })) ∧
  (∀ (code : Byte) (s : State), s.settings = none →
    ∃ t, exec (.conversionSample code) s = .next t ∧
      FollowsUp { s with htu := { s.htu with conversions := s.htu.conversions - 1 } } t) ∧
  (∀ (code : Byte) (s : State), s.settings ≠ none →
    let graded := s.lcu.engine ≠ .unconfigured
    ∃ t, exec (.conversionSample code) s = .next t ∧ t.mem = s.mem ∧
      (¬ graded → ∃ u, FollowsUp u t ∧ u.asu = s.asu ∧ u.bpu = s.bpu ∧ u.mtu = s.mtu ∧
        u.lcu = { s.lcu with faults := u.lcu.faults }) ∧
      t.htu.conversions = s.htu.conversions - 1 ∧
      (code ≠ 0 → code ≠ 255 →
        let k := code.toNat / 16
        let t0 := s.cfg.thermistor[k]?.getD 0
        let t1 := s.cfg.thermistor[k + 1]?.getD 0
        let theta := t0 + ((t1 - t0) * (code.toNat % 16 : Nat)).fdiv 16
        t.htu.theta = theta ∧ t.htu.sensorValid = true ∧
        (t.seu.band : Int) = max 0 (min 15 ((theta + 20).fdiv 8)) ∧
        t.htu.grade = nextGrade s.cfg theta s.htu.grade) ∧
      (code = 0 ∨ code = 255 →
        t.htu.sensorValid = false ∧ t.htu.theta = s.htu.theta ∧ t.htu.grade = s.htu.grade ∧
        (s.htu.sensorValid = true → graded →
          t.lcu.engine = .faulted ∧ t.lcu.faults.thermSensor = true) ∧
        (s.htu.sensorValid = false → FollowsUp
          { s with htu := { s.htu with conversions := s.htu.conversions - 1 } } t)) ∧
      (code ≠ 0 → code ≠ 255 →
        let theta := thermistorTheta s.cfg.thermistor code.toNat
        let g := nextGrade s.cfg theta s.htu.grade
        let below (x : Grade) : Prop := x = .normal ∨ x = .slow
        let reaches := s.cfg.restartRows ≤ horizon s ∨ (1 ≤ horizon s ∧ s.rsu.lastClosed = true)
        let counted : Prop := t.lcu.thermalStops = min 65535 (s.lcu.thermalStops + 1) ∧
          t.lcu.printing = s.lcu.printing.map
            fun c => { c with thermalStops := min 65535 (c.thermalStops + 1) }
        (g = .hold → below s.htu.grade → s.lcu.engine = .printing →
          counted ∧ t.lcu.engine = .printing ∧ t.mtu.source = .decelerate ∧
          t.mtu.motion = s.mtu.motion ∧ t.mtu.ramp = s.mtu.ramp) ∧
        (g = .hold → below s.htu.grade → s.lcu.engine = .stalled →
          counted ∧ t.lcu.engine = .holding .thermal ∧ t.mtu.motion = s.mtu.motion) ∧
        (s.htu.sensorValid = false → t.lcu.faults.thermSensor = false) ∧
        (g = .trip → s.htu.grade ≠ .trip → t.htu.trip = true) ∧
        (g = .trip → s.htu.grade ≠ .trip → graded →
          t.lcu.engine = .faulted ∧ t.lcu.faults.thermalTrip = true ∧
          (s.lcu.engine ≠ .faulted → t.mtu.motion = .rest ∧ t.htu.supply = .off ∧
            t.hdu.state = .idle ∧ t.hdu.strobes = List.replicate 8 false)) ∧
        (below g → s.htu.trip = true →
          t.htu.trip = false ∧ t.lcu.faults.thermalTrip = false) ∧
        (below g → s.lcu.engine = .holding .thermal → ¬ reaches →
          t.lcu.engine = .stalled ∧ t.lcu.printing = s.lcu.printing ∧ t.mtu.motion = s.mtu.motion) ∧
        (∀ c, below g → s.lcu.engine = .holding .thermal → reaches → s.lcu.printing = some c →
          s.msu.cal = none → s.lcu.seek = none →
          (∀ e ∈ s.msu.queue.head?, e.tof ≠ s.mtu.position + 1) →
          (∀ p, s.lcu.copyTof = some p → linesAhead (s.mtu.position + 1) p < s.cfg.calLimit) →
          (s.gapped = false → ∀ p, s.lcu.copyTof = some p →
            s.mtu.position + 1 ≠ p + BitVec.ofNat 32 c.length) →
          t.lcu.engine = .printing ∧ t.lcu.printing = some c ∧ t.mtu.source = .horizon ∧
          t.mtu.motion = .forward ∧ t.mtu.ramp = 0 ∧ t.mtu.position = s.mtu.position + 1 ∧
          t.mtu.timer = some { period := s.mtu.ramps.period 0, elapsed := 0 }))) ∧
  ∀ (c : Settings) (theta : Int) (g : Grade), c.thetaSlow < c.thetaHold → c.thetaHold < c.thetaTrip →
    let h := nextGrade c theta g
    let reached : Grade := if c.thetaTrip ≤ theta then .trip
      else if c.thetaHold ≤ theta then .hold
      else if c.thetaSlow ≤ theta then .slow
      else .normal
    (g.rank < reached.rank → h = reached) ∧
    (reached.rank ≤ g.rank → h.rank ≤ g.rank ∧
      (h = .normal ∨ h.threshold c - 5 < theta) ∧
      ∀ k : Grade, h.rank < k.rank → k.rank ≤ g.rank → theta ≤ k.threshold c - 5)

/-- R169, R170, R126, R73: the supply. At the settle timer's expiry PSGD high brings ON and PSGD low turns the
supply off with a SUPPLY fault, as a fall of PSGD in ON does; the dwell time turns it off without a fault. Events
of a supply that is not in their state change nothing (log 4). -/
def Obligations.SupplyEvents : Prop :=
  ∀ s : State,
    let fails (t : State) := t.htu.supply = .off ∧ t.htu.settle = none ∧ t.htu.dwell = none ∧
      t.mem = s.mem ∧
      (s.lcu.engine = .unconfigured → t.lcu = s.lcu) ∧
      (s.lcu.engine ≠ .unconfigured → t.lcu.engine = .faulted ∧ t.lcu.faults.supply = true) ∧
      (s.lcu.engine ≠ .unconfigured → s.lcu.engine ≠ .faulted → t.mtu.motion = .rest ∧
        t.hdu.state = .idle ∧ t.hdu.strobes = List.replicate 8 false ∧
        (t.asu.records.get .fault).code = 3)
    (s.htu.supply = .settling → ∃ t, exec (.settleExpiry true) s = .next t ∧
      FollowsUp { s with htu := { s.htu with supply := .on, settle := none, dwell := some 0 } } t) ∧
    (s.htu.supply = .settling → ∃ t, exec (.settleExpiry false) s = .next t ∧ fails t) ∧
    (s.htu.supply ≠ .settling → ∀ v, ∃ t, exec (.settleExpiry v) s = .next t ∧ FollowsUp s t) ∧
    (s.htu.supply = .on → ∃ t, exec .psgdFall s = .next t ∧ fails t) ∧
    (s.htu.supply ≠ .on → ∃ t, exec .psgdFall s = .next t ∧ FollowsUp s t) ∧
    (s.htu.dwell ≠ none → s.lcu.engine.dwells = true → s.cfg.dwellTime ≠ 0 →
      s.hdu.state ≠ .active → s.mtu.stopping = none → s.mtu.latch = none →
      ∃ t, exec .dwellExpiry s = .next t ∧
        FollowsUp { s with htu := { s.htu with supply := .off, settle := none, dwell := none } } t) ∧
    (s.htu.dwell = none ∨ s.lcu.engine.dwells = false ∨ s.cfg.dwellTime = 0 →
      exec .dwellExpiry s = .next s)

/-! ## Strobe energy -/

/-- R101, R104: the base duration is E_ref × K[b] × (32 + d) ÷ 4096, rounded down, and at most t_max; the class
durations are t_base and its fractions F1 to F3 in 128ths, rounded down, each at most t_base. -/
def Obligations.Durations : Prop :=
  ∀ (c : Settings) (band k : Nat) (d : Int), c.factors[band]? = some k → -15 ≤ d → d ≤ 15 →
    let raw : Int := ((c.eRef * k : Nat) * (32 + d)).fdiv 4096
    let t := baseDuration c band d
    (t : Int) = min raw c.tMax ∧ t ≤ c.tMax ∧
    (c.eRef ≤ 8191 → k ≤ 255 → raw ≤ 23967) ∧ (k = 0 → t = 0) ∧
    (d = 0 → k = 128 → raw = c.eRef) ∧
    classDuration c t 0 = t ∧ classDuration c t 1 = t * c.f1 / 128 ∧
    classDuration c t 2 = t * c.f2 / 128 ∧ classDuration c t 3 = t * c.f3 / 128 ∧
    (c.f1 ≤ 128 → c.f2 ≤ 128 → c.f3 ≤ 128 → ∀ n, classDuration c t n ≤ t) ∧
    (c.f1 = 128 → classDuration c t 1 = t) ∧ (c.f1 = 0 → classDuration c t 1 = 0) ∧
    (t * c.f1 < 128 → classDuration c t 1 = 0) ∧ (c.f2 = 128 → classDuration c t 2 = t) ∧
    (t * c.f2 < 128 → classDuration c t 2 = 0) ∧ (c.f3 = 128 → classDuration c t 3 = t) ∧
    (t * c.f3 < 128 → classDuration c t 3 = 0)

/-- R103, R105: each on-dot has the class 2 × h1 + h2 and an off-dot none. The slices last the steps between the
distinct non-zero durations of the present classes in ascending order, at most four; slice s fires exactly the
on-dots whose class duration is at least its value; the strobe time of an on-dot adds up to its class duration
exactly, that of an off-dot to 0, and none exceeds t_max. -/
def Obligations.StrobeTime : Prop :=
  ∀ (g : Geometry) (c : Settings) (band : Nat) (d : Int) (h1 h2 row : Dots)
    (owner : Option (Nat × Idx)), c.f1 ≤ 128 → c.f2 ≤ 128 → c.f3 ≤ 128 →
    let dur := classDuration c (baseDuration c band d)
    let line := lineRecord g c band d h1 h2 row owner
    let fired (h : Dots) (k : Nat) : Nat := if h[k]? = some true then 1 else 0
    let classOf (k : Nat) : Nat := 2 * fired h1 k + fired h2 k
    let on (k : Nat) : Prop := row[k]? = some true
    ∃ vs : List Nat, vs.Pairwise (fun v w => v < w) ∧ vs.length ≤ 4 ∧
      (∀ v ∈ vs, v ≤ baseDuration c band d) ∧
      (∀ v, v ∈ vs ↔ v ≠ 0 ∧ ∃ k, on k ∧ dur (classOf k) = v) ∧
      line.slices.length = vs.length ∧
      (∀ n x v, line.slices[n]? = some x → vs[n]? = some v →
        x.duration + (if n = 0 then 0 else (vs[n - 1]?).getD 0) = v ∧ 0 < x.duration ∧
        ∀ k, x.dots[k]? = some true ↔ on k ∧ v ≤ dur (classOf k)) ∧
      (∀ k, on k → line.strobeTime k = dur (classOf k)) ∧
      (∀ k, ¬ on k → line.strobeTime k = 0) ∧ (∀ k, line.strobeTime k ≤ c.tMax) ∧
      (∀ k, line.fired[k]? = some true ↔ on k ∧ dur (classOf k) ≠ 0)

/-! ## Every step -/

/-- The invariants at reset: memory in canonical form, the strobes safe, the offer right, the free count right,
the queues within their sizes. -/
def Obligations.ResetInvariants : Prop :=
  Memory.wf State.reset.mem = true ∧ StrobeSafe State.reset ∧ OfferRight State.reset ∧
    FreeCountRight State.reset ∧ Bounded State.reset

/-- Every step, from every state whose memory has the canonical form, leaves memory in that form. -/
def Obligations.StepKeepsMemoryForm : Prop :=
  ∀ s t : State, Memory.wf s.mem = true → step s = .next t → Memory.wf t.mem = true

/-- R118, R120, R126, R129, R164: every step keeps the head safe: outside an ACTIVE line no strobe line is active
and nothing is shifted or fired, and an ACTIVE line has the supply ON and the head closed. -/
def Obligations.StepKeepsStrobesSafe : Prop :=
  ∀ s t : State, StrobeSafe s → step s = .next t → StrobeSafe t

/-- R177, R182: every step leaves the offer as the flags, the masks and the engine state give it. -/
def Obligations.StepKeepsOfferRight : Prop :=
  ∀ s t : State, OfferRight s → step s = .next t → OfferRight t

/-- R4, R11, R82, R83, R149, R155: every step keeps the free count equal to the number of bands without a hold,
and the segment queue, the line buffer, the edge queue and the passed list within their sizes. R23, R95: the line buffer
stays empty unless the part is ENGAGED. -/
def Obligations.StepKeepsCounts : Prop :=
  (∀ s t : State, FreeCountRight s → step s = .next t → FreeCountRight t) ∧
  ∀ s t : State, Bounded s → step s = .next t → Bounded t

/-- R18, R31, R34, R36: what a step does to memory. A command changes no byte outside those its own processor
cycle writes and those of the part writes that wait at the port; a reset leaves memory; an idle step changes
no byte outside those of the waiting part writes. The bytes of an unaligned cycle are those of the aligned address
below it (`cycleAddr`; the model's choice, log 10). -/
def Obligations.MemoryFrame : Prop :=
  (∀ (c : Instr) (s t : State) (a : Nat), exec c s = .next t → ¬ cycleWrites c s a →
    ¬ partWrites s a → t.mem.read a = s.mem.read a) ∧
  (∀ s t : State, exec .resetAssert s = .next t → t.mem = s.mem) ∧
  ∀ (s t : State) (a : Nat), s.pending = [] → step s = .next t → ¬ partWrites s a →
    t.mem.read a = s.mem.read a

/-- R19, R23 to R26, R29, R36, R39: which commands can change the registers of the bus, the settings in effect
and the producer index; no command touches the queue of commands, and none but RESET_ASSERT the millisecond
prescaler (log 3). -/
def Obligations.BusFrame : Prop :=
  ∀ (c : Instr) (s t : State), exec c s = .next t →
    let cycle := ∃ w a d, c = .processorWrite w a d
    t.pending = s.pending ∧
    (c ≠ .resetAssert → t.prescaler = s.prescaler) ∧
    (c ≠ .resetAssert → (∀ x y, c ≠ .resetRelease x y) →
      t.bpu.resetLine = s.bpu.resetLine ∧ t.bpu.straps = s.bpu.straps) ∧
    (c ∉ [.resetAssert, .geometryCheck, .engageSuccess] → t.bpu.geometry = s.bpu.geometry) ∧
    (c ∉ [.resetAssert, .engageSuccess, .settingsRereadComplete] →
      t.settings = s.settings ∧ t.bpu.guard = s.bpu.guard) ∧
    (c ∉ [.resetAssert, .engage, .geometryCheck, .engageSuccess] → ¬ cycle →
      t.bpu.engagement = s.bpu.engagement) ∧
    (c ∉ [.resetAssert, .geometryCheck, .engageSuccess] → (∀ v, c ≠ .producerWrite v) → ¬ cycle →
      t.bpu.latch = s.bpu.latch) ∧
    (c ∉ [.resetAssert, .engageSuccess] → (∀ v, c ≠ .producerWrite v) → ¬ cycle →
      t.rrd.producer = s.rrd.producer)

/-- R25, R118, R121, R125, R129, R164, R167, R171 to R175, R177, R180 to R182: which commands can change the masks,
the head's temperature and grade, the lines fired total, the head's latch and shift register, the debounced switch, the sample schedule, the status timer
and the results the status block reports. -/
def Obligations.UnitFrame : Prop :=
  ∀ (c : Instr) (s t : State), exec c s = .next t → c ≠ .resetAssert →
    ((∀ v, c ≠ .maskWordWrite v) → (∀ w a d, c ≠ .processorWrite w a d) →
      t.asu.masks = s.asu.masks) ∧
    ((∀ x, c ≠ .conversionSample x) →
      t.htu.theta = s.htu.theta ∧ t.htu.grade = s.htu.grade ∧ t.htu.trip = s.htu.trip ∧
      t.htu.sensorValid = s.htu.sensorValid ∧ t.seu.band = s.seu.band) ∧
    (c ∉ [.engageSuccess, .shiftComplete, .burstCompareB] → t.hdu.fired = s.hdu.fired) ∧
    (c ∉ [.shiftComplete, .burstCompareB] → t.hdu.latch = s.hdu.latch) ∧
    (c ≠ .shiftComplete → t.hdu.register = s.hdu.register) ∧
    ((∀ x, c ≠ .hopenSample x) →
      t.msu.headOpen = s.msu.headOpen ∧ t.msu.agree = s.msu.agree ∧
      t.msu.lastSample = s.msu.lastSample ∧ t.msu.switchKnown = s.msu.switchKnown) ∧
    (c ∉ [.geometryCheck, .engageSuccess, .periodicConversion] → t.htu.schedule = s.htu.schedule) ∧
    (c ∉ [.geometryCheck, .engageSuccess, .statusTimer] → t.asu.statusTimer = s.asu.statusTimer) ∧
    (c ∉ [.geometryCheck, .engageSuccess] →
      t.asu.engageResult = s.asu.engageResult ∧ t.asu.offendingField = s.asu.offendingField) ∧
    (c ∉ [.engageSuccess, .settingsRereadComplete] → t.asu.settingsResult = s.asu.settingsResult)
end

