-- ==== Sys2Proof/Laws/State.lean ====
section
/-! SUPPORT. The named updates of State: for each, the units it changes and the units it keeps. -/

namespace Sys2Proof.Machine

/-! ## Requests at the memory port -/

@[simp] theorem State.request_bpu (s : State) (t : Transfer) :
    (s.request t).bpu = { s.bpu with waiting := s.bpu.waiting ++ [t] } := rfl

@[simp] theorem State.request_mem (t : Transfer) (s : State) :
    (s.request t).mem = s.mem := by
  rfl

@[simp] theorem State.request_pending (t : Transfer) (s : State) :
    (s.request t).pending = s.pending := by
  rfl

@[simp] theorem State.request_settings (t : Transfer) (s : State) :
    (s.request t).settings = s.settings := by
  rfl

@[simp] theorem State.request_prescaler (t : Transfer) (s : State) :
    (s.request t).prescaler = s.prescaler := by
  rfl

@[simp] theorem State.request_bht (t : Transfer) (s : State) :
    (s.request t).bht = s.bht := by
  rfl

@[simp] theorem State.request_rrd (t : Transfer) (s : State) :
    (s.request t).rrd = s.rrd := by
  rfl

@[simp] theorem State.request_lcu (t : Transfer) (s : State) :
    (s.request t).lcu = s.lcu := by
  rfl

@[simp] theorem State.request_rsu (t : Transfer) (s : State) :
    (s.request t).rsu = s.rsu := by
  rfl

@[simp] theorem State.request_seu (t : Transfer) (s : State) :
    (s.request t).seu = s.seu := by
  rfl

@[simp] theorem State.request_hdu (t : Transfer) (s : State) :
    (s.request t).hdu = s.hdu := by
  rfl

@[simp] theorem State.request_mtu (t : Transfer) (s : State) :
    (s.request t).mtu = s.mtu := by
  rfl

@[simp] theorem State.request_msu (t : Transfer) (s : State) :
    (s.request t).msu = s.msu := by
  rfl

@[simp] theorem State.request_htu (t : Transfer) (s : State) :
    (s.request t).htu = s.htu := by
  rfl

@[simp] theorem State.request_asu (t : Transfer) (s : State) :
    (s.request t).asu = s.asu := by
  rfl

/-- R177: a vector write is merged into one that waits. -/
@[simp] theorem requestVector_bpu (s : State) :
    (requestVector s).bpu =
      { s.bpu with
        waiting := if s.bpu.waiting.contains Transfer.vector then s.bpu.waiting
          else s.bpu.waiting ++ [Transfer.vector] } := by
  unfold requestVector
  split <;> rfl

@[simp] theorem requestVector_mem (s : State) :
    (requestVector s).mem = s.mem := by
  unfold requestVector; split <;> rfl

@[simp] theorem requestVector_pending (s : State) :
    (requestVector s).pending = s.pending := by
  unfold requestVector; split <;> rfl

@[simp] theorem requestVector_settings (s : State) :
    (requestVector s).settings = s.settings := by
  unfold requestVector; split <;> rfl

@[simp] theorem requestVector_prescaler (s : State) :
    (requestVector s).prescaler = s.prescaler := by
  unfold requestVector; split <;> rfl

@[simp] theorem requestVector_bht (s : State) :
    (requestVector s).bht = s.bht := by
  unfold requestVector; split <;> rfl

@[simp] theorem requestVector_rrd (s : State) :
    (requestVector s).rrd = s.rrd := by
  unfold requestVector; split <;> rfl

@[simp] theorem requestVector_lcu (s : State) :
    (requestVector s).lcu = s.lcu := by
  unfold requestVector; split <;> rfl

@[simp] theorem requestVector_rsu (s : State) :
    (requestVector s).rsu = s.rsu := by
  unfold requestVector; split <;> rfl

@[simp] theorem requestVector_seu (s : State) :
    (requestVector s).seu = s.seu := by
  unfold requestVector; split <;> rfl

@[simp] theorem requestVector_hdu (s : State) :
    (requestVector s).hdu = s.hdu := by
  unfold requestVector; split <;> rfl

@[simp] theorem requestVector_mtu (s : State) :
    (requestVector s).mtu = s.mtu := by
  unfold requestVector; split <;> rfl

@[simp] theorem requestVector_msu (s : State) :
    (requestVector s).msu = s.msu := by
  unfold requestVector; split <;> rfl

@[simp] theorem requestVector_htu (s : State) :
    (requestVector s).htu = s.htu := by
  unfold requestVector; split <;> rfl

@[simp] theorem requestVector_asu (s : State) :
    (requestVector s).asu = s.asu := by
  unfold requestVector; split <;> rfl

/-- R181: a refresh is merged into one that waits. -/
@[simp] theorem requestRefresh_bpu (s : State) :
    (requestRefresh s).bpu =
      { s.bpu with
        waiting := if s.bpu.waiting.contains Transfer.statusOdd then s.bpu.waiting
          else s.bpu.waiting ++ refreshTransfers } := by
  unfold requestRefresh
  split <;> rfl

/-- R181: a request leaves a refresh waiting. -/
theorem requestRefresh_waits (s : State) : Transfer.statusOdd ∈ (requestRefresh s).bpu.waiting := by
  by_cases h : Transfer.statusOdd ∈ s.bpu.waiting <;> simp [h, refreshTransfers]

@[simp] theorem requestRefresh_mem (s : State) :
    (requestRefresh s).mem = s.mem := by
  unfold requestRefresh; split <;> rfl

@[simp] theorem requestRefresh_pending (s : State) :
    (requestRefresh s).pending = s.pending := by
  unfold requestRefresh; split <;> rfl

@[simp] theorem requestRefresh_settings (s : State) :
    (requestRefresh s).settings = s.settings := by
  unfold requestRefresh; split <;> rfl

@[simp] theorem requestRefresh_prescaler (s : State) :
    (requestRefresh s).prescaler = s.prescaler := by
  unfold requestRefresh; split <;> rfl

@[simp] theorem requestRefresh_bht (s : State) :
    (requestRefresh s).bht = s.bht := by
  unfold requestRefresh; split <;> rfl

@[simp] theorem requestRefresh_rrd (s : State) :
    (requestRefresh s).rrd = s.rrd := by
  unfold requestRefresh; split <;> rfl

@[simp] theorem requestRefresh_lcu (s : State) :
    (requestRefresh s).lcu = s.lcu := by
  unfold requestRefresh; split <;> rfl

@[simp] theorem requestRefresh_rsu (s : State) :
    (requestRefresh s).rsu = s.rsu := by
  unfold requestRefresh; split <;> rfl

@[simp] theorem requestRefresh_seu (s : State) :
    (requestRefresh s).seu = s.seu := by
  unfold requestRefresh; split <;> rfl

@[simp] theorem requestRefresh_hdu (s : State) :
    (requestRefresh s).hdu = s.hdu := by
  unfold requestRefresh; split <;> rfl

@[simp] theorem requestRefresh_mtu (s : State) :
    (requestRefresh s).mtu = s.mtu := by
  unfold requestRefresh; split <;> rfl

@[simp] theorem requestRefresh_msu (s : State) :
    (requestRefresh s).msu = s.msu := by
  unfold requestRefresh; split <;> rfl

@[simp] theorem requestRefresh_htu (s : State) :
    (requestRefresh s).htu = s.htu := by
  unfold requestRefresh; split <;> rfl

@[simp] theorem requestRefresh_asu (s : State) :
    (requestRefresh s).asu = s.asu := by
  unfold requestRefresh; split <;> rfl

@[simp] theorem requestRefreshLast_bpu (s : State) :
    (requestRefreshLast s).bpu =
      { s.bpu with waiting := withoutWaitingRefresh s.bpu.waiting ++ refreshTransfers } := rfl

@[simp] theorem requestRefreshLast_mem (s : State) :
    (requestRefreshLast s).mem = s.mem := by
  rfl

@[simp] theorem requestRefreshLast_pending (s : State) :
    (requestRefreshLast s).pending = s.pending := by
  rfl

@[simp] theorem requestRefreshLast_settings (s : State) :
    (requestRefreshLast s).settings = s.settings := by
  rfl

@[simp] theorem requestRefreshLast_prescaler (s : State) :
    (requestRefreshLast s).prescaler = s.prescaler := by
  rfl

@[simp] theorem requestRefreshLast_bht (s : State) :
    (requestRefreshLast s).bht = s.bht := by
  rfl

@[simp] theorem requestRefreshLast_rrd (s : State) :
    (requestRefreshLast s).rrd = s.rrd := by
  rfl

@[simp] theorem requestRefreshLast_lcu (s : State) :
    (requestRefreshLast s).lcu = s.lcu := by
  rfl

@[simp] theorem requestRefreshLast_rsu (s : State) :
    (requestRefreshLast s).rsu = s.rsu := by
  rfl

@[simp] theorem requestRefreshLast_seu (s : State) :
    (requestRefreshLast s).seu = s.seu := by
  rfl

@[simp] theorem requestRefreshLast_hdu (s : State) :
    (requestRefreshLast s).hdu = s.hdu := by
  rfl

@[simp] theorem requestRefreshLast_mtu (s : State) :
    (requestRefreshLast s).mtu = s.mtu := by
  rfl

@[simp] theorem requestRefreshLast_msu (s : State) :
    (requestRefreshLast s).msu = s.msu := by
  rfl

@[simp] theorem requestRefreshLast_htu (s : State) :
    (requestRefreshLast s).htu = s.htu := by
  rfl

@[simp] theorem requestRefreshLast_asu (s : State) :
    (requestRefreshLast s).asu = s.asu := by
  rfl

@[simp] theorem State.withdraw_bpu (s : State) (p : Transfer → Bool) :
    (s.withdraw p).bpu = { s.bpu with waiting := s.bpu.waiting.filter (fun t => !p t) } := rfl

@[simp] theorem State.withdraw_mem (p : Transfer → Bool) (s : State) :
    (s.withdraw p).mem = s.mem := by
  rfl

@[simp] theorem State.withdraw_pending (p : Transfer → Bool) (s : State) :
    (s.withdraw p).pending = s.pending := by
  rfl

@[simp] theorem State.withdraw_settings (p : Transfer → Bool) (s : State) :
    (s.withdraw p).settings = s.settings := by
  rfl

@[simp] theorem State.withdraw_prescaler (p : Transfer → Bool) (s : State) :
    (s.withdraw p).prescaler = s.prescaler := by
  rfl

@[simp] theorem State.withdraw_bht (p : Transfer → Bool) (s : State) :
    (s.withdraw p).bht = s.bht := by
  rfl

@[simp] theorem State.withdraw_rrd (p : Transfer → Bool) (s : State) :
    (s.withdraw p).rrd = s.rrd := by
  rfl

@[simp] theorem State.withdraw_lcu (p : Transfer → Bool) (s : State) :
    (s.withdraw p).lcu = s.lcu := by
  rfl

@[simp] theorem State.withdraw_rsu (p : Transfer → Bool) (s : State) :
    (s.withdraw p).rsu = s.rsu := by
  rfl

@[simp] theorem State.withdraw_seu (p : Transfer → Bool) (s : State) :
    (s.withdraw p).seu = s.seu := by
  rfl

@[simp] theorem State.withdraw_hdu (p : Transfer → Bool) (s : State) :
    (s.withdraw p).hdu = s.hdu := by
  rfl

@[simp] theorem State.withdraw_mtu (p : Transfer → Bool) (s : State) :
    (s.withdraw p).mtu = s.mtu := by
  rfl

@[simp] theorem State.withdraw_msu (p : Transfer → Bool) (s : State) :
    (s.withdraw p).msu = s.msu := by
  rfl

@[simp] theorem State.withdraw_htu (p : Transfer → Bool) (s : State) :
    (s.withdraw p).htu = s.htu := by
  rfl

@[simp] theorem State.withdraw_asu (p : Transfer → Bool) (s : State) :
    (s.withdraw p).asu = s.asu := by
  rfl

/-! ## Memory and contexts -/

@[simp] theorem State.store_mem (s : State) (a : Nat) (b : List Byte) :
    (s.store a b).mem = s.mem.writeBytes a b := rfl

@[simp] theorem State.store_pending (a : Nat) (b : List Byte) (s : State) :
    (s.store a b).pending = s.pending := by
  rfl

@[simp] theorem State.store_settings (a : Nat) (b : List Byte) (s : State) :
    (s.store a b).settings = s.settings := by
  rfl

@[simp] theorem State.store_prescaler (a : Nat) (b : List Byte) (s : State) :
    (s.store a b).prescaler = s.prescaler := by
  rfl

@[simp] theorem State.store_bpu (a : Nat) (b : List Byte) (s : State) :
    (s.store a b).bpu = s.bpu := by
  rfl

@[simp] theorem State.store_bht (a : Nat) (b : List Byte) (s : State) :
    (s.store a b).bht = s.bht := by
  rfl

@[simp] theorem State.store_rrd (a : Nat) (b : List Byte) (s : State) :
    (s.store a b).rrd = s.rrd := by
  rfl

@[simp] theorem State.store_lcu (a : Nat) (b : List Byte) (s : State) :
    (s.store a b).lcu = s.lcu := by
  rfl

@[simp] theorem State.store_rsu (a : Nat) (b : List Byte) (s : State) :
    (s.store a b).rsu = s.rsu := by
  rfl

@[simp] theorem State.store_seu (a : Nat) (b : List Byte) (s : State) :
    (s.store a b).seu = s.seu := by
  rfl

@[simp] theorem State.store_hdu (a : Nat) (b : List Byte) (s : State) :
    (s.store a b).hdu = s.hdu := by
  rfl

@[simp] theorem State.store_mtu (a : Nat) (b : List Byte) (s : State) :
    (s.store a b).mtu = s.mtu := by
  rfl

@[simp] theorem State.store_msu (a : Nat) (b : List Byte) (s : State) :
    (s.store a b).msu = s.msu := by
  rfl

@[simp] theorem State.store_htu (a : Nat) (b : List Byte) (s : State) :
    (s.store a b).htu = s.htu := by
  rfl

@[simp] theorem State.store_asu (a : Nat) (b : List Byte) (s : State) :
    (s.store a b).asu = s.asu := by
  rfl

@[simp] theorem State.updatePrinting_lcu (s : State) (f : Context → Context) :
    (s.updatePrinting f).lcu = { s.lcu with printing := s.lcu.printing.map f } := rfl

@[simp] theorem State.updatePrinting_mem (f : Context → Context) (s : State) :
    (s.updatePrinting f).mem = s.mem := by
  rfl

@[simp] theorem State.updatePrinting_pending (f : Context → Context) (s : State) :
    (s.updatePrinting f).pending = s.pending := by
  rfl

@[simp] theorem State.updatePrinting_settings (f : Context → Context) (s : State) :
    (s.updatePrinting f).settings = s.settings := by
  rfl

@[simp] theorem State.updatePrinting_prescaler (f : Context → Context) (s : State) :
    (s.updatePrinting f).prescaler = s.prescaler := by
  rfl

@[simp] theorem State.updatePrinting_bpu (f : Context → Context) (s : State) :
    (s.updatePrinting f).bpu = s.bpu := by
  rfl

@[simp] theorem State.updatePrinting_bht (f : Context → Context) (s : State) :
    (s.updatePrinting f).bht = s.bht := by
  rfl

@[simp] theorem State.updatePrinting_rrd (f : Context → Context) (s : State) :
    (s.updatePrinting f).rrd = s.rrd := by
  rfl

@[simp] theorem State.updatePrinting_rsu (f : Context → Context) (s : State) :
    (s.updatePrinting f).rsu = s.rsu := by
  rfl

@[simp] theorem State.updatePrinting_seu (f : Context → Context) (s : State) :
    (s.updatePrinting f).seu = s.seu := by
  rfl

@[simp] theorem State.updatePrinting_hdu (f : Context → Context) (s : State) :
    (s.updatePrinting f).hdu = s.hdu := by
  rfl

@[simp] theorem State.updatePrinting_mtu (f : Context → Context) (s : State) :
    (s.updatePrinting f).mtu = s.mtu := by
  rfl

@[simp] theorem State.updatePrinting_msu (f : Context → Context) (s : State) :
    (s.updatePrinting f).msu = s.msu := by
  rfl

@[simp] theorem State.updatePrinting_htu (f : Context → Context) (s : State) :
    (s.updatePrinting f).htu = s.htu := by
  rfl

@[simp] theorem State.updatePrinting_asu (f : Context → Context) (s : State) :
    (s.updatePrinting f).asu = s.asu := by
  rfl

/-! ## The engine state -/

@[simp] theorem clearDwell_htu (s : State) :
    (clearDwell s).htu = { s.htu with dwell := s.htu.dwell.map (fun _ => 0) } := rfl

@[simp] theorem clearDwell_mem (s : State) :
    (clearDwell s).mem = s.mem := by
  rfl

@[simp] theorem clearDwell_pending (s : State) :
    (clearDwell s).pending = s.pending := by
  rfl

@[simp] theorem clearDwell_settings (s : State) :
    (clearDwell s).settings = s.settings := by
  rfl

@[simp] theorem clearDwell_prescaler (s : State) :
    (clearDwell s).prescaler = s.prescaler := by
  rfl

@[simp] theorem clearDwell_bpu (s : State) :
    (clearDwell s).bpu = s.bpu := by
  rfl

@[simp] theorem clearDwell_bht (s : State) :
    (clearDwell s).bht = s.bht := by
  rfl

@[simp] theorem clearDwell_rrd (s : State) :
    (clearDwell s).rrd = s.rrd := by
  rfl

@[simp] theorem clearDwell_lcu (s : State) :
    (clearDwell s).lcu = s.lcu := by
  rfl

@[simp] theorem clearDwell_rsu (s : State) :
    (clearDwell s).rsu = s.rsu := by
  rfl

@[simp] theorem clearDwell_seu (s : State) :
    (clearDwell s).seu = s.seu := by
  rfl

@[simp] theorem clearDwell_hdu (s : State) :
    (clearDwell s).hdu = s.hdu := by
  rfl

@[simp] theorem clearDwell_mtu (s : State) :
    (clearDwell s).mtu = s.mtu := by
  rfl

@[simp] theorem clearDwell_msu (s : State) :
    (clearDwell s).msu = s.msu := by
  rfl

@[simp] theorem clearDwell_asu (s : State) :
    (clearDwell s).asu = s.asu := by
  rfl

/-- The engine state becomes the one asked for and nothing else of the unit changes. -/
@[simp] theorem setEngine_lcu (e : Engine) (s : State) :
    (setEngine e s).lcu = { s.lcu with engine := e } := by
  unfold setEngine
  split
  · next h => rw [← h]
  · dsimp only
    split <;> simp

/-- R170: only an entry into a kept state clears the dwell count. -/
theorem setEngine_htu (e : Engine) (s : State) :
    (setEngine e s).htu =
      if s.lcu.engine ≠ e ∧ e.kept then { s.htu with dwell := s.htu.dwell.map (fun _ => 0) }
      else s.htu := by
  unfold setEngine
  by_cases h : s.lcu.engine = e <;> by_cases k : e.kept <;> simp [h, k]

@[simp] theorem setEngine_supply (e : Engine) (s : State) :
    (setEngine e s).htu.supply = s.htu.supply := by
  rw [setEngine_htu]
  split <;> rfl

/-- R181: a change of engine state leaves a refresh waiting. -/
theorem setEngine_refresh (e : Engine) (s : State) (h : s.lcu.engine ≠ e) :
    Transfer.statusOdd ∈ (setEngine e s).bpu.waiting := by
  unfold setEngine
  rw [if_neg h]
  exact requestRefresh_waits _

@[simp] theorem setEngine_mem (e : Engine) (s : State) :
    (setEngine e s).mem = s.mem := by
  unfold setEngine; split <;> (try split) <;> simp

@[simp] theorem setEngine_pending (e : Engine) (s : State) :
    (setEngine e s).pending = s.pending := by
  unfold setEngine; split <;> (try split) <;> simp

@[simp] theorem setEngine_settings (e : Engine) (s : State) :
    (setEngine e s).settings = s.settings := by
  unfold setEngine; split <;> (try split) <;> simp

@[simp] theorem setEngine_prescaler (e : Engine) (s : State) :
    (setEngine e s).prescaler = s.prescaler := by
  unfold setEngine; split <;> (try split) <;> simp

@[simp] theorem setEngine_bpu_resetLine (e : Engine) (s : State) :
    (setEngine e s).bpu.resetLine = s.bpu.resetLine := by
  unfold setEngine; split <;> (try split) <;> simp

@[simp] theorem setEngine_bpu_straps (e : Engine) (s : State) :
    (setEngine e s).bpu.straps = s.bpu.straps := by
  unfold setEngine; split <;> (try split) <;> simp

@[simp] theorem setEngine_bpu_engagement (e : Engine) (s : State) :
    (setEngine e s).bpu.engagement = s.bpu.engagement := by
  unfold setEngine; split <;> (try split) <;> simp

@[simp] theorem setEngine_bpu_reads (e : Engine) (s : State) :
    (setEngine e s).bpu.reads = s.bpu.reads := by
  unfold setEngine; split <;> (try split) <;> simp

@[simp] theorem setEngine_bpu_geometry (e : Engine) (s : State) :
    (setEngine e s).bpu.geometry = s.bpu.geometry := by
  unfold setEngine; split <;> (try split) <;> simp

@[simp] theorem setEngine_bpu_guard (e : Engine) (s : State) :
    (setEngine e s).bpu.guard = s.bpu.guard := by
  unfold setEngine; split <;> (try split) <;> simp

@[simp] theorem setEngine_bpu_latch (e : Engine) (s : State) :
    (setEngine e s).bpu.latch = s.bpu.latch := by
  unfold setEngine; split <;> (try split) <;> simp

@[simp] theorem setEngine_bht (e : Engine) (s : State) :
    (setEngine e s).bht = s.bht := by
  unfold setEngine; split <;> (try split) <;> simp

@[simp] theorem setEngine_rrd (e : Engine) (s : State) :
    (setEngine e s).rrd = s.rrd := by
  unfold setEngine; split <;> (try split) <;> simp

@[simp] theorem setEngine_rsu (e : Engine) (s : State) :
    (setEngine e s).rsu = s.rsu := by
  unfold setEngine; split <;> (try split) <;> simp

@[simp] theorem setEngine_seu (e : Engine) (s : State) :
    (setEngine e s).seu = s.seu := by
  unfold setEngine; split <;> (try split) <;> simp

@[simp] theorem setEngine_hdu (e : Engine) (s : State) :
    (setEngine e s).hdu = s.hdu := by
  unfold setEngine; split <;> (try split) <;> simp

@[simp] theorem setEngine_mtu (e : Engine) (s : State) :
    (setEngine e s).mtu = s.mtu := by
  unfold setEngine; split <;> (try split) <;> simp

@[simp] theorem setEngine_msu (e : Engine) (s : State) :
    (setEngine e s).msu = s.msu := by
  unfold setEngine; split <;> (try split) <;> simp

@[simp] theorem setEngine_asu (e : Engine) (s : State) :
    (setEngine e s).asu = s.asu := by
  unfold setEngine; split <;> (try split) <;> simp

end Sys2Proof.Machine
end

