-- ==== Sys2Proof/Laws/Flags.lean ====
section
/-! SUPPORT. What an attention event, an acknowledge and the other requests to the attention unit do and
keep: they touch the Attention and Status Unit and the waiting transfers alone. -/

namespace Sys2Proof.Machine

/-- R177: a recomputation changes the offer alone, to what the flags and masks give. -/
@[simp] theorem recomputeOffer_asu (ev : Option Source) (s : State) :
    (recomputeOffer ev s).asu = { s.asu with offer := offerOf s } := by
  unfold recomputeOffer
  dsimp only
  split <;> simp

@[simp] theorem recomputeOffer_mem (ev : Option Source) (s : State) :
    (recomputeOffer ev s).mem = s.mem := by
  unfold recomputeOffer; dsimp only; split <;> simp

@[simp] theorem recomputeOffer_pending (ev : Option Source) (s : State) :
    (recomputeOffer ev s).pending = s.pending := by
  unfold recomputeOffer; dsimp only; split <;> simp

@[simp] theorem recomputeOffer_settings (ev : Option Source) (s : State) :
    (recomputeOffer ev s).settings = s.settings := by
  unfold recomputeOffer; dsimp only; split <;> simp

@[simp] theorem recomputeOffer_prescaler (ev : Option Source) (s : State) :
    (recomputeOffer ev s).prescaler = s.prescaler := by
  unfold recomputeOffer; dsimp only; split <;> simp

@[simp] theorem recomputeOffer_bpu_resetLine (ev : Option Source) (s : State) :
    (recomputeOffer ev s).bpu.resetLine = s.bpu.resetLine := by
  unfold recomputeOffer; dsimp only; split <;> simp

@[simp] theorem recomputeOffer_bpu_straps (ev : Option Source) (s : State) :
    (recomputeOffer ev s).bpu.straps = s.bpu.straps := by
  unfold recomputeOffer; dsimp only; split <;> simp

@[simp] theorem recomputeOffer_bpu_engagement (ev : Option Source) (s : State) :
    (recomputeOffer ev s).bpu.engagement = s.bpu.engagement := by
  unfold recomputeOffer; dsimp only; split <;> simp

@[simp] theorem recomputeOffer_bpu_reads (ev : Option Source) (s : State) :
    (recomputeOffer ev s).bpu.reads = s.bpu.reads := by
  unfold recomputeOffer; dsimp only; split <;> simp

@[simp] theorem recomputeOffer_bpu_geometry (ev : Option Source) (s : State) :
    (recomputeOffer ev s).bpu.geometry = s.bpu.geometry := by
  unfold recomputeOffer; dsimp only; split <;> simp

@[simp] theorem recomputeOffer_bpu_guard (ev : Option Source) (s : State) :
    (recomputeOffer ev s).bpu.guard = s.bpu.guard := by
  unfold recomputeOffer; dsimp only; split <;> simp

@[simp] theorem recomputeOffer_bpu_latch (ev : Option Source) (s : State) :
    (recomputeOffer ev s).bpu.latch = s.bpu.latch := by
  unfold recomputeOffer; dsimp only; split <;> simp

@[simp] theorem recomputeOffer_bht (ev : Option Source) (s : State) :
    (recomputeOffer ev s).bht = s.bht := by
  unfold recomputeOffer; dsimp only; split <;> simp

@[simp] theorem recomputeOffer_rrd (ev : Option Source) (s : State) :
    (recomputeOffer ev s).rrd = s.rrd := by
  unfold recomputeOffer; dsimp only; split <;> simp

@[simp] theorem recomputeOffer_lcu (ev : Option Source) (s : State) :
    (recomputeOffer ev s).lcu = s.lcu := by
  unfold recomputeOffer; dsimp only; split <;> simp

@[simp] theorem recomputeOffer_rsu (ev : Option Source) (s : State) :
    (recomputeOffer ev s).rsu = s.rsu := by
  unfold recomputeOffer; dsimp only; split <;> simp

@[simp] theorem recomputeOffer_seu (ev : Option Source) (s : State) :
    (recomputeOffer ev s).seu = s.seu := by
  unfold recomputeOffer; dsimp only; split <;> simp

@[simp] theorem recomputeOffer_hdu (ev : Option Source) (s : State) :
    (recomputeOffer ev s).hdu = s.hdu := by
  unfold recomputeOffer; dsimp only; split <;> simp

@[simp] theorem recomputeOffer_mtu (ev : Option Source) (s : State) :
    (recomputeOffer ev s).mtu = s.mtu := by
  unfold recomputeOffer; dsimp only; split <;> simp

@[simp] theorem recomputeOffer_msu (ev : Option Source) (s : State) :
    (recomputeOffer ev s).msu = s.msu := by
  unfold recomputeOffer; dsimp only; split <;> simp

@[simp] theorem recomputeOffer_htu (ev : Option Source) (s : State) :
    (recomputeOffer ev s).htu = s.htu := by
  unfold recomputeOffer; dsimp only; split <;> simp

/-- R177: the recomputed offer is the offer of the recomputed state. -/
theorem recomputeOffer_right (ev : Option Source) (s : State) : OfferRight (recomputeOffer ev s) := by
  unfold OfferRight offerOf State.configured
  rw [recomputeOffer_asu, recomputeOffer_lcu]
  rfl

/-- R176: the record an event leaves. -/
@[simp] theorem raise_records (n : Source) (code : Nat) (arg : BitVec 16) (s : State) :
    (raise n code arg s).asu.records =
      s.asu.records.set n ((s.asu.records.get n).record code arg) := by
  unfold raise
  simp

@[simp] theorem raise_masks (n : Source) (code : Nat) (arg : BitVec 16) (s : State) :
    (raise n code arg s).asu.masks = s.asu.masks := by
  unfold raise
  simp

theorem raise_right (n : Source) (code : Nat) (arg : BitVec 16) (s : State) :
    OfferRight (raise n code arg s) := recomputeOffer_right _ _

/-- Reading back the record that was set. -/
@[simp] theorem PerSource.get_set {α : Type} (p : PerSource α) (n : Source) (x : α) :
    (p.set n x).get n = x := by
  cases n <;> rfl

/-- The records of the other sources stand. -/
theorem PerSource.get_set_ne {α : Type} (p : PerSource α) (m n : Source) (x : α) (h : m ≠ n) :
    (p.set n x).get m = p.get m := by
  cases m <;> cases n <;> first | rfl | exact absurd rfl h

@[simp] theorem raise_mem (n : Source) (code : Nat) (arg : BitVec 16) (s : State) :
    (raise n code arg s).mem = s.mem := by
  unfold raise; simp

@[simp] theorem raise_pending (n : Source) (code : Nat) (arg : BitVec 16) (s : State) :
    (raise n code arg s).pending = s.pending := by
  unfold raise; simp

@[simp] theorem raise_settings (n : Source) (code : Nat) (arg : BitVec 16) (s : State) :
    (raise n code arg s).settings = s.settings := by
  unfold raise; simp

@[simp] theorem raise_prescaler (n : Source) (code : Nat) (arg : BitVec 16) (s : State) :
    (raise n code arg s).prescaler = s.prescaler := by
  unfold raise; simp

@[simp] theorem raise_bpu_resetLine (n : Source) (code : Nat) (arg : BitVec 16) (s : State) :
    (raise n code arg s).bpu.resetLine = s.bpu.resetLine := by
  unfold raise; simp

@[simp] theorem raise_bpu_straps (n : Source) (code : Nat) (arg : BitVec 16) (s : State) :
    (raise n code arg s).bpu.straps = s.bpu.straps := by
  unfold raise; simp

@[simp] theorem raise_bpu_engagement (n : Source) (code : Nat) (arg : BitVec 16) (s : State) :
    (raise n code arg s).bpu.engagement = s.bpu.engagement := by
  unfold raise; simp

@[simp] theorem raise_bpu_reads (n : Source) (code : Nat) (arg : BitVec 16) (s : State) :
    (raise n code arg s).bpu.reads = s.bpu.reads := by
  unfold raise; simp

@[simp] theorem raise_bpu_geometry (n : Source) (code : Nat) (arg : BitVec 16) (s : State) :
    (raise n code arg s).bpu.geometry = s.bpu.geometry := by
  unfold raise; simp

@[simp] theorem raise_bpu_guard (n : Source) (code : Nat) (arg : BitVec 16) (s : State) :
    (raise n code arg s).bpu.guard = s.bpu.guard := by
  unfold raise; simp

@[simp] theorem raise_bpu_latch (n : Source) (code : Nat) (arg : BitVec 16) (s : State) :
    (raise n code arg s).bpu.latch = s.bpu.latch := by
  unfold raise; simp

@[simp] theorem raise_bht (n : Source) (code : Nat) (arg : BitVec 16) (s : State) :
    (raise n code arg s).bht = s.bht := by
  unfold raise; simp

@[simp] theorem raise_rrd (n : Source) (code : Nat) (arg : BitVec 16) (s : State) :
    (raise n code arg s).rrd = s.rrd := by
  unfold raise; simp

@[simp] theorem raise_lcu (n : Source) (code : Nat) (arg : BitVec 16) (s : State) :
    (raise n code arg s).lcu = s.lcu := by
  unfold raise; simp

@[simp] theorem raise_rsu (n : Source) (code : Nat) (arg : BitVec 16) (s : State) :
    (raise n code arg s).rsu = s.rsu := by
  unfold raise; simp

@[simp] theorem raise_seu (n : Source) (code : Nat) (arg : BitVec 16) (s : State) :
    (raise n code arg s).seu = s.seu := by
  unfold raise; simp

@[simp] theorem raise_hdu (n : Source) (code : Nat) (arg : BitVec 16) (s : State) :
    (raise n code arg s).hdu = s.hdu := by
  unfold raise; simp

@[simp] theorem raise_mtu (n : Source) (code : Nat) (arg : BitVec 16) (s : State) :
    (raise n code arg s).mtu = s.mtu := by
  unfold raise; simp

@[simp] theorem raise_msu (n : Source) (code : Nat) (arg : BitVec 16) (s : State) :
    (raise n code arg s).msu = s.msu := by
  unfold raise; simp

@[simp] theorem raise_htu (n : Source) (code : Nat) (arg : BitVec 16) (s : State) :
    (raise n code arg s).htu = s.htu := by
  unfold raise; simp

@[simp] theorem acknowledge_mem (n : Nat) (s : State) :
    (acknowledge n s).mem = s.mem := by
  unfold acknowledge; split <;> (try dsimp only) <;> (try split) <;> simp

@[simp] theorem acknowledge_pending (n : Nat) (s : State) :
    (acknowledge n s).pending = s.pending := by
  unfold acknowledge; split <;> (try dsimp only) <;> (try split) <;> simp

@[simp] theorem acknowledge_settings (n : Nat) (s : State) :
    (acknowledge n s).settings = s.settings := by
  unfold acknowledge; split <;> (try dsimp only) <;> (try split) <;> simp

@[simp] theorem acknowledge_prescaler (n : Nat) (s : State) :
    (acknowledge n s).prescaler = s.prescaler := by
  unfold acknowledge; split <;> (try dsimp only) <;> (try split) <;> simp

@[simp] theorem acknowledge_bpu_resetLine (n : Nat) (s : State) :
    (acknowledge n s).bpu.resetLine = s.bpu.resetLine := by
  unfold acknowledge; split <;> (try dsimp only) <;> (try split) <;> simp

@[simp] theorem acknowledge_bpu_straps (n : Nat) (s : State) :
    (acknowledge n s).bpu.straps = s.bpu.straps := by
  unfold acknowledge; split <;> (try dsimp only) <;> (try split) <;> simp

@[simp] theorem acknowledge_bpu_engagement (n : Nat) (s : State) :
    (acknowledge n s).bpu.engagement = s.bpu.engagement := by
  unfold acknowledge; split <;> (try dsimp only) <;> (try split) <;> simp

@[simp] theorem acknowledge_bpu_reads (n : Nat) (s : State) :
    (acknowledge n s).bpu.reads = s.bpu.reads := by
  unfold acknowledge; split <;> (try dsimp only) <;> (try split) <;> simp

@[simp] theorem acknowledge_bpu_geometry (n : Nat) (s : State) :
    (acknowledge n s).bpu.geometry = s.bpu.geometry := by
  unfold acknowledge; split <;> (try dsimp only) <;> (try split) <;> simp

@[simp] theorem acknowledge_bpu_guard (n : Nat) (s : State) :
    (acknowledge n s).bpu.guard = s.bpu.guard := by
  unfold acknowledge; split <;> (try dsimp only) <;> (try split) <;> simp

@[simp] theorem acknowledge_bpu_latch (n : Nat) (s : State) :
    (acknowledge n s).bpu.latch = s.bpu.latch := by
  unfold acknowledge; split <;> (try dsimp only) <;> (try split) <;> simp

@[simp] theorem acknowledge_bht (n : Nat) (s : State) :
    (acknowledge n s).bht = s.bht := by
  unfold acknowledge; split <;> (try dsimp only) <;> (try split) <;> simp

@[simp] theorem acknowledge_rrd (n : Nat) (s : State) :
    (acknowledge n s).rrd = s.rrd := by
  unfold acknowledge; split <;> (try dsimp only) <;> (try split) <;> simp

@[simp] theorem acknowledge_lcu (n : Nat) (s : State) :
    (acknowledge n s).lcu = s.lcu := by
  unfold acknowledge; split <;> (try dsimp only) <;> (try split) <;> simp

@[simp] theorem acknowledge_rsu (n : Nat) (s : State) :
    (acknowledge n s).rsu = s.rsu := by
  unfold acknowledge; split <;> (try dsimp only) <;> (try split) <;> simp

@[simp] theorem acknowledge_seu (n : Nat) (s : State) :
    (acknowledge n s).seu = s.seu := by
  unfold acknowledge; split <;> (try dsimp only) <;> (try split) <;> simp

@[simp] theorem acknowledge_hdu (n : Nat) (s : State) :
    (acknowledge n s).hdu = s.hdu := by
  unfold acknowledge; split <;> (try dsimp only) <;> (try split) <;> simp

@[simp] theorem acknowledge_mtu (n : Nat) (s : State) :
    (acknowledge n s).mtu = s.mtu := by
  unfold acknowledge; split <;> (try dsimp only) <;> (try split) <;> simp

@[simp] theorem acknowledge_msu (n : Nat) (s : State) :
    (acknowledge n s).msu = s.msu := by
  unfold acknowledge; split <;> (try dsimp only) <;> (try split) <;> simp

@[simp] theorem acknowledge_htu (n : Nat) (s : State) :
    (acknowledge n s).htu = s.htu := by
  unfold acknowledge; split <;> (try dsimp only) <;> (try split) <;> simp

@[simp] theorem endService_mem (s : State) :
    (endService s).mem = s.mem := by
  unfold endService; split <;> (try split) <;> simp

@[simp] theorem endService_pending (s : State) :
    (endService s).pending = s.pending := by
  unfold endService; split <;> (try split) <;> simp

@[simp] theorem endService_settings (s : State) :
    (endService s).settings = s.settings := by
  unfold endService; split <;> (try split) <;> simp

@[simp] theorem endService_prescaler (s : State) :
    (endService s).prescaler = s.prescaler := by
  unfold endService; split <;> (try split) <;> simp

@[simp] theorem endService_bpu_resetLine (s : State) :
    (endService s).bpu.resetLine = s.bpu.resetLine := by
  unfold endService; split <;> (try split) <;> simp

@[simp] theorem endService_bpu_straps (s : State) :
    (endService s).bpu.straps = s.bpu.straps := by
  unfold endService; split <;> (try split) <;> simp

@[simp] theorem endService_bpu_engagement (s : State) :
    (endService s).bpu.engagement = s.bpu.engagement := by
  unfold endService; split <;> (try split) <;> simp

@[simp] theorem endService_bpu_reads (s : State) :
    (endService s).bpu.reads = s.bpu.reads := by
  unfold endService; split <;> (try split) <;> simp

@[simp] theorem endService_bpu_geometry (s : State) :
    (endService s).bpu.geometry = s.bpu.geometry := by
  unfold endService; split <;> (try split) <;> simp

@[simp] theorem endService_bpu_guard (s : State) :
    (endService s).bpu.guard = s.bpu.guard := by
  unfold endService; split <;> (try split) <;> simp

@[simp] theorem endService_bpu_latch (s : State) :
    (endService s).bpu.latch = s.bpu.latch := by
  unfold endService; split <;> (try split) <;> simp

@[simp] theorem endService_bht (s : State) :
    (endService s).bht = s.bht := by
  unfold endService; split <;> (try split) <;> simp

@[simp] theorem endService_rrd (s : State) :
    (endService s).rrd = s.rrd := by
  unfold endService; split <;> (try split) <;> simp

@[simp] theorem endService_lcu (s : State) :
    (endService s).lcu = s.lcu := by
  unfold endService; split <;> (try split) <;> simp

@[simp] theorem endService_rsu (s : State) :
    (endService s).rsu = s.rsu := by
  unfold endService; split <;> (try split) <;> simp

@[simp] theorem endService_seu (s : State) :
    (endService s).seu = s.seu := by
  unfold endService; split <;> (try split) <;> simp

@[simp] theorem endService_hdu (s : State) :
    (endService s).hdu = s.hdu := by
  unfold endService; split <;> (try split) <;> simp

@[simp] theorem endService_mtu (s : State) :
    (endService s).mtu = s.mtu := by
  unfold endService; split <;> (try split) <;> simp

@[simp] theorem endService_msu (s : State) :
    (endService s).msu = s.msu := by
  unfold endService; split <;> (try split) <;> simp

@[simp] theorem endService_htu (s : State) :
    (endService s).htu = s.htu := by
  unfold endService; split <;> (try split) <;> simp

/-- R177: the new masks stand beside the recomputed offer. -/
@[simp] theorem setMasks_masks (v : BitVec 32) (s : State) : (setMasks v s).asu.masks = masksOf v := by
  unfold setMasks
  simp

@[simp] theorem setMasks_records (v : BitVec 32) (s : State) :
    (setMasks v s).asu.records = s.asu.records := by
  unfold setMasks
  simp

@[simp] theorem setMasks_mem (v : BitVec 32) (s : State) :
    (setMasks v s).mem = s.mem := by
  unfold setMasks; simp

@[simp] theorem setMasks_pending (v : BitVec 32) (s : State) :
    (setMasks v s).pending = s.pending := by
  unfold setMasks; simp

@[simp] theorem setMasks_settings (v : BitVec 32) (s : State) :
    (setMasks v s).settings = s.settings := by
  unfold setMasks; simp

@[simp] theorem setMasks_prescaler (v : BitVec 32) (s : State) :
    (setMasks v s).prescaler = s.prescaler := by
  unfold setMasks; simp

@[simp] theorem setMasks_bpu_resetLine (v : BitVec 32) (s : State) :
    (setMasks v s).bpu.resetLine = s.bpu.resetLine := by
  unfold setMasks; simp

@[simp] theorem setMasks_bpu_straps (v : BitVec 32) (s : State) :
    (setMasks v s).bpu.straps = s.bpu.straps := by
  unfold setMasks; simp

@[simp] theorem setMasks_bpu_engagement (v : BitVec 32) (s : State) :
    (setMasks v s).bpu.engagement = s.bpu.engagement := by
  unfold setMasks; simp

@[simp] theorem setMasks_bpu_reads (v : BitVec 32) (s : State) :
    (setMasks v s).bpu.reads = s.bpu.reads := by
  unfold setMasks; simp

@[simp] theorem setMasks_bpu_geometry (v : BitVec 32) (s : State) :
    (setMasks v s).bpu.geometry = s.bpu.geometry := by
  unfold setMasks; simp

@[simp] theorem setMasks_bpu_guard (v : BitVec 32) (s : State) :
    (setMasks v s).bpu.guard = s.bpu.guard := by
  unfold setMasks; simp

@[simp] theorem setMasks_bpu_latch (v : BitVec 32) (s : State) :
    (setMasks v s).bpu.latch = s.bpu.latch := by
  unfold setMasks; simp

@[simp] theorem setMasks_bht (v : BitVec 32) (s : State) :
    (setMasks v s).bht = s.bht := by
  unfold setMasks; simp

@[simp] theorem setMasks_rrd (v : BitVec 32) (s : State) :
    (setMasks v s).rrd = s.rrd := by
  unfold setMasks; simp

@[simp] theorem setMasks_lcu (v : BitVec 32) (s : State) :
    (setMasks v s).lcu = s.lcu := by
  unfold setMasks; simp

@[simp] theorem setMasks_rsu (v : BitVec 32) (s : State) :
    (setMasks v s).rsu = s.rsu := by
  unfold setMasks; simp

@[simp] theorem setMasks_seu (v : BitVec 32) (s : State) :
    (setMasks v s).seu = s.seu := by
  unfold setMasks; simp

@[simp] theorem setMasks_hdu (v : BitVec 32) (s : State) :
    (setMasks v s).hdu = s.hdu := by
  unfold setMasks; simp

@[simp] theorem setMasks_mtu (v : BitVec 32) (s : State) :
    (setMasks v s).mtu = s.mtu := by
  unfold setMasks; simp

@[simp] theorem setMasks_msu (v : BitVec 32) (s : State) :
    (setMasks v s).msu = s.msu := by
  unfold setMasks; simp

@[simp] theorem setMasks_htu (v : BitVec 32) (s : State) :
    (setMasks v s).htu = s.htu := by
  unfold setMasks; simp

@[simp] theorem restartFlags_mem (s : State) :
    (restartFlags s).mem = s.mem := by
  unfold restartFlags; simp

@[simp] theorem restartFlags_pending (s : State) :
    (restartFlags s).pending = s.pending := by
  unfold restartFlags; simp

@[simp] theorem restartFlags_settings (s : State) :
    (restartFlags s).settings = s.settings := by
  unfold restartFlags; simp

@[simp] theorem restartFlags_prescaler (s : State) :
    (restartFlags s).prescaler = s.prescaler := by
  unfold restartFlags; simp

@[simp] theorem restartFlags_bpu_resetLine (s : State) :
    (restartFlags s).bpu.resetLine = s.bpu.resetLine := by
  unfold restartFlags; simp

@[simp] theorem restartFlags_bpu_straps (s : State) :
    (restartFlags s).bpu.straps = s.bpu.straps := by
  unfold restartFlags; simp

@[simp] theorem restartFlags_bpu_engagement (s : State) :
    (restartFlags s).bpu.engagement = s.bpu.engagement := by
  unfold restartFlags; simp

@[simp] theorem restartFlags_bpu_reads (s : State) :
    (restartFlags s).bpu.reads = s.bpu.reads := by
  unfold restartFlags; simp

@[simp] theorem restartFlags_bpu_geometry (s : State) :
    (restartFlags s).bpu.geometry = s.bpu.geometry := by
  unfold restartFlags; simp

@[simp] theorem restartFlags_bpu_guard (s : State) :
    (restartFlags s).bpu.guard = s.bpu.guard := by
  unfold restartFlags; simp

@[simp] theorem restartFlags_bpu_latch (s : State) :
    (restartFlags s).bpu.latch = s.bpu.latch := by
  unfold restartFlags; simp

@[simp] theorem restartFlags_bht (s : State) :
    (restartFlags s).bht = s.bht := by
  unfold restartFlags; simp

@[simp] theorem restartFlags_rrd (s : State) :
    (restartFlags s).rrd = s.rrd := by
  unfold restartFlags; simp

@[simp] theorem restartFlags_lcu (s : State) :
    (restartFlags s).lcu = s.lcu := by
  unfold restartFlags; simp

@[simp] theorem restartFlags_rsu (s : State) :
    (restartFlags s).rsu = s.rsu := by
  unfold restartFlags; simp

@[simp] theorem restartFlags_seu (s : State) :
    (restartFlags s).seu = s.seu := by
  unfold restartFlags; simp

@[simp] theorem restartFlags_hdu (s : State) :
    (restartFlags s).hdu = s.hdu := by
  unfold restartFlags; simp

@[simp] theorem restartFlags_mtu (s : State) :
    (restartFlags s).mtu = s.mtu := by
  unfold restartFlags; simp

@[simp] theorem restartFlags_msu (s : State) :
    (restartFlags s).msu = s.msu := by
  unfold restartFlags; simp

@[simp] theorem restartFlags_htu (s : State) :
    (restartFlags s).htu = s.htu := by
  unfold restartFlags; simp

end Sys2Proof.Machine
end

