-- ==== Sys2Proof/Laws/Memory.lean ====
section
/-! SUPPORT. Image memory: a write keeps the canonical form, is read back, and leaves every other byte
alone. -/

namespace Sys2Proof.Machine

/-! ## The canonical form -/

/-- The head of a canonical memory. -/
theorem Memory.wf_head {k : Nat} {v : Byte} {m : Memory} (h : Memory.wf ((k, v) :: m) = true) :
    k < Config.memorySize ∧ v ≠ Config.unwritten := by
  induction m generalizing k v with
  | nil => simpa [Memory.wf] using h
  | cons x rest ih =>
    obtain ⟨k', v'⟩ := x
    simp only [Memory.wf, Bool.and_eq_true, decide_eq_true_eq] at h
    exact ⟨lt_trans h.1.1 (ih h.2).1, h.1.2⟩

/-- The tail of a canonical memory is canonical. -/
theorem Memory.wf_tail {x : Host.Cell} {m : Memory} (h : Memory.wf (x :: m) = true) :
    Memory.wf m = true := by
  obtain ⟨k, v⟩ := x
  cases m with
  | nil => rfl
  | cons y rest =>
    obtain ⟨k', v'⟩ := y
    simp only [Memory.wf, Bool.and_eq_true] at h
    exact h.2

/-- The first address lies below the second. -/
theorem Memory.wf_lt {k k' : Nat} {v v' : Byte} {m : Memory}
    (h : Memory.wf ((k, v) :: (k', v') :: m) = true) : k < k' := by
  simp only [Memory.wf, Bool.and_eq_true, decide_eq_true_eq] at h
  exact h.1.1

/-- Putting a cell in front of a canonical memory whose addresses lie above it. -/
theorem Memory.wf_cons {k : Nat} {v : Byte} {m : Memory} (hm : Memory.wf m = true)
    (hk : k < Config.memorySize) (hv : v ≠ Config.unwritten)
    (hlt : ∀ x ∈ m.head?, k < x.1) : Memory.wf ((k, v) :: m) = true := by
  cases m with
  | nil => simp [Memory.wf, hk, hv]
  | cons y rest =>
    obtain ⟨k', v'⟩ := y
    have : k < k' := hlt (k', v') (by simp)
    simp [Memory.wf, this, hv, hm]

/-- The first address after a write is that of the write or one already there. -/
theorem Memory.write_head {m : Memory} {a : Nat} {v : Byte} {x : Host.Cell}
    (hm : Memory.wf m = true) {b : Nat} (hb : ∀ y ∈ m.head?, b < y.1) (hab : b < a)
    (hx : x ∈ (Memory.write m a v).head?) : b < x.1 := by
  cases m with
  | nil =>
    by_cases h : v = Config.unwritten
    · simp [Memory.write, h] at hx
    · simp [Memory.write, h] at hx
      subst hx
      exact hab
  | cons y rest =>
    obtain ⟨k, w⟩ := y
    have hbk : b < k := hb (k, w) (by simp)
    unfold Memory.write at hx
    split at hx
    · split at hx
      · simp at hx; subst hx; exact hbk
      · simp at hx; subst hx; exact hab
    · split at hx
      · split at hx
        · cases rest with
          | nil => simp at hx
          | cons z zs =>
            obtain ⟨k', w'⟩ := z
            simp at hx
            subst hx
            exact lt_trans hbk (Memory.wf_lt hm)
        · simp at hx; subst hx; exact hab
      · simp at hx; subst hx; exact hbk

/-- A write inside the space keeps the canonical form. -/
theorem Memory.write_wf {m : Memory} {a : Nat} {v : Byte} (hm : Memory.wf m = true)
    (ha : a < Config.memorySize) : Memory.wf (Memory.write m a v) = true := by
  induction m with
  | nil =>
    by_cases h : v = Config.unwritten
    · simp [Memory.write, h, Memory.wf]
    · simp [Memory.write, h, Memory.wf, ha]
  | cons x rest ih =>
    obtain ⟨k, w⟩ := x
    have hr := Memory.wf_tail hm
    have hk := Memory.wf_head hm
    have hlt : ∀ x ∈ rest.head?, k < x.1 := by
      intro x hx
      cases rest with
      | nil => simp at hx
      | cons z zs =>
        simp at hx
        subst hx
        exact Memory.wf_lt hm
    unfold Memory.write
    split
    · split
      · exact hm
      · exact Memory.wf_cons hm ha (by assumption) (by simpa)
    · split
      · next hak =>
        subst hak
        split
        · exact hr
        · exact Memory.wf_cons hr ha (by assumption) hlt
      · exact Memory.wf_cons (ih hr) hk.1 hk.2
          (fun x hx => Memory.write_head hr hlt (by omega) hx)

/-- Writing bytes keeps the canonical form. -/
theorem Memory.writeBytes_wf {m : Memory} (hm : Memory.wf m = true) (a : Nat) (bs : List Byte) :
    Memory.wf (Memory.writeBytes m a bs) = true := by
  induction bs generalizing m a with
  | nil => exact hm
  | cons b rest ih =>
    exact ih (Memory.write_wf hm (Nat.mod_lt _ (by decide))) (a + 1)

/-- A memory operation of the state keeps the canonical form. -/
theorem State.store_wf {s : State} (h : Memory.wf s.mem = true) (a : Nat) (bs : List Byte) :
    Memory.wf (s.store a bs).mem = true := Memory.writeBytes_wf h a bs

/-! ## Read after write -/

/-- Another byte is left alone. -/
theorem Memory.read_write_ne (m : Memory) {a b : Nat} (v : Byte) (h : b ≠ a) :
    Memory.read (Memory.write m a v) b = Memory.read m b := by
  induction m with
  | nil =>
    unfold Memory.write
    split <;> simp [Memory.read, Ne.symm h]
  | cons x rest ih =>
    obtain ⟨k, w⟩ := x
    unfold Memory.write
    split
    · split <;> simp [Memory.read, Ne.symm h]
    · split
      · next hk =>
        subst hk
        split <;> simp [Memory.read, Ne.symm h]
      · simp [Memory.read, ih]

/-- A byte below every listed address reads as nothing written. -/
theorem Memory.read_below {m : Memory} (hm : Memory.wf m = true) {a : Nat}
    (h : ∀ x ∈ m.head?, a < x.1) : Memory.read m a = Config.unwritten := by
  induction m with
  | nil => rfl
  | cons x rest ih =>
    obtain ⟨k, w⟩ := x
    have hk : a < k := h (k, w) (by simp)
    have : k ≠ a := by omega
    simp only [Memory.read, if_neg this]
    refine ih (Memory.wf_tail hm) (fun y hy => ?_)
    cases rest with
    | nil => simp at hy
    | cons z zs =>
      simp at hy
      subst hy
      exact lt_trans hk (Memory.wf_lt hm)

/-- A byte written is read back. -/
theorem Memory.read_write_same {m : Memory} (hm : Memory.wf m = true) (a : Nat) (v : Byte) :
    Memory.read (Memory.write m a v) a = v := by
  induction m with
  | nil =>
    by_cases h : v = Config.unwritten <;> simp [Memory.write, h, Memory.read]
  | cons x rest ih =>
    obtain ⟨k, w⟩ := x
    have hr := Memory.wf_tail hm
    have hlt : ∀ x ∈ rest.head?, k < x.1 := by
      intro x hx
      cases rest with
      | nil => simp at hx
      | cons z zs =>
        simp at hx
        subst hx
        exact Memory.wf_lt hm
    unfold Memory.write
    split
    · next hak =>
      split
      · next hv =>
        rw [hv]
        exact Memory.read_below hm (by simpa)
      · simp [Memory.read]
    · split
      · next hak =>
        subst hak
        split
        · next hv =>
          rw [hv]
          exact Memory.read_below hr hlt
        · simp [Memory.read]
      · next hne =>
        have : k ≠ a := fun h => hne h.symm
        simp [Memory.read, this, ih hr]

/-- Bytes outside the run written are left alone. -/
theorem Memory.read_writeBytes_ne (m : Memory) (a : Nat) (bs : List Byte) {b : Nat}
    (h : ¬ touches a bs.length b) : Memory.read (Memory.writeBytes m a bs) b = Memory.read m b := by
  induction bs generalizing m a with
  | nil => rfl
  | cons x rest ih =>
    have hne : b ≠ wrapAddr a := fun hb => h ⟨0, by simp, by simpa using hb⟩
    have hrest : ¬ touches (a + 1) rest.length b := by
      rintro ⟨k, hk, hb⟩
      exact h ⟨k + 1, by simpa using hk, by rw [hb]; congr 1; omega⟩
    rw [Memory.writeBytes, ih _ _ hrest, Memory.read_write_ne _ _ hne]

/-- A store leaves the bytes outside it alone. -/
theorem State.store_read_ne (s : State) (a : Nat) (bs : List Byte) {b : Nat}
    (h : ¬ touches a bs.length b) : (s.store a bs).mem.read b = s.mem.read b :=
  Memory.read_writeBytes_ne s.mem a bs h

/-- Addresses less than the space apart do not meet when wrapped. -/
theorem wrapAddr_ne (a : Nat) {i j : Nat} (hi : i < Config.memorySize) (hj : j < Config.memorySize)
    (h : i ≠ j) : wrapAddr (a + i) ≠ wrapAddr (a + j) := by
  simp only [wrapAddr, Config.memorySize] at *
  omega

/-- A run of bytes written is read back. -/
theorem Memory.readBytes_writeBytes {m : Memory} (hm : Memory.wf m = true) (a : Nat)
    (bs : List Byte) (hlen : bs.length ≤ Config.memorySize) :
    Memory.readBytes (Memory.writeBytes m a bs) a bs.length = bs := by
  induction bs generalizing m a with
  | nil => rfl
  | cons x rest ih =>
    have hw := Memory.write_wf (v := x) hm (a := wrapAddr a) (Nat.mod_lt _ (by decide))
    have hl : rest.length + 1 ≤ Config.memorySize := by simpa using hlen
    have hout : ¬ touches (a + 1) rest.length (wrapAddr a) := by
      rintro ⟨k, hk, h⟩
      have := wrapAddr_ne a (i := 0) (j := 1 + k) (by decide) (by omega) (by omega)
      exact this (by rw [← Nat.add_assoc]; simpa using h)
    simp only [List.length_cons, Memory.writeBytes, Memory.readBytes]
    rw [Memory.read_writeBytes_ne _ _ _ hout, Memory.read_write_same hm, ih hw _ (by omega)]

/-- The length of a run read. -/
@[simp] theorem Memory.readBytes_length (m : Memory) (a n : Nat) :
    (Memory.readBytes m a n).length = n := by
  induction n generalizing a with
  | zero => rfl
  | succ n ih => simp [Memory.readBytes, ih]

/-! ## Little-endian fields -/

/-- The bytes of a field. -/
@[simp] theorem leBytes_length (n x : Nat) : (leBytes n x).length = n := by
  induction n generalizing x with
  | zero => rfl
  | succ n ih => simp [leBytes, ih]

/-- A number that fits its field is read back from its bytes. -/
theorem leNat_leBytes (n x : Nat) (h : x < 256 ^ n) : leNat (leBytes n x) = x := by
  induction n generalizing x with
  | zero => simp at h; simp [leBytes, leNat, h]
  | succ n ih =>
    have hx : x / 256 < 256 ^ n := by
      rw [Nat.div_lt_iff_lt_mul (by decide)]
      calc x < 256 ^ (n + 1) := h
        _ = 256 ^ n * 256 := pow_succ 256 n
    simp only [leBytes, leNat, BitVec.toNat_ofNat, ih _ hx]
    omega

end Sys2Proof.Machine
end

