-- ==== Sys2Proof/Laws/Ring.lean ====
section
/-! SUPPORT. The Ring Reader's shared operations: what a completion, a retire advance, a fetch request
and the rest that follows every command can do, and what they keep. -/

namespace Sys2Proof.Machine

/-! ## Completion and retirement -/

@[simp] theorem completeItem_mem (i : Idx) (r : ItemResult) (n : Nat) (s : State) :
    (completeItem i r n s).mem = s.mem := by
  rfl

@[simp] theorem completeItem_pending (i : Idx) (r : ItemResult) (n : Nat) (s : State) :
    (completeItem i r n s).pending = s.pending := by
  rfl

@[simp] theorem completeItem_settings (i : Idx) (r : ItemResult) (n : Nat) (s : State) :
    (completeItem i r n s).settings = s.settings := by
  rfl

@[simp] theorem completeItem_prescaler (i : Idx) (r : ItemResult) (n : Nat) (s : State) :
    (completeItem i r n s).prescaler = s.prescaler := by
  rfl

@[simp] theorem completeItem_bpu (i : Idx) (r : ItemResult) (n : Nat) (s : State) :
    (completeItem i r n s).bpu = s.bpu := by
  rfl

@[simp] theorem completeItem_bht (i : Idx) (r : ItemResult) (n : Nat) (s : State) :
    (completeItem i r n s).bht = s.bht := by
  rfl

@[simp] theorem completeItem_lcu (i : Idx) (r : ItemResult) (n : Nat) (s : State) :
    (completeItem i r n s).lcu = s.lcu := by
  rfl

@[simp] theorem completeItem_rsu (i : Idx) (r : ItemResult) (n : Nat) (s : State) :
    (completeItem i r n s).rsu = s.rsu := by
  rfl

@[simp] theorem completeItem_seu (i : Idx) (r : ItemResult) (n : Nat) (s : State) :
    (completeItem i r n s).seu = s.seu := by
  rfl

@[simp] theorem completeItem_hdu (i : Idx) (r : ItemResult) (n : Nat) (s : State) :
    (completeItem i r n s).hdu = s.hdu := by
  rfl

@[simp] theorem completeItem_mtu (i : Idx) (r : ItemResult) (n : Nat) (s : State) :
    (completeItem i r n s).mtu = s.mtu := by
  rfl

@[simp] theorem completeItem_msu (i : Idx) (r : ItemResult) (n : Nat) (s : State) :
    (completeItem i r n s).msu = s.msu := by
  rfl

@[simp] theorem completeItem_htu (i : Idx) (r : ItemResult) (n : Nat) (s : State) :
    (completeItem i r n s).htu = s.htu := by
  rfl

@[simp] theorem completeItem_asu (i : Idx) (r : ItemResult) (n : Nat) (s : State) :
    (completeItem i r n s).asu = s.asu := by
  rfl

@[simp] theorem completeLabel_mem (l k : Idx) (r : ItemResult) (g p : Nat) (s : State) :
    (completeLabel l k r g p s).mem = s.mem := by
  rfl

@[simp] theorem completeLabel_pending (l k : Idx) (r : ItemResult) (g p : Nat) (s : State) :
    (completeLabel l k r g p s).pending = s.pending := by
  rfl

@[simp] theorem completeLabel_settings (l k : Idx) (r : ItemResult) (g p : Nat) (s : State) :
    (completeLabel l k r g p s).settings = s.settings := by
  rfl

@[simp] theorem completeLabel_prescaler (l k : Idx) (r : ItemResult) (g p : Nat) (s : State) :
    (completeLabel l k r g p s).prescaler = s.prescaler := by
  rfl

@[simp] theorem completeLabel_bpu (l k : Idx) (r : ItemResult) (g p : Nat) (s : State) :
    (completeLabel l k r g p s).bpu = s.bpu := by
  rfl

@[simp] theorem completeLabel_bht (l k : Idx) (r : ItemResult) (g p : Nat) (s : State) :
    (completeLabel l k r g p s).bht = s.bht := by
  rfl

@[simp] theorem completeLabel_lcu (l k : Idx) (r : ItemResult) (g p : Nat) (s : State) :
    (completeLabel l k r g p s).lcu = s.lcu := by
  rfl

@[simp] theorem completeLabel_rsu (l k : Idx) (r : ItemResult) (g p : Nat) (s : State) :
    (completeLabel l k r g p s).rsu = s.rsu := by
  rfl

@[simp] theorem completeLabel_seu (l k : Idx) (r : ItemResult) (g p : Nat) (s : State) :
    (completeLabel l k r g p s).seu = s.seu := by
  rfl

@[simp] theorem completeLabel_hdu (l k : Idx) (r : ItemResult) (g p : Nat) (s : State) :
    (completeLabel l k r g p s).hdu = s.hdu := by
  rfl

@[simp] theorem completeLabel_mtu (l k : Idx) (r : ItemResult) (g p : Nat) (s : State) :
    (completeLabel l k r g p s).mtu = s.mtu := by
  rfl

@[simp] theorem completeLabel_msu (l k : Idx) (r : ItemResult) (g p : Nat) (s : State) :
    (completeLabel l k r g p s).msu = s.msu := by
  rfl

@[simp] theorem completeLabel_htu (l k : Idx) (r : ItemResult) (g p : Nat) (s : State) :
    (completeLabel l k r g p s).htu = s.htu := by
  rfl

@[simp] theorem completeLabel_asu (l k : Idx) (r : ItemResult) (g p : Nat) (s : State) :
    (completeLabel l k r g p s).asu = s.asu := by
  rfl

/-- R54: completion keeps the number of entries. -/
@[simp] theorem completeLabel_length (l k : Idx) (r : ItemResult) (g p : Nat) (s : State) :
    (completeLabel l k r g p s).rrd.table.length = s.rrd.table.length := by
  simp [completeLabel]

@[simp] theorem judgeBandsFree_mem (n : Nat) (s : State) :
    (judgeBandsFree n s).mem = s.mem := by
  unfold judgeBandsFree; split <;> simp

@[simp] theorem judgeBandsFree_pending (n : Nat) (s : State) :
    (judgeBandsFree n s).pending = s.pending := by
  unfold judgeBandsFree; split <;> simp

@[simp] theorem judgeBandsFree_settings (n : Nat) (s : State) :
    (judgeBandsFree n s).settings = s.settings := by
  unfold judgeBandsFree; split <;> simp

@[simp] theorem judgeBandsFree_prescaler (n : Nat) (s : State) :
    (judgeBandsFree n s).prescaler = s.prescaler := by
  unfold judgeBandsFree; split <;> simp

@[simp] theorem judgeBandsFree_bpu_resetLine (n : Nat) (s : State) :
    (judgeBandsFree n s).bpu.resetLine = s.bpu.resetLine := by
  unfold judgeBandsFree; split <;> simp

@[simp] theorem judgeBandsFree_bpu_straps (n : Nat) (s : State) :
    (judgeBandsFree n s).bpu.straps = s.bpu.straps := by
  unfold judgeBandsFree; split <;> simp

@[simp] theorem judgeBandsFree_bpu_engagement (n : Nat) (s : State) :
    (judgeBandsFree n s).bpu.engagement = s.bpu.engagement := by
  unfold judgeBandsFree; split <;> simp

@[simp] theorem judgeBandsFree_bpu_reads (n : Nat) (s : State) :
    (judgeBandsFree n s).bpu.reads = s.bpu.reads := by
  unfold judgeBandsFree; split <;> simp

@[simp] theorem judgeBandsFree_bpu_geometry (n : Nat) (s : State) :
    (judgeBandsFree n s).bpu.geometry = s.bpu.geometry := by
  unfold judgeBandsFree; split <;> simp

@[simp] theorem judgeBandsFree_bpu_guard (n : Nat) (s : State) :
    (judgeBandsFree n s).bpu.guard = s.bpu.guard := by
  unfold judgeBandsFree; split <;> simp

@[simp] theorem judgeBandsFree_bpu_latch (n : Nat) (s : State) :
    (judgeBandsFree n s).bpu.latch = s.bpu.latch := by
  unfold judgeBandsFree; split <;> simp

@[simp] theorem judgeBandsFree_bht (n : Nat) (s : State) :
    (judgeBandsFree n s).bht = s.bht := by
  unfold judgeBandsFree; split <;> simp

@[simp] theorem judgeBandsFree_rrd (n : Nat) (s : State) :
    (judgeBandsFree n s).rrd = s.rrd := by
  unfold judgeBandsFree; split <;> simp

@[simp] theorem judgeBandsFree_lcu (n : Nat) (s : State) :
    (judgeBandsFree n s).lcu = s.lcu := by
  unfold judgeBandsFree; split <;> simp

@[simp] theorem judgeBandsFree_rsu (n : Nat) (s : State) :
    (judgeBandsFree n s).rsu = s.rsu := by
  unfold judgeBandsFree; split <;> simp

@[simp] theorem judgeBandsFree_seu (n : Nat) (s : State) :
    (judgeBandsFree n s).seu = s.seu := by
  unfold judgeBandsFree; split <;> simp

@[simp] theorem judgeBandsFree_hdu (n : Nat) (s : State) :
    (judgeBandsFree n s).hdu = s.hdu := by
  unfold judgeBandsFree; split <;> simp

@[simp] theorem judgeBandsFree_mtu (n : Nat) (s : State) :
    (judgeBandsFree n s).mtu = s.mtu := by
  unfold judgeBandsFree; split <;> simp

@[simp] theorem judgeBandsFree_msu (n : Nat) (s : State) :
    (judgeBandsFree n s).msu = s.msu := by
  unfold judgeBandsFree; split <;> simp

@[simp] theorem judgeBandsFree_htu (n : Nat) (s : State) :
    (judgeBandsFree n s).htu = s.htu := by
  unfold judgeBandsFree; split <;> simp

@[simp] theorem raiseRetired_mem (e : ItemEntry) (s : State) :
    (raiseRetired e s).mem = s.mem := by
  unfold raiseRetired; split <;> (try split) <;> simp

@[simp] theorem raiseRetired_pending (e : ItemEntry) (s : State) :
    (raiseRetired e s).pending = s.pending := by
  unfold raiseRetired; split <;> (try split) <;> simp

@[simp] theorem raiseRetired_settings (e : ItemEntry) (s : State) :
    (raiseRetired e s).settings = s.settings := by
  unfold raiseRetired; split <;> (try split) <;> simp

@[simp] theorem raiseRetired_prescaler (e : ItemEntry) (s : State) :
    (raiseRetired e s).prescaler = s.prescaler := by
  unfold raiseRetired; split <;> (try split) <;> simp

@[simp] theorem raiseRetired_bpu_resetLine (e : ItemEntry) (s : State) :
    (raiseRetired e s).bpu.resetLine = s.bpu.resetLine := by
  unfold raiseRetired; split <;> (try split) <;> simp

@[simp] theorem raiseRetired_bpu_straps (e : ItemEntry) (s : State) :
    (raiseRetired e s).bpu.straps = s.bpu.straps := by
  unfold raiseRetired; split <;> (try split) <;> simp

@[simp] theorem raiseRetired_bpu_engagement (e : ItemEntry) (s : State) :
    (raiseRetired e s).bpu.engagement = s.bpu.engagement := by
  unfold raiseRetired; split <;> (try split) <;> simp

@[simp] theorem raiseRetired_bpu_reads (e : ItemEntry) (s : State) :
    (raiseRetired e s).bpu.reads = s.bpu.reads := by
  unfold raiseRetired; split <;> (try split) <;> simp

@[simp] theorem raiseRetired_bpu_geometry (e : ItemEntry) (s : State) :
    (raiseRetired e s).bpu.geometry = s.bpu.geometry := by
  unfold raiseRetired; split <;> (try split) <;> simp

@[simp] theorem raiseRetired_bpu_guard (e : ItemEntry) (s : State) :
    (raiseRetired e s).bpu.guard = s.bpu.guard := by
  unfold raiseRetired; split <;> (try split) <;> simp

@[simp] theorem raiseRetired_bpu_latch (e : ItemEntry) (s : State) :
    (raiseRetired e s).bpu.latch = s.bpu.latch := by
  unfold raiseRetired; split <;> (try split) <;> simp

@[simp] theorem raiseRetired_bht (e : ItemEntry) (s : State) :
    (raiseRetired e s).bht = s.bht := by
  unfold raiseRetired; split <;> (try split) <;> simp

@[simp] theorem raiseRetired_rrd (e : ItemEntry) (s : State) :
    (raiseRetired e s).rrd = s.rrd := by
  unfold raiseRetired; split <;> (try split) <;> simp

@[simp] theorem raiseRetired_lcu (e : ItemEntry) (s : State) :
    (raiseRetired e s).lcu = s.lcu := by
  unfold raiseRetired; split <;> (try split) <;> simp

@[simp] theorem raiseRetired_rsu (e : ItemEntry) (s : State) :
    (raiseRetired e s).rsu = s.rsu := by
  unfold raiseRetired; split <;> (try split) <;> simp

@[simp] theorem raiseRetired_seu (e : ItemEntry) (s : State) :
    (raiseRetired e s).seu = s.seu := by
  unfold raiseRetired; split <;> (try split) <;> simp

@[simp] theorem raiseRetired_hdu (e : ItemEntry) (s : State) :
    (raiseRetired e s).hdu = s.hdu := by
  unfold raiseRetired; split <;> (try split) <;> simp

@[simp] theorem raiseRetired_mtu (e : ItemEntry) (s : State) :
    (raiseRetired e s).mtu = s.mtu := by
  unfold raiseRetired; split <;> (try split) <;> simp

@[simp] theorem raiseRetired_msu (e : ItemEntry) (s : State) :
    (raiseRetired e s).msu = s.msu := by
  unfold raiseRetired; split <;> (try split) <;> simp

@[simp] theorem raiseRetired_htu (e : ItemEntry) (s : State) :
    (raiseRetired e s).htu = s.htu := by
  unfold raiseRetired; split <;> (try split) <;> simp

@[simp] theorem retireItem_mem (e : ItemEntry) (s : State) :
    (retireItem e s).mem = s.mem := by
  unfold retireItem; dsimp only; split <;> simp

@[simp] theorem retireItem_pending (e : ItemEntry) (s : State) :
    (retireItem e s).pending = s.pending := by
  unfold retireItem; dsimp only; split <;> simp

@[simp] theorem retireItem_settings (e : ItemEntry) (s : State) :
    (retireItem e s).settings = s.settings := by
  unfold retireItem; dsimp only; split <;> simp

@[simp] theorem retireItem_prescaler (e : ItemEntry) (s : State) :
    (retireItem e s).prescaler = s.prescaler := by
  unfold retireItem; dsimp only; split <;> simp

@[simp] theorem retireItem_bpu_resetLine (e : ItemEntry) (s : State) :
    (retireItem e s).bpu.resetLine = s.bpu.resetLine := by
  unfold retireItem; dsimp only; split <;> simp

@[simp] theorem retireItem_bpu_straps (e : ItemEntry) (s : State) :
    (retireItem e s).bpu.straps = s.bpu.straps := by
  unfold retireItem; dsimp only; split <;> simp

@[simp] theorem retireItem_bpu_engagement (e : ItemEntry) (s : State) :
    (retireItem e s).bpu.engagement = s.bpu.engagement := by
  unfold retireItem; dsimp only; split <;> simp

@[simp] theorem retireItem_bpu_reads (e : ItemEntry) (s : State) :
    (retireItem e s).bpu.reads = s.bpu.reads := by
  unfold retireItem; dsimp only; split <;> simp

@[simp] theorem retireItem_bpu_geometry (e : ItemEntry) (s : State) :
    (retireItem e s).bpu.geometry = s.bpu.geometry := by
  unfold retireItem; dsimp only; split <;> simp

@[simp] theorem retireItem_bpu_guard (e : ItemEntry) (s : State) :
    (retireItem e s).bpu.guard = s.bpu.guard := by
  unfold retireItem; dsimp only; split <;> simp

@[simp] theorem retireItem_bpu_latch (e : ItemEntry) (s : State) :
    (retireItem e s).bpu.latch = s.bpu.latch := by
  unfold retireItem; dsimp only; split <;> simp

@[simp] theorem retireItem_rrd (e : ItemEntry) (s : State) :
    (retireItem e s).rrd = s.rrd := by
  unfold retireItem; dsimp only; split <;> simp

@[simp] theorem retireItem_lcu (e : ItemEntry) (s : State) :
    (retireItem e s).lcu = s.lcu := by
  unfold retireItem; dsimp only; split <;> simp

@[simp] theorem retireItem_rsu (e : ItemEntry) (s : State) :
    (retireItem e s).rsu = s.rsu := by
  unfold retireItem; dsimp only; split <;> simp

@[simp] theorem retireItem_seu (e : ItemEntry) (s : State) :
    (retireItem e s).seu = s.seu := by
  unfold retireItem; dsimp only; split <;> simp

@[simp] theorem retireItem_hdu (e : ItemEntry) (s : State) :
    (retireItem e s).hdu = s.hdu := by
  unfold retireItem; dsimp only; split <;> simp

@[simp] theorem retireItem_mtu (e : ItemEntry) (s : State) :
    (retireItem e s).mtu = s.mtu := by
  unfold retireItem; dsimp only; split <;> simp

@[simp] theorem retireItem_msu (e : ItemEntry) (s : State) :
    (retireItem e s).msu = s.msu := by
  unfold retireItem; dsimp only; split <;> simp

@[simp] theorem retireItem_htu (e : ItemEntry) (s : State) :
    (retireItem e s).htu = s.htu := by
  unfold retireItem; dsimp only; split <;> simp

/-- R8: retiring an item releases its hold, whether or not it writes an outcome. -/
@[simp] theorem retireItem_bht (e : ItemEntry) (s : State) :
    (retireItem e s).bht = s.bht.releaseItem e.index := by
  unfold retireItem
  dsimp only
  split <;> simp

@[simp] theorem retireRun_mem (run : List ItemEntry) (s : State) :
    (retireRun run s).mem = s.mem := by
  induction run generalizing s with
  | nil => rfl
  | cons e rest ih => rw [retireRun, ih, retireItem_mem]

@[simp] theorem retireRun_pending (run : List ItemEntry) (s : State) :
    (retireRun run s).pending = s.pending := by
  induction run generalizing s with
  | nil => rfl
  | cons e rest ih => rw [retireRun, ih, retireItem_pending]

@[simp] theorem retireRun_settings (run : List ItemEntry) (s : State) :
    (retireRun run s).settings = s.settings := by
  induction run generalizing s with
  | nil => rfl
  | cons e rest ih => rw [retireRun, ih, retireItem_settings]

@[simp] theorem retireRun_prescaler (run : List ItemEntry) (s : State) :
    (retireRun run s).prescaler = s.prescaler := by
  induction run generalizing s with
  | nil => rfl
  | cons e rest ih => rw [retireRun, ih, retireItem_prescaler]

@[simp] theorem retireRun_bpu_resetLine (run : List ItemEntry) (s : State) :
    (retireRun run s).bpu.resetLine = s.bpu.resetLine := by
  induction run generalizing s with
  | nil => rfl
  | cons e rest ih => rw [retireRun, ih, retireItem_bpu_resetLine]

@[simp] theorem retireRun_bpu_straps (run : List ItemEntry) (s : State) :
    (retireRun run s).bpu.straps = s.bpu.straps := by
  induction run generalizing s with
  | nil => rfl
  | cons e rest ih => rw [retireRun, ih, retireItem_bpu_straps]

@[simp] theorem retireRun_bpu_engagement (run : List ItemEntry) (s : State) :
    (retireRun run s).bpu.engagement = s.bpu.engagement := by
  induction run generalizing s with
  | nil => rfl
  | cons e rest ih => rw [retireRun, ih, retireItem_bpu_engagement]

@[simp] theorem retireRun_bpu_reads (run : List ItemEntry) (s : State) :
    (retireRun run s).bpu.reads = s.bpu.reads := by
  induction run generalizing s with
  | nil => rfl
  | cons e rest ih => rw [retireRun, ih, retireItem_bpu_reads]

@[simp] theorem retireRun_bpu_geometry (run : List ItemEntry) (s : State) :
    (retireRun run s).bpu.geometry = s.bpu.geometry := by
  induction run generalizing s with
  | nil => rfl
  | cons e rest ih => rw [retireRun, ih, retireItem_bpu_geometry]

@[simp] theorem retireRun_bpu_guard (run : List ItemEntry) (s : State) :
    (retireRun run s).bpu.guard = s.bpu.guard := by
  induction run generalizing s with
  | nil => rfl
  | cons e rest ih => rw [retireRun, ih, retireItem_bpu_guard]

@[simp] theorem retireRun_bpu_latch (run : List ItemEntry) (s : State) :
    (retireRun run s).bpu.latch = s.bpu.latch := by
  induction run generalizing s with
  | nil => rfl
  | cons e rest ih => rw [retireRun, ih, retireItem_bpu_latch]

@[simp] theorem retireRun_rrd (run : List ItemEntry) (s : State) :
    (retireRun run s).rrd = s.rrd := by
  induction run generalizing s with
  | nil => rfl
  | cons e rest ih => rw [retireRun, ih, retireItem_rrd]

@[simp] theorem retireRun_lcu (run : List ItemEntry) (s : State) :
    (retireRun run s).lcu = s.lcu := by
  induction run generalizing s with
  | nil => rfl
  | cons e rest ih => rw [retireRun, ih, retireItem_lcu]

@[simp] theorem retireRun_rsu (run : List ItemEntry) (s : State) :
    (retireRun run s).rsu = s.rsu := by
  induction run generalizing s with
  | nil => rfl
  | cons e rest ih => rw [retireRun, ih, retireItem_rsu]

@[simp] theorem retireRun_seu (run : List ItemEntry) (s : State) :
    (retireRun run s).seu = s.seu := by
  induction run generalizing s with
  | nil => rfl
  | cons e rest ih => rw [retireRun, ih, retireItem_seu]

@[simp] theorem retireRun_hdu (run : List ItemEntry) (s : State) :
    (retireRun run s).hdu = s.hdu := by
  induction run generalizing s with
  | nil => rfl
  | cons e rest ih => rw [retireRun, ih, retireItem_hdu]

@[simp] theorem retireRun_mtu (run : List ItemEntry) (s : State) :
    (retireRun run s).mtu = s.mtu := by
  induction run generalizing s with
  | nil => rfl
  | cons e rest ih => rw [retireRun, ih, retireItem_mtu]

@[simp] theorem retireRun_msu (run : List ItemEntry) (s : State) :
    (retireRun run s).msu = s.msu := by
  induction run generalizing s with
  | nil => rfl
  | cons e rest ih => rw [retireRun, ih, retireItem_msu]

@[simp] theorem retireRun_htu (run : List ItemEntry) (s : State) :
    (retireRun run s).htu = s.htu := by
  induction run generalizing s with
  | nil => rfl
  | cons e rest ih => rw [retireRun, ih, retireItem_htu]

@[simp] theorem endAdvance_mem (n : Nat) (i : Idx) (s : State) :
    (endAdvance n i s).mem = s.mem := by
  unfold endAdvance; simp

@[simp] theorem endAdvance_pending (n : Nat) (i : Idx) (s : State) :
    (endAdvance n i s).pending = s.pending := by
  unfold endAdvance; simp

@[simp] theorem endAdvance_settings (n : Nat) (i : Idx) (s : State) :
    (endAdvance n i s).settings = s.settings := by
  unfold endAdvance; simp

@[simp] theorem endAdvance_prescaler (n : Nat) (i : Idx) (s : State) :
    (endAdvance n i s).prescaler = s.prescaler := by
  unfold endAdvance; simp

@[simp] theorem endAdvance_bpu_resetLine (n : Nat) (i : Idx) (s : State) :
    (endAdvance n i s).bpu.resetLine = s.bpu.resetLine := by
  unfold endAdvance; simp

@[simp] theorem endAdvance_bpu_straps (n : Nat) (i : Idx) (s : State) :
    (endAdvance n i s).bpu.straps = s.bpu.straps := by
  unfold endAdvance; simp

@[simp] theorem endAdvance_bpu_engagement (n : Nat) (i : Idx) (s : State) :
    (endAdvance n i s).bpu.engagement = s.bpu.engagement := by
  unfold endAdvance; simp

@[simp] theorem endAdvance_bpu_reads (n : Nat) (i : Idx) (s : State) :
    (endAdvance n i s).bpu.reads = s.bpu.reads := by
  unfold endAdvance; simp

@[simp] theorem endAdvance_bpu_geometry (n : Nat) (i : Idx) (s : State) :
    (endAdvance n i s).bpu.geometry = s.bpu.geometry := by
  unfold endAdvance; simp

@[simp] theorem endAdvance_bpu_guard (n : Nat) (i : Idx) (s : State) :
    (endAdvance n i s).bpu.guard = s.bpu.guard := by
  unfold endAdvance; simp

@[simp] theorem endAdvance_bpu_latch (n : Nat) (i : Idx) (s : State) :
    (endAdvance n i s).bpu.latch = s.bpu.latch := by
  unfold endAdvance; simp

@[simp] theorem endAdvance_bht (n : Nat) (i : Idx) (s : State) :
    (endAdvance n i s).bht = s.bht := by
  unfold endAdvance; simp

@[simp] theorem endAdvance_lcu (n : Nat) (i : Idx) (s : State) :
    (endAdvance n i s).lcu = s.lcu := by
  unfold endAdvance; simp

@[simp] theorem endAdvance_rsu (n : Nat) (i : Idx) (s : State) :
    (endAdvance n i s).rsu = s.rsu := by
  unfold endAdvance; simp

@[simp] theorem endAdvance_seu (n : Nat) (i : Idx) (s : State) :
    (endAdvance n i s).seu = s.seu := by
  unfold endAdvance; simp

@[simp] theorem endAdvance_hdu (n : Nat) (i : Idx) (s : State) :
    (endAdvance n i s).hdu = s.hdu := by
  unfold endAdvance; simp

@[simp] theorem endAdvance_mtu (n : Nat) (i : Idx) (s : State) :
    (endAdvance n i s).mtu = s.mtu := by
  unfold endAdvance; simp

@[simp] theorem endAdvance_msu (n : Nat) (i : Idx) (s : State) :
    (endAdvance n i s).msu = s.msu := by
  unfold endAdvance; simp

@[simp] theorem endAdvance_htu (n : Nat) (i : Idx) (s : State) :
    (endAdvance n i s).htu = s.htu := by
  unfold endAdvance; simp

@[simp] theorem endAdvance_rrd (n : Nat) (i : Idx) (s : State) :
    (endAdvance n i s).rrd = { s.rrd with retire := i } := by
  unfold endAdvance
  simp

/-- R55, R38: nothing advances while the item at the retire index is not COMPLETE, or the walk index
stands at it. -/
theorem retireAdvance_none (s : State) (h : ∀ e ∈ s.rrd.table.head?, mayRetire s e = false) :
    retireAdvance s = s := by
  have hr : s.rrd.table.takeWhile (mayRetire s) = [] := by
    cases ht : s.rrd.table with
    | nil => rfl
    | cons e rest => simp [h e (by simp [ht])]
  unfold retireAdvance
  rw [hr]

/-- R55, R38: what may not retire: an item that is not COMPLETE, or the one at the walk index. -/
theorem mayRetire_eq_false (s : State) (e : ItemEntry) :
    mayRetire s e = false ↔ e.complete = false ∨ e.index = s.rrd.walk := by
  unfold mayRetire
  cases e.complete <;> simp

@[simp] theorem retireAdvance_mem (s : State) :
    (retireAdvance s).mem = s.mem := by
  unfold retireAdvance; split <;> simp

@[simp] theorem retireAdvance_pending (s : State) :
    (retireAdvance s).pending = s.pending := by
  unfold retireAdvance; split <;> simp

@[simp] theorem retireAdvance_settings (s : State) :
    (retireAdvance s).settings = s.settings := by
  unfold retireAdvance; split <;> simp

@[simp] theorem retireAdvance_prescaler (s : State) :
    (retireAdvance s).prescaler = s.prescaler := by
  unfold retireAdvance; split <;> simp

@[simp] theorem retireAdvance_bpu_resetLine (s : State) :
    (retireAdvance s).bpu.resetLine = s.bpu.resetLine := by
  unfold retireAdvance; split <;> simp

@[simp] theorem retireAdvance_bpu_straps (s : State) :
    (retireAdvance s).bpu.straps = s.bpu.straps := by
  unfold retireAdvance; split <;> simp

@[simp] theorem retireAdvance_bpu_engagement (s : State) :
    (retireAdvance s).bpu.engagement = s.bpu.engagement := by
  unfold retireAdvance; split <;> simp

@[simp] theorem retireAdvance_bpu_reads (s : State) :
    (retireAdvance s).bpu.reads = s.bpu.reads := by
  unfold retireAdvance; split <;> simp

@[simp] theorem retireAdvance_bpu_geometry (s : State) :
    (retireAdvance s).bpu.geometry = s.bpu.geometry := by
  unfold retireAdvance; split <;> simp

@[simp] theorem retireAdvance_bpu_guard (s : State) :
    (retireAdvance s).bpu.guard = s.bpu.guard := by
  unfold retireAdvance; split <;> simp

@[simp] theorem retireAdvance_bpu_latch (s : State) :
    (retireAdvance s).bpu.latch = s.bpu.latch := by
  unfold retireAdvance; split <;> simp

@[simp] theorem retireAdvance_lcu (s : State) :
    (retireAdvance s).lcu = s.lcu := by
  unfold retireAdvance; split <;> simp

@[simp] theorem retireAdvance_rsu (s : State) :
    (retireAdvance s).rsu = s.rsu := by
  unfold retireAdvance; split <;> simp

@[simp] theorem retireAdvance_seu (s : State) :
    (retireAdvance s).seu = s.seu := by
  unfold retireAdvance; split <;> simp

@[simp] theorem retireAdvance_hdu (s : State) :
    (retireAdvance s).hdu = s.hdu := by
  unfold retireAdvance; split <;> simp

@[simp] theorem retireAdvance_mtu (s : State) :
    (retireAdvance s).mtu = s.mtu := by
  unfold retireAdvance; split <;> simp

@[simp] theorem retireAdvance_msu (s : State) :
    (retireAdvance s).msu = s.msu := by
  unfold retireAdvance; split <;> simp

@[simp] theorem retireAdvance_htu (s : State) :
    (retireAdvance s).htu = s.htu := by
  unfold retireAdvance; split <;> simp

/-- R55: an advance moves the table and the retire index alone in the Ring Reader. -/
theorem retireAdvance_rrd (s : State) :
    (retireAdvance s).rrd =
      { s.rrd with table := (retireAdvance s).rrd.table, retire := (retireAdvance s).rrd.retire } := by
  unfold retireAdvance
  split <;> simp

/-! ## Fetches -/

@[simp] theorem startReread_mem (s : State) :
    (startReread s).mem = s.mem := by
  unfold startReread; split <;> simp

@[simp] theorem startReread_pending (s : State) :
    (startReread s).pending = s.pending := by
  unfold startReread; split <;> simp

@[simp] theorem startReread_settings (s : State) :
    (startReread s).settings = s.settings := by
  unfold startReread; split <;> simp

@[simp] theorem startReread_prescaler (s : State) :
    (startReread s).prescaler = s.prescaler := by
  unfold startReread; split <;> simp

@[simp] theorem startReread_bpu_resetLine (s : State) :
    (startReread s).bpu.resetLine = s.bpu.resetLine := by
  unfold startReread; split <;> simp

@[simp] theorem startReread_bpu_straps (s : State) :
    (startReread s).bpu.straps = s.bpu.straps := by
  unfold startReread; split <;> simp

@[simp] theorem startReread_bpu_engagement (s : State) :
    (startReread s).bpu.engagement = s.bpu.engagement := by
  unfold startReread; split <;> simp

@[simp] theorem startReread_bpu_reads (s : State) :
    (startReread s).bpu.reads = s.bpu.reads := by
  unfold startReread; split <;> simp

@[simp] theorem startReread_bpu_geometry (s : State) :
    (startReread s).bpu.geometry = s.bpu.geometry := by
  unfold startReread; split <;> simp

@[simp] theorem startReread_bpu_guard (s : State) :
    (startReread s).bpu.guard = s.bpu.guard := by
  unfold startReread; split <;> simp

@[simp] theorem startReread_bpu_latch (s : State) :
    (startReread s).bpu.latch = s.bpu.latch := by
  unfold startReread; split <;> simp

@[simp] theorem startReread_bht (s : State) :
    (startReread s).bht = s.bht := by
  unfold startReread; split <;> simp

@[simp] theorem startReread_lcu (s : State) :
    (startReread s).lcu = s.lcu := by
  unfold startReread; split <;> simp

@[simp] theorem startReread_rsu (s : State) :
    (startReread s).rsu = s.rsu := by
  unfold startReread; split <;> simp

@[simp] theorem startReread_seu (s : State) :
    (startReread s).seu = s.seu := by
  unfold startReread; split <;> simp

@[simp] theorem startReread_hdu (s : State) :
    (startReread s).hdu = s.hdu := by
  unfold startReread; split <;> simp

@[simp] theorem startReread_mtu (s : State) :
    (startReread s).mtu = s.mtu := by
  unfold startReread; split <;> simp

@[simp] theorem startReread_msu (s : State) :
    (startReread s).msu = s.msu := by
  unfold startReread; split <;> simp

@[simp] theorem startReread_htu (s : State) :
    (startReread s).htu = s.htu := by
  unfold startReread; split <;> simp

@[simp] theorem startReread_asu (s : State) :
    (startReread s).asu = s.asu := by
  unfold startReread; split <;> simp

@[simp] theorem requestFetch_mem (s : State) :
    (requestFetch s).mem = s.mem := by
  unfold requestFetch; split <;> simp

@[simp] theorem requestFetch_pending (s : State) :
    (requestFetch s).pending = s.pending := by
  unfold requestFetch; split <;> simp

@[simp] theorem requestFetch_settings (s : State) :
    (requestFetch s).settings = s.settings := by
  unfold requestFetch; split <;> simp

@[simp] theorem requestFetch_prescaler (s : State) :
    (requestFetch s).prescaler = s.prescaler := by
  unfold requestFetch; split <;> simp

@[simp] theorem requestFetch_bpu_resetLine (s : State) :
    (requestFetch s).bpu.resetLine = s.bpu.resetLine := by
  unfold requestFetch; split <;> simp

@[simp] theorem requestFetch_bpu_straps (s : State) :
    (requestFetch s).bpu.straps = s.bpu.straps := by
  unfold requestFetch; split <;> simp

@[simp] theorem requestFetch_bpu_engagement (s : State) :
    (requestFetch s).bpu.engagement = s.bpu.engagement := by
  unfold requestFetch; split <;> simp

@[simp] theorem requestFetch_bpu_reads (s : State) :
    (requestFetch s).bpu.reads = s.bpu.reads := by
  unfold requestFetch; split <;> simp

@[simp] theorem requestFetch_bpu_geometry (s : State) :
    (requestFetch s).bpu.geometry = s.bpu.geometry := by
  unfold requestFetch; split <;> simp

@[simp] theorem requestFetch_bpu_guard (s : State) :
    (requestFetch s).bpu.guard = s.bpu.guard := by
  unfold requestFetch; split <;> simp

@[simp] theorem requestFetch_bpu_latch (s : State) :
    (requestFetch s).bpu.latch = s.bpu.latch := by
  unfold requestFetch; split <;> simp

@[simp] theorem requestFetch_bht (s : State) :
    (requestFetch s).bht = s.bht := by
  unfold requestFetch; split <;> simp

@[simp] theorem requestFetch_lcu (s : State) :
    (requestFetch s).lcu = s.lcu := by
  unfold requestFetch; split <;> simp

@[simp] theorem requestFetch_rsu (s : State) :
    (requestFetch s).rsu = s.rsu := by
  unfold requestFetch; split <;> simp

@[simp] theorem requestFetch_seu (s : State) :
    (requestFetch s).seu = s.seu := by
  unfold requestFetch; split <;> simp

@[simp] theorem requestFetch_hdu (s : State) :
    (requestFetch s).hdu = s.hdu := by
  unfold requestFetch; split <;> simp

@[simp] theorem requestFetch_mtu (s : State) :
    (requestFetch s).mtu = s.mtu := by
  unfold requestFetch; split <;> simp

@[simp] theorem requestFetch_msu (s : State) :
    (requestFetch s).msu = s.msu := by
  unfold requestFetch; split <;> simp

@[simp] theorem requestFetch_htu (s : State) :
    (requestFetch s).htu = s.htu := by
  unfold requestFetch; split <;> simp

@[simp] theorem requestFetch_asu (s : State) :
    (requestFetch s).asu = s.asu := by
  unfold requestFetch; split <;> simp

/-- R53: a start of the re-read touches the re-read alone. -/
theorem startReread_rrd (s : State) :
    (startReread s).rrd = { s.rrd with reread := (startReread s).rrd.reread } := by
  unfold startReread
  split <;> simp

/-- R41: a request touches the fetch alone. -/
theorem requestFetch_rrd (s : State) :
    (requestFetch s).rrd = { s.rrd with fetch := (requestFetch s).rrd.fetch } := by
  unfold requestFetch
  split <;> simp

/-! ## What follows every command -/

@[simp] theorem fillBuffer_mem (s : State) :
    (fillBuffer s).mem = s.mem := by
  unfold fillBuffer; split <;> rfl

@[simp] theorem fillBuffer_pending (s : State) :
    (fillBuffer s).pending = s.pending := by
  unfold fillBuffer; split <;> rfl

@[simp] theorem fillBuffer_settings (s : State) :
    (fillBuffer s).settings = s.settings := by
  unfold fillBuffer; split <;> rfl

@[simp] theorem fillBuffer_prescaler (s : State) :
    (fillBuffer s).prescaler = s.prescaler := by
  unfold fillBuffer; split <;> rfl

@[simp] theorem fillBuffer_bpu (s : State) :
    (fillBuffer s).bpu = s.bpu := by
  unfold fillBuffer; split <;> rfl

@[simp] theorem fillBuffer_bht (s : State) :
    (fillBuffer s).bht = s.bht := by
  unfold fillBuffer; split <;> rfl

@[simp] theorem fillBuffer_rrd (s : State) :
    (fillBuffer s).rrd = s.rrd := by
  unfold fillBuffer; split <;> rfl

@[simp] theorem fillBuffer_lcu (s : State) :
    (fillBuffer s).lcu = s.lcu := by
  unfold fillBuffer; split <;> rfl

@[simp] theorem fillBuffer_seu (s : State) :
    (fillBuffer s).seu = s.seu := by
  unfold fillBuffer; split <;> rfl

@[simp] theorem fillBuffer_hdu (s : State) :
    (fillBuffer s).hdu = s.hdu := by
  unfold fillBuffer; split <;> rfl

@[simp] theorem fillBuffer_mtu (s : State) :
    (fillBuffer s).mtu = s.mtu := by
  unfold fillBuffer; split <;> rfl

@[simp] theorem fillBuffer_msu (s : State) :
    (fillBuffer s).msu = s.msu := by
  unfold fillBuffer; split <;> rfl

@[simp] theorem fillBuffer_htu (s : State) :
    (fillBuffer s).htu = s.htu := by
  unfold fillBuffer; split <;> rfl

@[simp] theorem fillBuffer_asu (s : State) :
    (fillBuffer s).asu = s.asu := by
  unfold fillBuffer; split <;> rfl

@[simp] theorem updateTailRunOn_mem (s : State) :
    (updateTailRunOn s).mem = s.mem := by
  rfl

@[simp] theorem updateTailRunOn_pending (s : State) :
    (updateTailRunOn s).pending = s.pending := by
  rfl

@[simp] theorem updateTailRunOn_settings (s : State) :
    (updateTailRunOn s).settings = s.settings := by
  rfl

@[simp] theorem updateTailRunOn_prescaler (s : State) :
    (updateTailRunOn s).prescaler = s.prescaler := by
  rfl

@[simp] theorem updateTailRunOn_bpu (s : State) :
    (updateTailRunOn s).bpu = s.bpu := by
  rfl

@[simp] theorem updateTailRunOn_bht (s : State) :
    (updateTailRunOn s).bht = s.bht := by
  rfl

@[simp] theorem updateTailRunOn_rrd (s : State) :
    (updateTailRunOn s).rrd = s.rrd := by
  rfl

@[simp] theorem updateTailRunOn_lcu (s : State) :
    (updateTailRunOn s).lcu = s.lcu := by
  rfl

@[simp] theorem updateTailRunOn_rsu (s : State) :
    (updateTailRunOn s).rsu = s.rsu := by
  rfl

@[simp] theorem updateTailRunOn_seu (s : State) :
    (updateTailRunOn s).seu = s.seu := by
  rfl

@[simp] theorem updateTailRunOn_hdu (s : State) :
    (updateTailRunOn s).hdu = s.hdu := by
  rfl

@[simp] theorem updateTailRunOn_msu (s : State) :
    (updateTailRunOn s).msu = s.msu := by
  rfl

@[simp] theorem updateTailRunOn_htu (s : State) :
    (updateTailRunOn s).htu = s.htu := by
  rfl

@[simp] theorem updateTailRunOn_asu (s : State) :
    (updateTailRunOn s).asu = s.asu := by
  rfl

@[simp] theorem refreshForecast_mem (s : State) :
    (refreshForecast s).mem = s.mem := by
  rfl

@[simp] theorem refreshForecast_pending (s : State) :
    (refreshForecast s).pending = s.pending := by
  rfl

@[simp] theorem refreshForecast_settings (s : State) :
    (refreshForecast s).settings = s.settings := by
  rfl

@[simp] theorem refreshForecast_prescaler (s : State) :
    (refreshForecast s).prescaler = s.prescaler := by
  rfl

@[simp] theorem refreshForecast_bpu (s : State) :
    (refreshForecast s).bpu = s.bpu := by
  rfl

@[simp] theorem refreshForecast_bht (s : State) :
    (refreshForecast s).bht = s.bht := by
  rfl

@[simp] theorem refreshForecast_rrd (s : State) :
    (refreshForecast s).rrd = s.rrd := by
  rfl

@[simp] theorem refreshForecast_lcu (s : State) :
    (refreshForecast s).lcu = s.lcu := by
  rfl

@[simp] theorem refreshForecast_rsu (s : State) :
    (refreshForecast s).rsu = s.rsu := by
  rfl

@[simp] theorem refreshForecast_mtu (s : State) :
    (refreshForecast s).mtu = s.mtu := by
  rfl

@[simp] theorem refreshForecast_msu (s : State) :
    (refreshForecast s).msu = s.msu := by
  rfl

@[simp] theorem refreshForecast_htu (s : State) :
    (refreshForecast s).htu = s.htu := by
  rfl

@[simp] theorem refreshForecast_asu (s : State) :
    (refreshForecast s).asu = s.asu := by
  rfl

@[simp] theorem updateTailRunOn_mtu (s : State) :
    (updateTailRunOn s).mtu = { s.mtu with tailRunOn := tailRunOnOf s } := rfl

@[simp] theorem settle_mem (s : State) :
    (settle s).mem = s.mem := by
  unfold settle; simp

@[simp] theorem settle_pending (s : State) :
    (settle s).pending = s.pending := by
  unfold settle; simp

@[simp] theorem settle_settings (s : State) :
    (settle s).settings = s.settings := by
  unfold settle; simp

@[simp] theorem settle_prescaler (s : State) :
    (settle s).prescaler = s.prescaler := by
  unfold settle; simp

@[simp] theorem settle_bpu_resetLine (s : State) :
    (settle s).bpu.resetLine = s.bpu.resetLine := by
  unfold settle; simp

@[simp] theorem settle_bpu_straps (s : State) :
    (settle s).bpu.straps = s.bpu.straps := by
  unfold settle; simp

@[simp] theorem settle_bpu_engagement (s : State) :
    (settle s).bpu.engagement = s.bpu.engagement := by
  unfold settle; simp

@[simp] theorem settle_bpu_reads (s : State) :
    (settle s).bpu.reads = s.bpu.reads := by
  unfold settle; simp

@[simp] theorem settle_bpu_geometry (s : State) :
    (settle s).bpu.geometry = s.bpu.geometry := by
  unfold settle; simp

@[simp] theorem settle_bpu_guard (s : State) :
    (settle s).bpu.guard = s.bpu.guard := by
  unfold settle; simp

@[simp] theorem settle_bpu_latch (s : State) :
    (settle s).bpu.latch = s.bpu.latch := by
  unfold settle; simp

@[simp] theorem settle_lcu (s : State) :
    (settle s).lcu = s.lcu := by
  unfold settle; simp

@[simp] theorem settle_msu (s : State) :
    (settle s).msu = s.msu := by
  unfold settle; simp

@[simp] theorem settle_htu (s : State) :
    (settle s).htu = s.htu := by
  unfold settle; simp

/-- What follows a command touches the tail run-on alone in the Motion Unit. -/
theorem settle_mtu (s : State) :
    (settle s).mtu = { s.mtu with tailRunOn := (settle s).mtu.tailRunOn } := by
  unfold settle
  simp [refreshForecast]

/-- What follows a command touches the forecast alone in the Strobe Energy Unit. -/
theorem settle_seu (s : State) :
    (settle s).seu = { s.seu with forecast := (settle s).seu.forecast } := by
  unfold settle
  simp [refreshForecast]

/-- What follows a command touches the forecast line time alone in the Head Drive Unit. -/
theorem settle_hdu (s : State) :
    (settle s).hdu = { s.hdu with forecastTime := (settle s).hdu.forecastTime } := by
  unfold settle
  simp [refreshForecast]

end Sys2Proof.Machine
end

