-- ==== Sys2Proof/Laws/Port.lean ====
section
/-! SUPPORT. The memory port: what a grant can change, and which bytes it can write. -/

namespace Sys2Proof.Machine

/-! ## A transfer performed at its grant -/

@[simp] theorem performTransfer_pending (t : Transfer) (s : State) :
    (performTransfer t s).pending = s.pending := by
  cases t <;> rfl

@[simp] theorem performTransfer_settings (t : Transfer) (s : State) :
    (performTransfer t s).settings = s.settings := by
  cases t <;> rfl

@[simp] theorem performTransfer_prescaler (t : Transfer) (s : State) :
    (performTransfer t s).prescaler = s.prescaler := by
  cases t <;> rfl

@[simp] theorem performTransfer_bht (t : Transfer) (s : State) :
    (performTransfer t s).bht = s.bht := by
  cases t <;> rfl

@[simp] theorem performTransfer_rsu (t : Transfer) (s : State) :
    (performTransfer t s).rsu = s.rsu := by
  cases t <;> rfl

@[simp] theorem performTransfer_seu (t : Transfer) (s : State) :
    (performTransfer t s).seu = s.seu := by
  cases t <;> rfl

@[simp] theorem performTransfer_hdu (t : Transfer) (s : State) :
    (performTransfer t s).hdu = s.hdu := by
  cases t <;> rfl

@[simp] theorem performTransfer_mtu (t : Transfer) (s : State) :
    (performTransfer t s).mtu = s.mtu := by
  cases t <;> rfl

@[simp] theorem performTransfer_msu (t : Transfer) (s : State) :
    (performTransfer t s).msu = s.msu := by
  cases t <;> rfl

@[simp] theorem performTransfer_htu (t : Transfer) (s : State) :
    (performTransfer t s).htu = s.htu := by
  cases t <;> rfl

@[simp] theorem performTransfer_bpu_resetLine (t : Transfer) (s : State) :
    (performTransfer t s).bpu.resetLine = s.bpu.resetLine := by
  cases t <;> rfl

@[simp] theorem performTransfer_bpu_straps (t : Transfer) (s : State) :
    (performTransfer t s).bpu.straps = s.bpu.straps := by
  cases t <;> rfl

@[simp] theorem performTransfer_bpu_engagement (t : Transfer) (s : State) :
    (performTransfer t s).bpu.engagement = s.bpu.engagement := by
  cases t <;> rfl

@[simp] theorem performTransfer_bpu_geometry (t : Transfer) (s : State) :
    (performTransfer t s).bpu.geometry = s.bpu.geometry := by
  cases t <;> rfl

@[simp] theorem performTransfer_bpu_guard (t : Transfer) (s : State) :
    (performTransfer t s).bpu.guard = s.bpu.guard := by
  cases t <;> rfl

@[simp] theorem performTransfer_bpu_latch (t : Transfer) (s : State) :
    (performTransfer t s).bpu.latch = s.bpu.latch := by
  cases t <;> rfl

@[simp] theorem performTransfer_bpu_waiting (t : Transfer) (s : State) :
    (performTransfer t s).bpu.waiting = s.bpu.waiting := by
  cases t <;> rfl

@[simp] theorem performTransfer_asu_records (t : Transfer) (s : State) :
    (performTransfer t s).asu.records = s.asu.records := by
  cases t <;> rfl

@[simp] theorem performTransfer_asu_masks (t : Transfer) (s : State) :
    (performTransfer t s).asu.masks = s.asu.masks := by
  cases t <;> rfl

@[simp] theorem performTransfer_asu_offer (t : Transfer) (s : State) :
    (performTransfer t s).asu.offer = s.asu.offer := by
  cases t <;> rfl

@[simp] theorem performTransfer_asu_statusTimer (t : Transfer) (s : State) :
    (performTransfer t s).asu.statusTimer = s.asu.statusTimer := by
  cases t <;> rfl

@[simp] theorem performTransfer_lcu_engine (t : Transfer) (s : State) :
    (performTransfer t s).lcu.engine = s.lcu.engine := by
  cases t <;> rfl

@[simp] theorem performTransfer_lcu_faults (t : Transfer) (s : State) :
    (performTransfer t s).lcu.faults = s.lcu.faults := by
  cases t <;> rfl

@[simp] theorem performTransfer_rrd_producer (t : Transfer) (s : State) :
    (performTransfer t s).rrd.producer = s.rrd.producer := by
  cases t <;> rfl

@[simp] theorem performTransfer_rrd_take (t : Transfer) (s : State) :
    (performTransfer t s).rrd.take = s.rrd.take := by
  cases t <;> rfl

@[simp] theorem performTransfer_rrd_walk (t : Transfer) (s : State) :
    (performTransfer t s).rrd.walk = s.rrd.walk := by
  cases t <;> rfl

@[simp] theorem performTransfer_rrd_retire (t : Transfer) (s : State) :
    (performTransfer t s).rrd.retire = s.rrd.retire := by
  cases t <;> rfl

@[simp] theorem performTransfer_rrd_table (t : Transfer) (s : State) :
    (performTransfer t s).rrd.table = s.rrd.table := by
  cases t <;> rfl

@[simp] theorem performTransfer_rrd_hold (t : Transfer) (s : State) :
    (performTransfer t s).rrd.hold = s.rrd.hold := by
  cases t <;> rfl

@[simp] theorem performTransfer_rrd_inside (t : Transfer) (s : State) :
    (performTransfer t s).rrd.inside = s.rrd.inside := by
  cases t <;> rfl

@[simp] theorem performTransfer_rrd_label (t : Transfer) (s : State) :
    (performTransfer t s).rrd.label = s.rrd.label := by
  cases t <;> rfl

/-- A read leaves memory as it stands. -/
theorem performTransfer_mem (t : Transfer) (s : State) (h : t.isDescriptor = true) :
    (performTransfer t s).mem = s.mem := by
  cases t <;> first | rfl | cases h

/-- R183: a transfer writes no byte but its own. -/
theorem performTransfer_read (t : Transfer) (s : State) {a : Nat} (h : ¬ t.writes s.anchor a) :
    (performTransfer t s).mem.read a = s.mem.read a := by
  cases t with
  | outcome at_ d => exact State.store_read_ne s at_ _ (by rw [leBytes_length]; exact h)
  | vector =>
    refine State.store_read_ne s _ _ ?_
    have : (vectorBytes s).length = 4 := by
      unfold vectorBytes
      split <;> simp
    rw [this]
    exact h
  | statusOdd => exact State.store_read_ne s _ _ (by rw [leBytes_length]; exact h)
  | statusBody k =>
    refine State.store_read_ne s _ _ ?_
    rintro ⟨i, hi, ha⟩
    simp only [List.length_take, List.length_drop, Config.transferBytes, Config.bodyBytes] at hi
    exact h ⟨i, by split <;> omega, ha⟩
  | statusEven => exact State.store_read_ne s _ _ (by rw [leBytes_length]; exact h)
  | _ => rfl

/-- A transfer keeps the canonical form. -/
theorem performTransfer_wf (t : Transfer) (s : State) (h : Memory.wf s.mem = true) :
    Memory.wf (performTransfer t s).mem = true := by
  cases t <;> first | exact h | exact State.store_wf h _ _

/-! ## Grants -/

/-- R32: the transfer granted is one that waits. -/
theorem nextTransfer_mem (w : List Transfer) (t : Transfer) (h : nextTransfer w = some t) :
    t ∈ w := by
  unfold nextTransfer at h
  split at h
  · next u hu =>
    cases h
    exact List.mem_of_find?_eq_some hu
  · split at h
    · next u hu =>
      split at h
      · next hc =>
        cases h
        simp only [Bool.and_eq_true] at hc
        simpa using hc.2
      · cases h
        exact List.mem_of_mem_head? hu
    · cases h

/-- R32: while a descriptor fetch waits, a descriptor fetch is granted. -/
theorem nextTransfer_descriptor (w : List Transfer) (h : ∃ t ∈ w, t.isDescriptor = true) :
    ∃ t, nextTransfer w = some t ∧ t.isDescriptor = true := by
  unfold nextTransfer
  cases hf : w.find? Transfer.isDescriptor with
  | some t => exact ⟨t, rfl, List.find?_some hf⟩
  | none =>
    obtain ⟨t, ht, hd⟩ := h
    exact absurd hd (by simpa using List.find?_eq_none.mp hf t ht)

@[simp] theorem grantNext_pending (s : State) : (grantNext s).pending = s.pending := by
  unfold grantNext grantRow
  split
  · rfl
  · split <;> simp

@[simp] theorem grantNext_settings (s : State) : (grantNext s).settings = s.settings := by
  unfold grantNext grantRow
  split
  · rfl
  · split <;> simp

@[simp] theorem grantNext_prescaler (s : State) : (grantNext s).prescaler = s.prescaler := by
  unfold grantNext grantRow
  split
  · rfl
  · split <;> simp

@[simp] theorem grantNext_bht (s : State) : (grantNext s).bht = s.bht := by
  unfold grantNext grantRow
  split
  · rfl
  · split <;> simp

@[simp] theorem grantNext_seu (s : State) : (grantNext s).seu = s.seu := by
  unfold grantNext grantRow
  split
  · rfl
  · split <;> simp

@[simp] theorem grantNext_hdu (s : State) : (grantNext s).hdu = s.hdu := by
  unfold grantNext grantRow
  split
  · rfl
  · split <;> simp

@[simp] theorem grantNext_mtu (s : State) : (grantNext s).mtu = s.mtu := by
  unfold grantNext grantRow
  split
  · rfl
  · split <;> simp

@[simp] theorem grantNext_msu (s : State) : (grantNext s).msu = s.msu := by
  unfold grantNext grantRow
  split
  · rfl
  · split <;> simp

@[simp] theorem grantNext_htu (s : State) : (grantNext s).htu = s.htu := by
  unfold grantNext grantRow
  split
  · rfl
  · split <;> simp

@[simp] theorem grantNext_bpu_resetLine (s : State) : (grantNext s).bpu.resetLine = s.bpu.resetLine := by
  unfold grantNext grantRow
  split
  · rfl
  · split <;> simp

@[simp] theorem grantNext_bpu_straps (s : State) : (grantNext s).bpu.straps = s.bpu.straps := by
  unfold grantNext grantRow
  split
  · rfl
  · split <;> simp

@[simp] theorem grantNext_bpu_engagement (s : State) : (grantNext s).bpu.engagement = s.bpu.engagement := by
  unfold grantNext grantRow
  split
  · rfl
  · split <;> simp

@[simp] theorem grantNext_bpu_geometry (s : State) : (grantNext s).bpu.geometry = s.bpu.geometry := by
  unfold grantNext grantRow
  split
  · rfl
  · split <;> simp

@[simp] theorem grantNext_bpu_guard (s : State) : (grantNext s).bpu.guard = s.bpu.guard := by
  unfold grantNext grantRow
  split
  · rfl
  · split <;> simp

@[simp] theorem grantNext_bpu_latch (s : State) : (grantNext s).bpu.latch = s.bpu.latch := by
  unfold grantNext grantRow
  split
  · rfl
  · split <;> simp

@[simp] theorem grantNext_asu_records (s : State) : (grantNext s).asu.records = s.asu.records := by
  unfold grantNext grantRow
  split
  · rfl
  · split <;> simp

@[simp] theorem grantNext_asu_masks (s : State) : (grantNext s).asu.masks = s.asu.masks := by
  unfold grantNext grantRow
  split
  · rfl
  · split <;> simp

@[simp] theorem grantNext_asu_offer (s : State) : (grantNext s).asu.offer = s.asu.offer := by
  unfold grantNext grantRow
  split
  · rfl
  · split <;> simp

@[simp] theorem grantNext_asu_statusTimer (s : State) : (grantNext s).asu.statusTimer = s.asu.statusTimer := by
  unfold grantNext grantRow
  split
  · rfl
  · split <;> simp

@[simp] theorem grantNext_lcu_engine (s : State) : (grantNext s).lcu.engine = s.lcu.engine := by
  unfold grantNext grantRow
  split
  · rfl
  · split <;> simp

@[simp] theorem grantNext_lcu_faults (s : State) : (grantNext s).lcu.faults = s.lcu.faults := by
  unfold grantNext grantRow
  split
  · rfl
  · split <;> simp

@[simp] theorem grantNext_rrd_producer (s : State) : (grantNext s).rrd.producer = s.rrd.producer := by
  unfold grantNext grantRow
  split
  · rfl
  · split <;> simp

@[simp] theorem grantNext_rrd_take (s : State) : (grantNext s).rrd.take = s.rrd.take := by
  unfold grantNext grantRow
  split
  · rfl
  · split <;> simp

@[simp] theorem grantNext_rrd_walk (s : State) : (grantNext s).rrd.walk = s.rrd.walk := by
  unfold grantNext grantRow
  split
  · rfl
  · split <;> simp

@[simp] theorem grantNext_rrd_retire (s : State) : (grantNext s).rrd.retire = s.rrd.retire := by
  unfold grantNext grantRow
  split
  · rfl
  · split <;> simp

@[simp] theorem grantNext_rrd_table (s : State) : (grantNext s).rrd.table = s.rrd.table := by
  unfold grantNext grantRow
  split
  · rfl
  · split <;> simp

@[simp] theorem grantNext_rrd_hold (s : State) : (grantNext s).rrd.hold = s.rrd.hold := by
  unfold grantNext grantRow
  split
  · rfl
  · split <;> simp

@[simp] theorem grantNext_rrd_inside (s : State) : (grantNext s).rrd.inside = s.rrd.inside := by
  unfold grantNext grantRow
  split
  · rfl
  · split <;> simp

@[simp] theorem grantNext_rrd_label (s : State) : (grantNext s).rrd.label = s.rrd.label := by
  unfold grantNext grantRow
  split
  · rfl
  · split <;> simp

/-- A grant keeps the canonical form of memory. -/
theorem grantNext_wf (s : State) (h : Memory.wf s.mem = true) :
    Memory.wf (grantNext s).mem = true := by
  unfold grantNext grantRow
  split
  · exact h
  · split
    · exact performTransfer_wf _ _ h
    · exact h

/-- A property that every grant keeps is kept by any number of them. -/
theorem grantUntil_keeps (P : State → Prop) (hg : ∀ s, P s → P (grantNext s)) (done : State → Bool)
    (n : Nat) (s : State) (h : P s) : P (grantUntil done n s) := by
  induction n generalizing s with
  | zero => exact h
  | succ n ih =>
    unfold grantUntil
    split
    · exact h
    · exact ih _ (hg s h)

theorem grantAll_keeps (P : State → Prop) (hg : ∀ s, P s → P (grantNext s)) (p : Transfer → Bool)
    (s : State) (h : P s) : P (grantAll p s) := grantUntil_keeps P hg _ _ s h

theorem grantOne_keeps (P : State → Prop) (hg : ∀ s, P s → P (grantNext s)) (p : Transfer → Bool)
    (s : State) (h : P s) : P (grantOne p s) := by
  unfold grantOne
  split
  · exact grantUntil_keeps P hg _ _ s h
  · exact h

/-- Nothing is granted when no transfer named waits. -/
theorem grantAll_none (p : Transfer → Bool) (s : State) (h : s.bpu.waiting.any p = false) :
    grantAll p s = s := by
  unfold grantAll State.portFuel rowFuel
  rw [Nat.add_comm]
  simp [grantUntil, h]

@[simp] theorem grantAll_pending (p : Transfer → Bool) (s : State) :
    (grantAll p s).pending = s.pending :=
  grantAll_keeps (fun t => t.pending = s.pending) (fun t h => by rw [grantNext_pending, h]) p s rfl

@[simp] theorem grantOne_pending (p : Transfer → Bool) (s : State) :
    (grantOne p s).pending = s.pending :=
  grantOne_keeps (fun t => t.pending = s.pending) (fun t h => by rw [grantNext_pending, h]) p s rfl

@[simp] theorem grantAll_settings (p : Transfer → Bool) (s : State) :
    (grantAll p s).settings = s.settings :=
  grantAll_keeps (fun t => t.settings = s.settings) (fun t h => by rw [grantNext_settings, h]) p s rfl

@[simp] theorem grantOne_settings (p : Transfer → Bool) (s : State) :
    (grantOne p s).settings = s.settings :=
  grantOne_keeps (fun t => t.settings = s.settings) (fun t h => by rw [grantNext_settings, h]) p s rfl

@[simp] theorem grantAll_prescaler (p : Transfer → Bool) (s : State) :
    (grantAll p s).prescaler = s.prescaler :=
  grantAll_keeps (fun t => t.prescaler = s.prescaler) (fun t h => by rw [grantNext_prescaler, h]) p s rfl

@[simp] theorem grantOne_prescaler (p : Transfer → Bool) (s : State) :
    (grantOne p s).prescaler = s.prescaler :=
  grantOne_keeps (fun t => t.prescaler = s.prescaler) (fun t h => by rw [grantNext_prescaler, h]) p s rfl

@[simp] theorem grantAll_bht (p : Transfer → Bool) (s : State) :
    (grantAll p s).bht = s.bht :=
  grantAll_keeps (fun t => t.bht = s.bht) (fun t h => by rw [grantNext_bht, h]) p s rfl

@[simp] theorem grantOne_bht (p : Transfer → Bool) (s : State) :
    (grantOne p s).bht = s.bht :=
  grantOne_keeps (fun t => t.bht = s.bht) (fun t h => by rw [grantNext_bht, h]) p s rfl

@[simp] theorem grantAll_seu (p : Transfer → Bool) (s : State) :
    (grantAll p s).seu = s.seu :=
  grantAll_keeps (fun t => t.seu = s.seu) (fun t h => by rw [grantNext_seu, h]) p s rfl

@[simp] theorem grantOne_seu (p : Transfer → Bool) (s : State) :
    (grantOne p s).seu = s.seu :=
  grantOne_keeps (fun t => t.seu = s.seu) (fun t h => by rw [grantNext_seu, h]) p s rfl

@[simp] theorem grantAll_hdu (p : Transfer → Bool) (s : State) :
    (grantAll p s).hdu = s.hdu :=
  grantAll_keeps (fun t => t.hdu = s.hdu) (fun t h => by rw [grantNext_hdu, h]) p s rfl

@[simp] theorem grantOne_hdu (p : Transfer → Bool) (s : State) :
    (grantOne p s).hdu = s.hdu :=
  grantOne_keeps (fun t => t.hdu = s.hdu) (fun t h => by rw [grantNext_hdu, h]) p s rfl

@[simp] theorem grantAll_mtu (p : Transfer → Bool) (s : State) :
    (grantAll p s).mtu = s.mtu :=
  grantAll_keeps (fun t => t.mtu = s.mtu) (fun t h => by rw [grantNext_mtu, h]) p s rfl

@[simp] theorem grantOne_mtu (p : Transfer → Bool) (s : State) :
    (grantOne p s).mtu = s.mtu :=
  grantOne_keeps (fun t => t.mtu = s.mtu) (fun t h => by rw [grantNext_mtu, h]) p s rfl

@[simp] theorem grantAll_msu (p : Transfer → Bool) (s : State) :
    (grantAll p s).msu = s.msu :=
  grantAll_keeps (fun t => t.msu = s.msu) (fun t h => by rw [grantNext_msu, h]) p s rfl

@[simp] theorem grantOne_msu (p : Transfer → Bool) (s : State) :
    (grantOne p s).msu = s.msu :=
  grantOne_keeps (fun t => t.msu = s.msu) (fun t h => by rw [grantNext_msu, h]) p s rfl

@[simp] theorem grantAll_htu (p : Transfer → Bool) (s : State) :
    (grantAll p s).htu = s.htu :=
  grantAll_keeps (fun t => t.htu = s.htu) (fun t h => by rw [grantNext_htu, h]) p s rfl

@[simp] theorem grantOne_htu (p : Transfer → Bool) (s : State) :
    (grantOne p s).htu = s.htu :=
  grantOne_keeps (fun t => t.htu = s.htu) (fun t h => by rw [grantNext_htu, h]) p s rfl

@[simp] theorem grantAll_bpu_resetLine (p : Transfer → Bool) (s : State) :
    (grantAll p s).bpu.resetLine = s.bpu.resetLine :=
  grantAll_keeps (fun t => t.bpu.resetLine = s.bpu.resetLine) (fun t h => by rw [grantNext_bpu_resetLine, h]) p s rfl

@[simp] theorem grantOne_bpu_resetLine (p : Transfer → Bool) (s : State) :
    (grantOne p s).bpu.resetLine = s.bpu.resetLine :=
  grantOne_keeps (fun t => t.bpu.resetLine = s.bpu.resetLine) (fun t h => by rw [grantNext_bpu_resetLine, h]) p s rfl

@[simp] theorem grantAll_bpu_straps (p : Transfer → Bool) (s : State) :
    (grantAll p s).bpu.straps = s.bpu.straps :=
  grantAll_keeps (fun t => t.bpu.straps = s.bpu.straps) (fun t h => by rw [grantNext_bpu_straps, h]) p s rfl

@[simp] theorem grantOne_bpu_straps (p : Transfer → Bool) (s : State) :
    (grantOne p s).bpu.straps = s.bpu.straps :=
  grantOne_keeps (fun t => t.bpu.straps = s.bpu.straps) (fun t h => by rw [grantNext_bpu_straps, h]) p s rfl

@[simp] theorem grantAll_bpu_engagement (p : Transfer → Bool) (s : State) :
    (grantAll p s).bpu.engagement = s.bpu.engagement :=
  grantAll_keeps (fun t => t.bpu.engagement = s.bpu.engagement) (fun t h => by rw [grantNext_bpu_engagement, h]) p s rfl

@[simp] theorem grantOne_bpu_engagement (p : Transfer → Bool) (s : State) :
    (grantOne p s).bpu.engagement = s.bpu.engagement :=
  grantOne_keeps (fun t => t.bpu.engagement = s.bpu.engagement) (fun t h => by rw [grantNext_bpu_engagement, h]) p s rfl

@[simp] theorem grantAll_bpu_geometry (p : Transfer → Bool) (s : State) :
    (grantAll p s).bpu.geometry = s.bpu.geometry :=
  grantAll_keeps (fun t => t.bpu.geometry = s.bpu.geometry) (fun t h => by rw [grantNext_bpu_geometry, h]) p s rfl

@[simp] theorem grantOne_bpu_geometry (p : Transfer → Bool) (s : State) :
    (grantOne p s).bpu.geometry = s.bpu.geometry :=
  grantOne_keeps (fun t => t.bpu.geometry = s.bpu.geometry) (fun t h => by rw [grantNext_bpu_geometry, h]) p s rfl

@[simp] theorem grantAll_bpu_guard (p : Transfer → Bool) (s : State) :
    (grantAll p s).bpu.guard = s.bpu.guard :=
  grantAll_keeps (fun t => t.bpu.guard = s.bpu.guard) (fun t h => by rw [grantNext_bpu_guard, h]) p s rfl

@[simp] theorem grantOne_bpu_guard (p : Transfer → Bool) (s : State) :
    (grantOne p s).bpu.guard = s.bpu.guard :=
  grantOne_keeps (fun t => t.bpu.guard = s.bpu.guard) (fun t h => by rw [grantNext_bpu_guard, h]) p s rfl

@[simp] theorem grantAll_bpu_latch (p : Transfer → Bool) (s : State) :
    (grantAll p s).bpu.latch = s.bpu.latch :=
  grantAll_keeps (fun t => t.bpu.latch = s.bpu.latch) (fun t h => by rw [grantNext_bpu_latch, h]) p s rfl

@[simp] theorem grantOne_bpu_latch (p : Transfer → Bool) (s : State) :
    (grantOne p s).bpu.latch = s.bpu.latch :=
  grantOne_keeps (fun t => t.bpu.latch = s.bpu.latch) (fun t h => by rw [grantNext_bpu_latch, h]) p s rfl

@[simp] theorem grantAll_asu_records (p : Transfer → Bool) (s : State) :
    (grantAll p s).asu.records = s.asu.records :=
  grantAll_keeps (fun t => t.asu.records = s.asu.records) (fun t h => by rw [grantNext_asu_records, h]) p s rfl

@[simp] theorem grantOne_asu_records (p : Transfer → Bool) (s : State) :
    (grantOne p s).asu.records = s.asu.records :=
  grantOne_keeps (fun t => t.asu.records = s.asu.records) (fun t h => by rw [grantNext_asu_records, h]) p s rfl

@[simp] theorem grantAll_asu_masks (p : Transfer → Bool) (s : State) :
    (grantAll p s).asu.masks = s.asu.masks :=
  grantAll_keeps (fun t => t.asu.masks = s.asu.masks) (fun t h => by rw [grantNext_asu_masks, h]) p s rfl

@[simp] theorem grantOne_asu_masks (p : Transfer → Bool) (s : State) :
    (grantOne p s).asu.masks = s.asu.masks :=
  grantOne_keeps (fun t => t.asu.masks = s.asu.masks) (fun t h => by rw [grantNext_asu_masks, h]) p s rfl

@[simp] theorem grantAll_asu_offer (p : Transfer → Bool) (s : State) :
    (grantAll p s).asu.offer = s.asu.offer :=
  grantAll_keeps (fun t => t.asu.offer = s.asu.offer) (fun t h => by rw [grantNext_asu_offer, h]) p s rfl

@[simp] theorem grantOne_asu_offer (p : Transfer → Bool) (s : State) :
    (grantOne p s).asu.offer = s.asu.offer :=
  grantOne_keeps (fun t => t.asu.offer = s.asu.offer) (fun t h => by rw [grantNext_asu_offer, h]) p s rfl

@[simp] theorem grantAll_asu_statusTimer (p : Transfer → Bool) (s : State) :
    (grantAll p s).asu.statusTimer = s.asu.statusTimer :=
  grantAll_keeps (fun t => t.asu.statusTimer = s.asu.statusTimer) (fun t h => by rw [grantNext_asu_statusTimer, h]) p s rfl

@[simp] theorem grantOne_asu_statusTimer (p : Transfer → Bool) (s : State) :
    (grantOne p s).asu.statusTimer = s.asu.statusTimer :=
  grantOne_keeps (fun t => t.asu.statusTimer = s.asu.statusTimer) (fun t h => by rw [grantNext_asu_statusTimer, h]) p s rfl

@[simp] theorem grantAll_lcu_engine (p : Transfer → Bool) (s : State) :
    (grantAll p s).lcu.engine = s.lcu.engine :=
  grantAll_keeps (fun t => t.lcu.engine = s.lcu.engine) (fun t h => by rw [grantNext_lcu_engine, h]) p s rfl

@[simp] theorem grantOne_lcu_engine (p : Transfer → Bool) (s : State) :
    (grantOne p s).lcu.engine = s.lcu.engine :=
  grantOne_keeps (fun t => t.lcu.engine = s.lcu.engine) (fun t h => by rw [grantNext_lcu_engine, h]) p s rfl

@[simp] theorem grantAll_lcu_faults (p : Transfer → Bool) (s : State) :
    (grantAll p s).lcu.faults = s.lcu.faults :=
  grantAll_keeps (fun t => t.lcu.faults = s.lcu.faults) (fun t h => by rw [grantNext_lcu_faults, h]) p s rfl

@[simp] theorem grantOne_lcu_faults (p : Transfer → Bool) (s : State) :
    (grantOne p s).lcu.faults = s.lcu.faults :=
  grantOne_keeps (fun t => t.lcu.faults = s.lcu.faults) (fun t h => by rw [grantNext_lcu_faults, h]) p s rfl

@[simp] theorem grantAll_rrd_producer (p : Transfer → Bool) (s : State) :
    (grantAll p s).rrd.producer = s.rrd.producer :=
  grantAll_keeps (fun t => t.rrd.producer = s.rrd.producer) (fun t h => by rw [grantNext_rrd_producer, h]) p s rfl

@[simp] theorem grantOne_rrd_producer (p : Transfer → Bool) (s : State) :
    (grantOne p s).rrd.producer = s.rrd.producer :=
  grantOne_keeps (fun t => t.rrd.producer = s.rrd.producer) (fun t h => by rw [grantNext_rrd_producer, h]) p s rfl

@[simp] theorem grantAll_rrd_take (p : Transfer → Bool) (s : State) :
    (grantAll p s).rrd.take = s.rrd.take :=
  grantAll_keeps (fun t => t.rrd.take = s.rrd.take) (fun t h => by rw [grantNext_rrd_take, h]) p s rfl

@[simp] theorem grantOne_rrd_take (p : Transfer → Bool) (s : State) :
    (grantOne p s).rrd.take = s.rrd.take :=
  grantOne_keeps (fun t => t.rrd.take = s.rrd.take) (fun t h => by rw [grantNext_rrd_take, h]) p s rfl

@[simp] theorem grantAll_rrd_walk (p : Transfer → Bool) (s : State) :
    (grantAll p s).rrd.walk = s.rrd.walk :=
  grantAll_keeps (fun t => t.rrd.walk = s.rrd.walk) (fun t h => by rw [grantNext_rrd_walk, h]) p s rfl

@[simp] theorem grantOne_rrd_walk (p : Transfer → Bool) (s : State) :
    (grantOne p s).rrd.walk = s.rrd.walk :=
  grantOne_keeps (fun t => t.rrd.walk = s.rrd.walk) (fun t h => by rw [grantNext_rrd_walk, h]) p s rfl

@[simp] theorem grantAll_rrd_retire (p : Transfer → Bool) (s : State) :
    (grantAll p s).rrd.retire = s.rrd.retire :=
  grantAll_keeps (fun t => t.rrd.retire = s.rrd.retire) (fun t h => by rw [grantNext_rrd_retire, h]) p s rfl

@[simp] theorem grantOne_rrd_retire (p : Transfer → Bool) (s : State) :
    (grantOne p s).rrd.retire = s.rrd.retire :=
  grantOne_keeps (fun t => t.rrd.retire = s.rrd.retire) (fun t h => by rw [grantNext_rrd_retire, h]) p s rfl

@[simp] theorem grantAll_rrd_table (p : Transfer → Bool) (s : State) :
    (grantAll p s).rrd.table = s.rrd.table :=
  grantAll_keeps (fun t => t.rrd.table = s.rrd.table) (fun t h => by rw [grantNext_rrd_table, h]) p s rfl

@[simp] theorem grantOne_rrd_table (p : Transfer → Bool) (s : State) :
    (grantOne p s).rrd.table = s.rrd.table :=
  grantOne_keeps (fun t => t.rrd.table = s.rrd.table) (fun t h => by rw [grantNext_rrd_table, h]) p s rfl

@[simp] theorem grantAll_rrd_hold (p : Transfer → Bool) (s : State) :
    (grantAll p s).rrd.hold = s.rrd.hold :=
  grantAll_keeps (fun t => t.rrd.hold = s.rrd.hold) (fun t h => by rw [grantNext_rrd_hold, h]) p s rfl

@[simp] theorem grantOne_rrd_hold (p : Transfer → Bool) (s : State) :
    (grantOne p s).rrd.hold = s.rrd.hold :=
  grantOne_keeps (fun t => t.rrd.hold = s.rrd.hold) (fun t h => by rw [grantNext_rrd_hold, h]) p s rfl

@[simp] theorem grantAll_rrd_inside (p : Transfer → Bool) (s : State) :
    (grantAll p s).rrd.inside = s.rrd.inside :=
  grantAll_keeps (fun t => t.rrd.inside = s.rrd.inside) (fun t h => by rw [grantNext_rrd_inside, h]) p s rfl

@[simp] theorem grantOne_rrd_inside (p : Transfer → Bool) (s : State) :
    (grantOne p s).rrd.inside = s.rrd.inside :=
  grantOne_keeps (fun t => t.rrd.inside = s.rrd.inside) (fun t h => by rw [grantNext_rrd_inside, h]) p s rfl

@[simp] theorem grantAll_rrd_label (p : Transfer → Bool) (s : State) :
    (grantAll p s).rrd.label = s.rrd.label :=
  grantAll_keeps (fun t => t.rrd.label = s.rrd.label) (fun t h => by rw [grantNext_rrd_label, h]) p s rfl

@[simp] theorem grantOne_rrd_label (p : Transfer → Bool) (s : State) :
    (grantOne p s).rrd.label = s.rrd.label :=
  grantOne_keeps (fun t => t.rrd.label = s.rrd.label) (fun t h => by rw [grantNext_rrd_label, h]) p s rfl

/-- R33: urgent row fetches change the line buffer alone. -/
theorem grantUrgent_eq (n : Nat) (s : State) :
    grantUrgent n s = { s with rsu.buffer := (grantUrgent n s).rsu.buffer } := by
  induction n generalizing s with
  | zero => rfl
  | succ n ih =>
    unfold grantUrgent
    split
    · rw [ih]
      rfl
    · rfl

/-- R33: a processor cycle waits for row fetches alone. -/
theorem serveUrgent_eq (s : State) :
    serveUrgent s = { s with rsu.buffer := (serveUrgent s).rsu.buffer } := grantUrgent_eq _ s

@[simp] theorem serveUrgent_mem (s : State) : (serveUrgent s).mem = s.mem := by
  rw [serveUrgent_eq]

@[simp] theorem serveUrgent_pending (s : State) : (serveUrgent s).pending = s.pending := by
  rw [serveUrgent_eq]

@[simp] theorem serveUrgent_settings (s : State) : (serveUrgent s).settings = s.settings := by
  rw [serveUrgent_eq]

@[simp] theorem serveUrgent_prescaler (s : State) : (serveUrgent s).prescaler = s.prescaler := by
  rw [serveUrgent_eq]

@[simp] theorem serveUrgent_bpu (s : State) : (serveUrgent s).bpu = s.bpu := by
  rw [serveUrgent_eq]

@[simp] theorem serveUrgent_bht (s : State) : (serveUrgent s).bht = s.bht := by
  rw [serveUrgent_eq]

@[simp] theorem serveUrgent_rrd (s : State) : (serveUrgent s).rrd = s.rrd := by
  rw [serveUrgent_eq]

@[simp] theorem serveUrgent_lcu (s : State) : (serveUrgent s).lcu = s.lcu := by
  rw [serveUrgent_eq]

@[simp] theorem serveUrgent_seu (s : State) : (serveUrgent s).seu = s.seu := by
  rw [serveUrgent_eq]

@[simp] theorem serveUrgent_hdu (s : State) : (serveUrgent s).hdu = s.hdu := by
  rw [serveUrgent_eq]

@[simp] theorem serveUrgent_mtu (s : State) : (serveUrgent s).mtu = s.mtu := by
  rw [serveUrgent_eq]

@[simp] theorem serveUrgent_msu (s : State) : (serveUrgent s).msu = s.msu := by
  rw [serveUrgent_eq]

@[simp] theorem serveUrgent_htu (s : State) : (serveUrgent s).htu = s.htu := by
  rw [serveUrgent_eq]

@[simp] theorem serveUrgent_asu (s : State) : (serveUrgent s).asu = s.asu := by
  rw [serveUrgent_eq]

end Sys2Proof.Machine
end

