-- ==== Sys2Proof/Laws/Settle.lean ====
section
/-! SUPPORT. What follows every command, said once: from the command's own effect, settling leaves all
but a few named places as they are. -/

namespace Sys2Proof.Machine

/-- Two status units differ at most in their records and the offer. -/
def Asu.sameBut (a b : Asu) : Prop := b = { a with records := b.records, offer := b.offer }

theorem Asu.sameBut_refl (a : Asu) : a.sameBut a := rfl

theorem Asu.sameBut_trans {a b c : Asu} (h : a.sameBut b) (k : b.sameBut c) : a.sameBut c := by
  unfold Asu.sameBut at *
  rw [k, h]

theorem recomputeOffer_sameBut (n : Option Source) (s : State) :
    s.asu.sameBut (recomputeOffer n s).asu := by
  unfold recomputeOffer requestVector State.request Asu.sameBut
  dsimp only
  split
  · split <;> rfl
  · rfl

theorem raise_sameBut (n : Source) (code : Nat) (arg : BitVec 16) (s : State) :
    s.asu.sameBut (raise n code arg s).asu :=
  Asu.sameBut_trans (b := { s.asu with
    records := s.asu.records.set n ((s.asu.records.get n).record code arg) }) rfl
    (recomputeOffer_sameBut _ _)

theorem raiseRetired_sameBut (e : ItemEntry) (s : State) :
    s.asu.sameBut (raiseRetired e s).asu := by
  unfold raiseRetired
  repeat' split
  all_goals first | rfl | exact raise_sameBut ..

theorem retireItem_sameBut (e : ItemEntry) (s : State) :
    s.asu.sameBut (retireItem e s).asu := by
  unfold retireItem
  dsimp only
  split
  · rfl
  · exact raiseRetired_sameBut e _

theorem retireRun_sameBut (run : List ItemEntry) : ∀ s : State,
    s.asu.sameBut (retireRun run s).asu := by
  induction run with
  | nil => exact fun s => rfl
  | cons e rest ih => exact fun s => Asu.sameBut_trans (retireItem_sameBut e s) (ih _)

theorem endAdvance_sameBut (n : Nat) (i : Idx) (s : State) :
    s.asu.sameBut (endAdvance n i s).asu := by
  unfold endAdvance judgeBandsFree requestRefreshLast
  dsimp only
  split
  · exact raise_sameBut _ _ _ { s with rrd.retire := i }
  · rfl

theorem retireAdvance_sameBut (s : State) : s.asu.sameBut (retireAdvance s).asu := by
  unfold retireAdvance
  split
  · rfl
  · exact Asu.sameBut_trans (retireRun_sameBut _ s)
      (endAdvance_sameBut _ _ { retireRun _ s with rrd.table := _ })

theorem retireRun_threshold (run : List ItemEntry) : ∀ s : State,
    (retireRun run s).bht.threshold = s.bht.threshold := by
  induction run with
  | nil => exact fun s => rfl
  | cons e rest ih =>
    intro s
    rw [retireRun, ih, retireItem_bht]
    unfold Bht.releaseItem
    repeat' split
    all_goals rfl

theorem retireAdvance_threshold (s : State) :
    (retireAdvance s).bht.threshold = s.bht.threshold := by
  unfold retireAdvance
  split
  · rfl
  · simp [retireRun_threshold]

/-- R53: the condition of the model and that of the statements are the same. -/
theorem rereadDue_iff (s : State) : rereadDue s = true ↔ RereadWanted s s.rrd.retire := by
  unfold rereadDue RereadWanted
  simp [and_assoc]

/-- R41: the condition of the model and that of the statements are the same. -/
theorem fetchDue_iff (s : State) : fetchDue s = true ↔ FetchWanted s := by
  unfold fetchDue FetchWanted
  simp [and_assoc]

/-- R53: the reads a start of the re-read asks for. -/
def rereadsFor (s : State) : List Transfer :=
  if rereadDue s then (List.range 16).map Transfer.reread else []

theorem startReread_waiting (s : State) :
    (startReread s).bpu.waiting = s.bpu.waiting ++ rereadsFor s := by
  unfold startReread rereadsFor
  split <;> simp

theorem startReread_reread (s : State) :
    (startReread s).rrd.reread = if rereadDue s then some [] else s.rrd.reread := by
  unfold startReread
  split <;> rfl

theorem startReread_fetchDue (s : State) : fetchDue (startReread s) = fetchDue s := by
  unfold startReread
  split <;> rfl

theorem requestFetch_waiting (s : State) :
    (requestFetch s).bpu.waiting = s.bpu.waiting ++ (if fetchDue s then [.item] else []) := by
  unfold requestFetch State.request
  split <;> simp

theorem requestFetch_fetch (s : State) :
    (requestFetch s).rrd.fetch =
      if fetchDue s then some { index := s.rrd.walk, data := [], doomed := false }
      else s.rrd.fetch := by
  unfold requestFetch State.request
  split <;> rfl

theorem settle_bpu (s : State) :
    (settle s).bpu = { s.bpu with waiting := (settle s).bpu.waiting } := by
  have h (b c : Bpu) (h1 : b.resetLine = c.resetLine) (h2 : b.straps = c.straps)
      (h3 : b.engagement = c.engagement) (h4 : b.reads = c.reads) (h5 : b.geometry = c.geometry)
      (h6 : b.guard = c.guard) (h7 : b.latch = c.latch) :
      b = { c with waiting := b.waiting } := by
    cases b; cases c; simp_all
  apply h <;> simp

theorem startReread_fetch (s : State) : (startReread s).rrd.fetch = s.rrd.fetch := by
  unfold startReread
  split <;> rfl

/-- The state once a retire advance and the line buffer's fill have been made. -/
theorem settle_eq (s : State) :
    settle s = refreshForecast (updateTailRunOn (requestFetch (startReread
      (fillBuffer (retireAdvance s))))) := rfl

/-- R67, R141: the tail run-on after a command. -/
theorem settle_tailRunOn (s : State) : TailRunOnRight (settle s) := by
  have h : (settle s).mtu.tailRunOn = tailRunOnOf (settle s) := by
    rw [settle_eq]
    simp [tailRunOnOf, refreshForecast, State.currentOwner, State.gapped, State.cfg]
  unfold TailRunOnRight
  rw [h]
  generalize settle s = t
  unfold tailRunOnOf State.currentOwner Rsu.atEnd
  cases hp : t.lcu.printing with
  | none => simp
  | some c =>
    cases hb : t.rsu.buffer with
    | nil => cases t.lcu.started <;> simp
    | cons x rest => cases x <;> cases t.lcu.started <;>
        simp [Context.owner, List.isEmpty_iff, and_assoc]

/-- R87: what the head of the stream gives is what a delivery takes. -/
theorem headRow_of_gives {s : State} {dots : Dots} {left : List Slot} {image : Option RepeatImage}
    (h : HeadGives s dots left image) :
    s.rsu.headRow s.geo.blankRow = some (dots, { s.rsu with buffer := left, repeatImage := image }) := by
  cases h with
  | row b r c l got dots rest h => simp [Rsu.headRow, h]
  | repeats n i rest h k => simp [Rsu.headRow, Rsu.repeatFor, runLeft, h, k]
  | repeatsNothing n c l rest h k =>
    rcases e : s.rsu.repeatImage with _ | i
    · simp [Rsu.headRow, Rsu.repeatFor, runLeft, h, e]
    · simp [Rsu.headRow, Rsu.repeatFor, runLeft, h, e, k i e]
  | blank n c l rest h => simp [Rsu.headRow, runLeft, h]
  | endMark c l rest h => simp only [Rsu.headRow, h]; rw [← h]
  | none h => simp only [Rsu.headRow, h]; rw [← h]

/-- R116: the delivery table gives the row of the forecast. -/
theorem forecastOf_right (t : State) (h : t.seu.forecast = forecastOf t) : ForecastRight t := by
  have hs {e : Engine} (k : e.suppliesCopy) : e.forecasts = true := by
    rcases k with rfl | rfl | rfl | ⟨r, rfl⟩ <;> rfl
  refine ⟨?_, ?_, ?_⟩
  · intro c dots left image h1 h2 h3 h4
    rw [h]
    unfold forecastOf
    rw [headRow_of_gives h4]
    simp [Option.isSome_iff_ne_none.mpr h1, hs h2, h3, State.darkness]
  · intro c b r k l got rest h1 h2 h3 h4
    rw [h]
    unfold forecastOf Rsu.headRow
    simp [Option.isSome_iff_ne_none.mpr h1, hs h2, h3, h4, State.darkness, pendingRow]
  · intro k
    rw [h]
    unfold forecastOf
    rw [if_neg]
    · rfl
    · rcases k with k | k | k
      · simp [k]
      · have : t.lcu.engine.forecasts = false := by
          cases he : t.lcu.engine <;> simp_all [Engine.suppliesCopy, Engine.forecasts]
        simp [this]
      · simp [k]

/-- R116, R117, R128: a recomputed forecast and its line time. -/
theorem refreshForecast_right (s : State) : let t := refreshForecast s
    ForecastRight t ∧ t.hdu.forecastTime = t.seu.forecast.time t.geo.dots t.cfg.dotLimit t.cfg.tGap :=
  ⟨forecastOf_right _ rfl, rfl⟩

/-! ## What a retire advance queues -/

/-- R176: an event queues no outcome write. -/
@[simp] theorem raise_outcomes (n : Source) (code : Nat) (arg : BitVec 16) (s : State) :
    (raise n code arg s).bpu.waiting.filter Transfer.isOutcome =
      s.bpu.waiting.filter Transfer.isOutcome := by
  unfold raise recomputeOffer requestVector
  dsimp only
  split
  · split <;> simp [State.request, Transfer.isOutcome]
  · rfl

@[simp] theorem raiseRetired_outcomes (e : ItemEntry) (s : State) :
    (raiseRetired e s).bpu.waiting.filter Transfer.isOutcome =
      s.bpu.waiting.filter Transfer.isOutcome := by
  unfold raiseRetired; repeat' split
  all_goals simp

/-- R10, R55, R56: what the retirement of a run queues: its outcome writes in ring order. -/
theorem retireRun_outcomes (run : List ItemEntry) (s : State) :
    (retireRun run s).bpu.waiting.filter Transfer.isOutcome =
      s.bpu.waiting.filter Transfer.isOutcome ++ outcomesOf s.geo s.bht run := by
  induction run generalizing s with
  | nil => simp [retireRun, outcomesOf]
  | cons e rest ih =>
    have hb : (retireItem e s).bht = s.bht.releaseItem e.index := by
      unfold retireItem; dsimp only; split <;> simp [State.request]
    have hg : (retireItem e s).geo = s.geo := by
      simp [State.geo]
    have hw : (retireItem e s).bpu.waiting.filter Transfer.isOutcome =
        s.bpu.waiting.filter Transfer.isOutcome ++ (if e.silent then [] else
          [.outcome (s.geo.slotAddr e.index + 12)
            (outcomeWord (s.bht.releaseItem e.index) (s.bht.releasedBand e.index) e)]) := by
      unfold retireItem
      dsimp only
      split
      · simp [*]
      · simp [*, State.request, Transfer.isOutcome, State.geo]
    rw [retireRun, ih, hw, hb, hg, outcomesOf, List.append_assoc]

theorem takeWhile_run (s : State) (run rest : List ItemEntry) (h : s.rrd.table = run ++ rest)
    (hr : ∀ e ∈ run, e.complete = true ∧ e.index ≠ s.rrd.walk)
    (hn : ∀ e ∈ rest.head?, e.complete = false ∨ e.index = s.rrd.walk) :
    s.rrd.table.takeWhile (mayRetire s) = run := by
  have hp : ∀ e ∈ run, mayRetire s e = true := fun e he => by
    have := hr e he
    simp [mayRetire, this.1, this.2]
  have hq : rest.takeWhile (mayRetire s) = [] := by
    cases rest with
    | nil => rfl
    | cons e l => simp [(mayRetire_eq_false s e).mpr (hn e (by simp))]
  rw [h, List.takeWhile_append_of_pos hp, hq, List.append_nil]

theorem retireRun_bht (run : List ItemEntry) : ∀ s : State,
    (retireRun run s).bht = run.foldl (fun h e => h.releaseItem e.index) s.bht := by
  induction run with
  | nil => exact fun s => rfl
  | cons e rest ih => intro s; rw [retireRun, ih, retireItem_bht]; rfl

/-- R55: taking a waiting refresh to the end leaves the outcome writes in their order. -/
theorem withoutWaitingRefresh_outcomes (w : List Transfer) :
    (withoutWaitingRefresh w).filter Transfer.isOutcome = w.filter Transfer.isOutcome := by
  induction w with
  | nil => rfl
  | cons x rest ih =>
    cases x
    case statusOdd =>
      rw [withoutWaitingRefresh, List.filter_filter, List.filter_cons]
      simp only [Transfer.isOutcome, Bool.false_eq_true, if_false]
      congr 1
      funext y
      cases y <;> simp [Transfer.isOutcome, refreshTransfers]
    all_goals simp [withoutWaitingRefresh, List.filter_cons, ih]

theorem endAdvance_outcomes (n : Nat) (i : Idx) (s : State) :
    (endAdvance n i s).bpu.waiting.filter Transfer.isOutcome =
      s.bpu.waiting.filter Transfer.isOutcome := by
  unfold endAdvance requestRefreshLast judgeBandsFree
  have h : refreshTransfers.filter Transfer.isOutcome = [] := by decide
  split <;> simp [withoutWaitingRefresh_outcomes, h]

/-- R55, R56, R10: what one advance over the run of items that may retire does. -/
theorem retireAdvance_run (s : State) (run rest : List ItemEntry)
    (h : s.rrd.table = run ++ rest)
    (hr : ∀ e ∈ run, e.complete = true ∧ e.index ≠ s.rrd.walk)
    (hn : ∀ e ∈ rest.head?, e.complete = false ∨ e.index = s.rrd.walk) :
    let t := retireAdvance s
    t.rrd.retire = s.rrd.retire + BitVec.ofNat 16 run.length ∧ t.rrd.table = rest ∧
      t.bht = run.foldl (fun b e => b.releaseItem e.index) s.bht ∧
      t.bpu.waiting.filter Transfer.isOutcome =
        s.bpu.waiting.filter Transfer.isOutcome ++ outcomesOf s.geo s.bht run := by
  have hw := takeWhile_run s run rest h hr hn
  unfold retireAdvance
  rw [hw]
  cases run with
  | nil => simp [h, outcomesOf]
  | cons e l =>
    refine ⟨by simp, by simp [h], ?_, ?_⟩
    · simp only [endAdvance_bht]
      exact retireRun_bht _ s
    · simp only [endAdvance_outcomes]
      exact retireRun_outcomes _ s

/-- What follows a command, said once. -/
theorem settle_followsUp (s : State) : FollowsUp s (settle s) := by
  have hr : (settle s).rrd =
      { s.rrd with retire := (settle s).rrd.retire, table := (settle s).rrd.table,
                   fetch := (settle s).rrd.fetch, reread := (settle s).rrd.reread } := by
    rw [settle_eq]
    simp only [refreshForecast_rrd, updateTailRunOn_rrd]
    rw [requestFetch_rrd, startReread_rrd, fillBuffer_rrd, retireAdvance_rrd]
  have hf : (settle s).rrd.fetch =
      (requestFetch (startReread (fillBuffer (retireAdvance s)))).rrd.fetch := by
    rw [settle_eq]; simp
  have htab : (settle s).rrd.table = (retireAdvance s).rrd.table := by
    rw [settle_eq]
    simp only [refreshForecast_rrd, updateTailRunOn_rrd]
    rw [requestFetch_rrd, startReread_rrd, fillBuffer_rrd]
  have hbht : (settle s).bht = (retireAdvance s).bht := by
    rw [settle_eq]; simp
  have hret : (settle s).rrd.retire = (retireAdvance s).rrd.retire := by
    rw [settle_eq]
    simp only [refreshForecast_rrd, updateTailRunOn_rrd]
    rw [requestFetch_rrd, startReread_rrd, fillBuffer_rrd]
  have hre : (settle s).rrd.reread = (startReread (fillBuffer (retireAdvance s))).rrd.reread := by
    rw [settle_eq]
    simp only [refreshForecast_rrd, updateTailRunOn_rrd]
    rw [requestFetch_rrd]
  have hw : (settle s).bpu.waiting = (retireAdvance s).bpu.waiting ++
      rereadsFor (fillBuffer (retireAdvance s)) ++
        (if fetchDue (fillBuffer (retireAdvance s)) then [.item] else []) := by
    rw [settle_eq]
    simp [requestFetch_waiting, startReread_waiting, startReread_fetchDue]
  have kr : rereadDue (fillBuffer (retireAdvance s)) = true ↔
      RereadWanted s (settle s).rrd.retire := by
    rw [rereadDue_iff, hret]
    unfold RereadWanted
    rw [fillBuffer_rrd, fillBuffer_bpu, retireAdvance_bpu_engagement, retireAdvance_rrd]
  have kf : fetchDue (fillBuffer (retireAdvance s)) = true ↔ FetchWanted s := by
    rw [fetchDue_iff]
    unfold FetchWanted
    rw [fillBuffer_rrd, fillBuffer_bpu, fillBuffer_lcu, retireAdvance_bpu_engagement,
      retireAdvance_lcu, retireAdvance_rrd]
  have hf2 : (settle s).rrd.fetch = if fetchDue (fillBuffer (retireAdvance s)) then
      some { index := s.rrd.walk, data := [], doomed := false } else s.rrd.fetch := by
    rw [hf, requestFetch_fetch, startReread_fetchDue, startReread_rrd, fillBuffer_rrd,
      retireAdvance_rrd]
  have hre2 : (settle s).rrd.reread = if rereadDue (fillBuffer (retireAdvance s)) then
      some [] else s.rrd.reread := by
    rw [hre, startReread_reread, fillBuffer_rrd, retireAdvance_rrd]
  refine ⟨by simp, by simp, by simp, by simp, by simp, by simp, by simp, settle_mtu s,
    settle_hdu s, settle_seu s, settle_bpu s, hr, ?_, ?_, settle_tailRunOn s,
    (refreshForecast_right _).1, (refreshForecast_right _).2, ?_, ?_, ?_, ?_, ?_, ?_, ?_, ?_⟩
  · rw [settle_eq]
    simp only [refreshForecast_rsu, updateTailRunOn_rsu, requestFetch_rsu, startReread_rsu]
    unfold fillBuffer
    simp only [retireAdvance_bpu_engagement, retireAdvance_rsu]
    split <;> simp
  · rw [settle_eq]
    simp only [refreshForecast_asu, updateTailRunOn_asu, requestFetch_asu, startReread_asu,
      fillBuffer_asu]
    exact retireAdvance_sameBut s
  · intro h
    rw [hf2, if_pos (kf.mpr h)]
  · intro h
    rw [hf2, if_neg (mt kf.mp h)]
  · intro h
    rw [hre2, if_pos (kr.mpr h)]
  · intro h
    rw [hre2, if_neg (mt kr.mp h)]
  · rw [settle_eq]
    simp [retireAdvance_threshold]
  · refine ⟨_, _, _, hw, ?_, ?_, ?_, ?_, ?_⟩
    · exact fun h => if_pos (kr.mpr h)
    · exact fun h => if_neg (mt kr.mp h)
    · exact fun h => if_pos (kf.mpr h)
    · exact fun h => if_neg (mt kf.mp h)
    · intro h
      rw [retireAdvance_none s fun e he => (mayRetire_eq_false s e).mpr (h e he)]
  · intro run rest h hrun hn
    obtain ⟨h1, h2, h3, h4⟩ := retireAdvance_run s run rest h hrun hn
    refine ⟨hret.trans h1, htab.trans h2, hbht.trans h3, ?_⟩
    rw [hw, ← h4, List.filter_append, List.filter_append]
    have k1 : (rereadsFor (fillBuffer (retireAdvance s))).filter Transfer.isOutcome = [] := by
      unfold rereadsFor
      split <;> decide
    have k2 : (if fetchDue (fillBuffer (retireAdvance s)) then [Transfer.item] else []).filter
        Transfer.isOutcome = [] := by split <;> decide
    rw [k1, k2, List.append_nil, List.append_nil]
  · intro h
    have hn := retireAdvance_none s fun e he => (mayRetire_eq_false s e).mpr (h e he)
    rw [settle_eq, hn]
    have k : (requestFetch (startReread (fillBuffer s))).rrd.retire = s.rrd.retire ∧
        (requestFetch (startReread (fillBuffer s))).rrd.table = s.rrd.table := by
      rw [requestFetch_rrd, startReread_rrd, fillBuffer_rrd]
      exact ⟨rfl, rfl⟩
    exact ⟨by simpa using k.1, by simpa using k.2, by simp, by simp⟩

end Sys2Proof.Machine
end

