-- ==== Sys2Proof/Laws/Requests.lean ====
section
/-! SUPPORT. Full writes of request words: where they go, what they store, and how a command of the control
word reaches its request. -/

namespace Sys2Proof.Machine

/-! ## The anchor base -/

/-- R19: the anchor block lies inside the memory space. -/
theorem anchor_bound (s : State) : s.anchor + 0x1000 ≤ Config.memorySize := by
  unfold State.anchor State.anchor? anchorOf Config.memorySize
  cases s.bpu.straps with
  | none => decide
  | some k =>
    simp only [Option.map_some, Option.getD_some]
    split <;> decide

/-- Where an anchor base exists, it is the one the accessor gives. -/
theorem anchor_eq {s : State} {a : Nat} (h : s.anchor? = some a) : s.anchor = a := by
  simp [State.anchor, h]

/-! ## Stores -/

/-- A store leaves its bytes at its address and every other byte as it was. -/
theorem storedAt_store (s : State) (a : Nat) (bytes : List Byte)
    (h : bytes.length ≤ Config.memorySize) : StoredAt s (s.store a bytes) a bytes :=
  ⟨fun hw => Memory.readBytes_writeBytes hw a bytes h, fun _ hb => State.store_read_ne s a bytes hb⟩

/-- The memory a store leaves is all that StoredAt reads. -/
theorem storedAt_congr {s u t : State} {a : Nat} {bytes : List Byte} (h : StoredAt s u a bytes)
    (hm : t.mem = u.mem) : StoredAt s t a bytes := by
  unfold StoredAt at *
  rw [hm]
  exact h

/-- The same, for the state stored from. -/
theorem storedAt_from {s r t : State} {a : Nat} {bytes : List Byte} (h : StoredAt r t a bytes)
    (hm : r.mem = s.mem) : StoredAt s t a bytes := by
  unfold StoredAt at *
  rw [← hm]
  exact h

/-! ## A request word written -/

@[simp] theorem requested_pending (s : State) (off : Nat) (v : BitVec 32) :
    (requested s off v).pending = s.pending := by simp [requested]

@[simp] theorem requested_settings (s : State) (off : Nat) (v : BitVec 32) :
    (requested s off v).settings = s.settings := by simp [requested]

@[simp] theorem requested_prescaler (s : State) (off : Nat) (v : BitVec 32) :
    (requested s off v).prescaler = s.prescaler := by simp [requested]

@[simp] theorem requested_bpu (s : State) (off : Nat) (v : BitVec 32) :
    (requested s off v).bpu = s.bpu := by simp [requested]

@[simp] theorem requested_bht (s : State) (off : Nat) (v : BitVec 32) :
    (requested s off v).bht = s.bht := by simp [requested]

@[simp] theorem requested_rrd (s : State) (off : Nat) (v : BitVec 32) :
    (requested s off v).rrd = s.rrd := by simp [requested]

@[simp] theorem requested_lcu (s : State) (off : Nat) (v : BitVec 32) :
    (requested s off v).lcu = s.lcu := by simp [requested]

@[simp] theorem requested_seu (s : State) (off : Nat) (v : BitVec 32) :
    (requested s off v).seu = s.seu := by simp [requested]

@[simp] theorem requested_hdu (s : State) (off : Nat) (v : BitVec 32) :
    (requested s off v).hdu = s.hdu := by simp [requested]

@[simp] theorem requested_mtu (s : State) (off : Nat) (v : BitVec 32) :
    (requested s off v).mtu = s.mtu := by simp [requested]

@[simp] theorem requested_msu (s : State) (off : Nat) (v : BitVec 32) :
    (requested s off v).msu = s.msu := by simp [requested]

@[simp] theorem requested_htu (s : State) (off : Nat) (v : BitVec 32) :
    (requested s off v).htu = s.htu := by simp [requested]

@[simp] theorem requested_asu (s : State) (off : Nat) (v : BitVec 32) :
    (requested s off v).asu = s.asu := by simp [requested]

/-- R18: the written word is in memory and every other byte is as it was. -/
theorem requested_storedAt (s : State) (off : Nat) (v : BitVec 32) :
    StoredAt s (requested s off v) (s.anchor + off) (leBytes 4 v.toNat) :=
  storedAt_from (storedAt_store (serveUrgent s) _ _ (by simp [Config.memorySize])) (by simp)

/-- R20: with an anchor base the word is written and then acted on. -/
theorem requestWrite_eq {s : State} (h : s.anchor? ≠ none) (off : Nat) (v : BitVec 32) :
    requestWrite off v s = actOn off v (requested s off v) := by
  obtain ⟨a, ha⟩ := Option.ne_none_iff_exists'.mp h
  simp [requestWrite, ha, requested, anchor_eq ha]

/-- Without an anchor base nothing happens (log 8). -/
theorem requestWrite_none {s : State} (h : s.anchor? = none) (off : Nat) (v : BitVec 32) :
    requestWrite off v s = s := by
  simp [requestWrite, h]

/-- R77: a full write of the control word reaches the Label Control Unit, except while ENGAGING. -/
theorem controlWrite_eq {s : State} (h : s.anchor? ≠ none) (he : s.bpu.engagement ≠ .engaging)
    (v : BitVec 32) : controlWrite v s = takeControl v (requested s 4 v) := by
  rw [controlWrite, requestWrite_eq h]
  simp [actOn, he]

/-! ## The step -/

/-- The command at the front of the queue. -/
theorem step_cons {s : State} {c : Instr} {rest : List Instr} (h : s.pending = c :: rest) :
    step s = exec c { s with pending := rest } := by
  simp [step, h]

/-- The idle step. -/
theorem step_nil {s : State} (h : s.pending = []) : step s = .next (idle s) := by
  simp [step, h]

end Sys2Proof.Machine
end

