-- ==== Sys2Proof/Laws/Line.lean ====
section
/-! SUPPORT. The line, the stream and the label: for each shared operation the units it keeps. -/

namespace Sys2Proof.Machine

/-! ## The head, the stream and the history -/

@[simp] theorem takeLine_mem (l : Line) (s : State) :
    (takeLine l s).mem = s.mem := by
  rfl

@[simp] theorem takeLine_pending (l : Line) (s : State) :
    (takeLine l s).pending = s.pending := by
  rfl

@[simp] theorem takeLine_settings (l : Line) (s : State) :
    (takeLine l s).settings = s.settings := by
  rfl

@[simp] theorem takeLine_prescaler (l : Line) (s : State) :
    (takeLine l s).prescaler = s.prescaler := by
  rfl

@[simp] theorem takeLine_bpu (l : Line) (s : State) :
    (takeLine l s).bpu = s.bpu := by
  rfl

@[simp] theorem takeLine_bht (l : Line) (s : State) :
    (takeLine l s).bht = s.bht := by
  rfl

@[simp] theorem takeLine_rrd (l : Line) (s : State) :
    (takeLine l s).rrd = s.rrd := by
  rfl

@[simp] theorem takeLine_lcu (l : Line) (s : State) :
    (takeLine l s).lcu = s.lcu := by
  rfl

@[simp] theorem takeLine_rsu (l : Line) (s : State) :
    (takeLine l s).rsu = s.rsu := by
  rfl

@[simp] theorem takeLine_hdu (l : Line) (s : State) :
    (takeLine l s).hdu = s.hdu := by
  rfl

@[simp] theorem takeLine_mtu (l : Line) (s : State) :
    (takeLine l s).mtu = s.mtu := by
  rfl

@[simp] theorem takeLine_msu (l : Line) (s : State) :
    (takeLine l s).msu = s.msu := by
  rfl

@[simp] theorem takeLine_htu (l : Line) (s : State) :
    (takeLine l s).htu = s.htu := by
  rfl

@[simp] theorem takeLine_asu (l : Line) (s : State) :
    (takeLine l s).asu = s.asu := by
  rfl

@[simp] theorem takeRecord_mem (s : State) :
    (takeRecord s).mem = s.mem := by
  unfold takeRecord; dsimp only; repeat' split
  all_goals rfl

@[simp] theorem takeRecord_pending (s : State) :
    (takeRecord s).pending = s.pending := by
  unfold takeRecord; dsimp only; repeat' split
  all_goals rfl

@[simp] theorem takeRecord_settings (s : State) :
    (takeRecord s).settings = s.settings := by
  unfold takeRecord; dsimp only; repeat' split
  all_goals rfl

@[simp] theorem takeRecord_prescaler (s : State) :
    (takeRecord s).prescaler = s.prescaler := by
  unfold takeRecord; dsimp only; repeat' split
  all_goals rfl

@[simp] theorem takeRecord_bpu (s : State) :
    (takeRecord s).bpu = s.bpu := by
  unfold takeRecord; dsimp only; repeat' split
  all_goals rfl

@[simp] theorem takeRecord_bht (s : State) :
    (takeRecord s).bht = s.bht := by
  unfold takeRecord; dsimp only; repeat' split
  all_goals rfl

@[simp] theorem takeRecord_rrd (s : State) :
    (takeRecord s).rrd = s.rrd := by
  unfold takeRecord; dsimp only; repeat' split
  all_goals rfl

@[simp] theorem takeRecord_lcu (s : State) :
    (takeRecord s).lcu = s.lcu := by
  unfold takeRecord; dsimp only; repeat' split
  all_goals rfl

@[simp] theorem takeRecord_rsu (s : State) :
    (takeRecord s).rsu = s.rsu := by
  unfold takeRecord; dsimp only; repeat' split
  all_goals rfl

@[simp] theorem takeRecord_seu (s : State) :
    (takeRecord s).seu = s.seu := by
  unfold takeRecord; dsimp only; repeat' split
  all_goals rfl

@[simp] theorem takeRecord_mtu (s : State) :
    (takeRecord s).mtu = s.mtu := by
  unfold takeRecord; dsimp only; repeat' split
  all_goals rfl

@[simp] theorem takeRecord_msu (s : State) :
    (takeRecord s).msu = s.msu := by
  unfold takeRecord; dsimp only; repeat' split
  all_goals rfl

@[simp] theorem takeRecord_htu (s : State) :
    (takeRecord s).htu = s.htu := by
  unfold takeRecord; dsimp only; repeat' split
  all_goals rfl

@[simp] theorem takeRecord_asu (s : State) :
    (takeRecord s).asu = s.asu := by
  unfold takeRecord; dsimp only; repeat' split
  all_goals rfl

@[simp] theorem cutLine_mem (s : State) :
    (cutLine s).mem = s.mem := by
  rfl

@[simp] theorem cutLine_pending (s : State) :
    (cutLine s).pending = s.pending := by
  rfl

@[simp] theorem cutLine_settings (s : State) :
    (cutLine s).settings = s.settings := by
  rfl

@[simp] theorem cutLine_prescaler (s : State) :
    (cutLine s).prescaler = s.prescaler := by
  rfl

@[simp] theorem cutLine_bpu (s : State) :
    (cutLine s).bpu = s.bpu := by
  rfl

@[simp] theorem cutLine_bht (s : State) :
    (cutLine s).bht = s.bht := by
  rfl

@[simp] theorem cutLine_rrd (s : State) :
    (cutLine s).rrd = s.rrd := by
  rfl

@[simp] theorem cutLine_lcu (s : State) :
    (cutLine s).lcu = s.lcu := by
  rfl

@[simp] theorem cutLine_rsu (s : State) :
    (cutLine s).rsu = s.rsu := by
  rfl

@[simp] theorem cutLine_seu (s : State) :
    (cutLine s).seu = s.seu := by
  rfl

@[simp] theorem cutLine_mtu (s : State) :
    (cutLine s).mtu = s.mtu := by
  rfl

@[simp] theorem cutLine_msu (s : State) :
    (cutLine s).msu = s.msu := by
  rfl

@[simp] theorem cutLine_htu (s : State) :
    (cutLine s).htu = s.htu := by
  rfl

@[simp] theorem cutLine_asu (s : State) :
    (cutLine s).asu = s.asu := by
  rfl

@[simp] theorem endWait_mem (s : State) :
    (endWait s).mem = s.mem := by
  unfold endWait; split <;> simp

@[simp] theorem endWait_pending (s : State) :
    (endWait s).pending = s.pending := by
  unfold endWait; split <;> simp

@[simp] theorem endWait_settings (s : State) :
    (endWait s).settings = s.settings := by
  unfold endWait; split <;> simp

@[simp] theorem endWait_prescaler (s : State) :
    (endWait s).prescaler = s.prescaler := by
  unfold endWait; split <;> simp

@[simp] theorem endWait_bpu (s : State) :
    (endWait s).bpu = s.bpu := by
  unfold endWait; split <;> simp

@[simp] theorem endWait_bht (s : State) :
    (endWait s).bht = s.bht := by
  unfold endWait; split <;> simp

@[simp] theorem endWait_rrd (s : State) :
    (endWait s).rrd = s.rrd := by
  unfold endWait; split <;> simp

@[simp] theorem endWait_lcu (s : State) :
    (endWait s).lcu = s.lcu := by
  unfold endWait; split <;> simp

@[simp] theorem endWait_mtu (s : State) :
    (endWait s).mtu = s.mtu := by
  unfold endWait; split <;> simp

@[simp] theorem endWait_msu (s : State) :
    (endWait s).msu = s.msu := by
  unfold endWait; split <;> simp

@[simp] theorem endWait_htu (s : State) :
    (endWait s).htu = s.htu := by
  unfold endWait; split <;> simp

@[simp] theorem endWait_asu (s : State) :
    (endWait s).asu = s.asu := by
  unfold endWait; split <;> simp

@[simp] theorem flushStream_mem (s : State) :
    (flushStream s).mem = s.mem := by
  unfold flushStream; simp

@[simp] theorem flushStream_pending (s : State) :
    (flushStream s).pending = s.pending := by
  unfold flushStream; simp

@[simp] theorem flushStream_settings (s : State) :
    (flushStream s).settings = s.settings := by
  unfold flushStream; simp

@[simp] theorem flushStream_prescaler (s : State) :
    (flushStream s).prescaler = s.prescaler := by
  unfold flushStream; simp

@[simp] theorem flushStream_bpu (s : State) :
    (flushStream s).bpu = s.bpu := by
  unfold flushStream; simp

@[simp] theorem flushStream_bht (s : State) :
    (flushStream s).bht = s.bht := by
  unfold flushStream; simp

@[simp] theorem flushStream_rrd (s : State) :
    (flushStream s).rrd = s.rrd := by
  unfold flushStream; simp

@[simp] theorem flushStream_lcu (s : State) :
    (flushStream s).lcu = s.lcu := by
  unfold flushStream; simp

@[simp] theorem flushStream_mtu (s : State) :
    (flushStream s).mtu = s.mtu := by
  unfold flushStream; simp

@[simp] theorem flushStream_msu (s : State) :
    (flushStream s).msu = s.msu := by
  unfold flushStream; simp

@[simp] theorem flushStream_htu (s : State) :
    (flushStream s).htu = s.htu := by
  unfold flushStream; simp

@[simp] theorem flushStream_asu (s : State) :
    (flushStream s).asu = s.asu := by
  unfold flushStream; simp

@[simp] theorem flushLabel_mem (l : Idx) (s : State) :
    (flushLabel l s).mem = s.mem := by
  unfold flushLabel; simp

@[simp] theorem flushLabel_pending (l : Idx) (s : State) :
    (flushLabel l s).pending = s.pending := by
  unfold flushLabel; simp

@[simp] theorem flushLabel_settings (l : Idx) (s : State) :
    (flushLabel l s).settings = s.settings := by
  unfold flushLabel; simp

@[simp] theorem flushLabel_prescaler (l : Idx) (s : State) :
    (flushLabel l s).prescaler = s.prescaler := by
  unfold flushLabel; simp

@[simp] theorem flushLabel_bpu (l : Idx) (s : State) :
    (flushLabel l s).bpu = s.bpu := by
  unfold flushLabel; simp

@[simp] theorem flushLabel_bht (l : Idx) (s : State) :
    (flushLabel l s).bht = s.bht := by
  unfold flushLabel; simp

@[simp] theorem flushLabel_rrd (l : Idx) (s : State) :
    (flushLabel l s).rrd = s.rrd := by
  unfold flushLabel; simp

@[simp] theorem flushLabel_lcu (l : Idx) (s : State) :
    (flushLabel l s).lcu = s.lcu := by
  unfold flushLabel; simp

@[simp] theorem flushLabel_mtu (l : Idx) (s : State) :
    (flushLabel l s).mtu = s.mtu := by
  unfold flushLabel; simp

@[simp] theorem flushLabel_msu (l : Idx) (s : State) :
    (flushLabel l s).msu = s.msu := by
  unfold flushLabel; simp

@[simp] theorem flushLabel_htu (l : Idx) (s : State) :
    (flushLabel l s).htu = s.htu := by
  unfold flushLabel; simp

@[simp] theorem flushLabel_asu (l : Idx) (s : State) :
    (flushLabel l s).asu = s.asu := by
  unfold flushLabel; simp

@[simp] theorem deliverLine_mem (s : State) :
    (deliverLine s).mem = s.mem := by
  unfold deliverLine; repeat' split
  all_goals simp

@[simp] theorem deliverLine_pending (s : State) :
    (deliverLine s).pending = s.pending := by
  unfold deliverLine; repeat' split
  all_goals simp

@[simp] theorem deliverLine_settings (s : State) :
    (deliverLine s).settings = s.settings := by
  unfold deliverLine; repeat' split
  all_goals simp

@[simp] theorem deliverLine_prescaler (s : State) :
    (deliverLine s).prescaler = s.prescaler := by
  unfold deliverLine; repeat' split
  all_goals simp

@[simp] theorem deliverLine_bpu (s : State) :
    (deliverLine s).bpu = s.bpu := by
  unfold deliverLine; repeat' split
  all_goals simp

@[simp] theorem deliverLine_bht (s : State) :
    (deliverLine s).bht = s.bht := by
  unfold deliverLine; repeat' split
  all_goals simp

@[simp] theorem deliverLine_rrd (s : State) :
    (deliverLine s).rrd = s.rrd := by
  unfold deliverLine; repeat' split
  all_goals simp

@[simp] theorem deliverLine_lcu (s : State) :
    (deliverLine s).lcu = s.lcu := by
  unfold deliverLine; repeat' split
  all_goals simp

@[simp] theorem deliverLine_mtu (s : State) :
    (deliverLine s).mtu = s.mtu := by
  unfold deliverLine; repeat' split
  all_goals simp

@[simp] theorem deliverLine_msu (s : State) :
    (deliverLine s).msu = s.msu := by
  unfold deliverLine; repeat' split
  all_goals simp

@[simp] theorem deliverLine_htu (s : State) :
    (deliverLine s).htu = s.htu := by
  unfold deliverLine; repeat' split
  all_goals simp

@[simp] theorem deliverLine_asu (s : State) :
    (deliverLine s).asu = s.asu := by
  unfold deliverLine; repeat' split
  all_goals simp

@[simp] theorem clearHistory_mem (s : State) :
    (clearHistory s).mem = s.mem := by
  rfl

@[simp] theorem clearHistory_pending (s : State) :
    (clearHistory s).pending = s.pending := by
  rfl

@[simp] theorem clearHistory_settings (s : State) :
    (clearHistory s).settings = s.settings := by
  rfl

@[simp] theorem clearHistory_prescaler (s : State) :
    (clearHistory s).prescaler = s.prescaler := by
  rfl

@[simp] theorem clearHistory_bpu (s : State) :
    (clearHistory s).bpu = s.bpu := by
  rfl

@[simp] theorem clearHistory_bht (s : State) :
    (clearHistory s).bht = s.bht := by
  rfl

@[simp] theorem clearHistory_rrd (s : State) :
    (clearHistory s).rrd = s.rrd := by
  rfl

@[simp] theorem clearHistory_lcu (s : State) :
    (clearHistory s).lcu = s.lcu := by
  rfl

@[simp] theorem clearHistory_rsu (s : State) :
    (clearHistory s).rsu = s.rsu := by
  rfl

@[simp] theorem clearHistory_hdu (s : State) :
    (clearHistory s).hdu = s.hdu := by
  rfl

@[simp] theorem clearHistory_mtu (s : State) :
    (clearHistory s).mtu = s.mtu := by
  rfl

@[simp] theorem clearHistory_msu (s : State) :
    (clearHistory s).msu = s.msu := by
  rfl

@[simp] theorem clearHistory_htu (s : State) :
    (clearHistory s).htu = s.htu := by
  rfl

@[simp] theorem clearHistory_asu (s : State) :
    (clearHistory s).asu = s.asu := by
  rfl

@[simp] theorem supplyOff_mem (s : State) :
    (supplyOff s).mem = s.mem := by
  unfold supplyOff; dsimp only; split <;> simp

@[simp] theorem supplyOff_pending (s : State) :
    (supplyOff s).pending = s.pending := by
  unfold supplyOff; dsimp only; split <;> simp

@[simp] theorem supplyOff_settings (s : State) :
    (supplyOff s).settings = s.settings := by
  unfold supplyOff; dsimp only; split <;> simp

@[simp] theorem supplyOff_prescaler (s : State) :
    (supplyOff s).prescaler = s.prescaler := by
  unfold supplyOff; dsimp only; split <;> simp

@[simp] theorem supplyOff_bpu (s : State) :
    (supplyOff s).bpu = s.bpu := by
  unfold supplyOff; dsimp only; split <;> simp

@[simp] theorem supplyOff_bht (s : State) :
    (supplyOff s).bht = s.bht := by
  unfold supplyOff; dsimp only; split <;> simp

@[simp] theorem supplyOff_rrd (s : State) :
    (supplyOff s).rrd = s.rrd := by
  unfold supplyOff; dsimp only; split <;> simp

@[simp] theorem supplyOff_lcu (s : State) :
    (supplyOff s).lcu = s.lcu := by
  unfold supplyOff; dsimp only; split <;> simp

@[simp] theorem supplyOff_rsu (s : State) :
    (supplyOff s).rsu = s.rsu := by
  unfold supplyOff; dsimp only; split <;> simp

@[simp] theorem supplyOff_seu (s : State) :
    (supplyOff s).seu = s.seu := by
  unfold supplyOff; dsimp only; split <;> simp

@[simp] theorem supplyOff_mtu (s : State) :
    (supplyOff s).mtu = s.mtu := by
  unfold supplyOff; dsimp only; split <;> simp

@[simp] theorem supplyOff_msu (s : State) :
    (supplyOff s).msu = s.msu := by
  unfold supplyOff; dsimp only; split <;> simp

@[simp] theorem supplyOff_asu (s : State) :
    (supplyOff s).asu = s.asu := by
  unfold supplyOff; dsimp only; split <;> simp

/-! ## The paper -/

@[simp] theorem beginLine_mem (i p : Nat) (s : State) :
    (beginLine i p s).mem = s.mem := by
  rfl

@[simp] theorem beginLine_pending (i p : Nat) (s : State) :
    (beginLine i p s).pending = s.pending := by
  rfl

@[simp] theorem beginLine_settings (i p : Nat) (s : State) :
    (beginLine i p s).settings = s.settings := by
  rfl

@[simp] theorem beginLine_prescaler (i p : Nat) (s : State) :
    (beginLine i p s).prescaler = s.prescaler := by
  rfl

@[simp] theorem beginLine_bpu (i p : Nat) (s : State) :
    (beginLine i p s).bpu = s.bpu := by
  rfl

@[simp] theorem beginLine_bht (i p : Nat) (s : State) :
    (beginLine i p s).bht = s.bht := by
  rfl

@[simp] theorem beginLine_rrd (i p : Nat) (s : State) :
    (beginLine i p s).rrd = s.rrd := by
  rfl

@[simp] theorem beginLine_lcu (i p : Nat) (s : State) :
    (beginLine i p s).lcu = s.lcu := by
  rfl

@[simp] theorem beginLine_rsu (i p : Nat) (s : State) :
    (beginLine i p s).rsu = s.rsu := by
  rfl

@[simp] theorem beginLine_htu (i p : Nat) (s : State) :
    (beginLine i p s).htu = s.htu := by
  rfl

@[simp] theorem beginLine_asu (i p : Nat) (s : State) :
    (beginLine i p s).asu = s.asu := by
  rfl

@[simp] theorem advancePosition_mem (s : State) :
    (advancePosition s).mem = s.mem := by
  rfl

@[simp] theorem advancePosition_pending (s : State) :
    (advancePosition s).pending = s.pending := by
  rfl

@[simp] theorem advancePosition_settings (s : State) :
    (advancePosition s).settings = s.settings := by
  rfl

@[simp] theorem advancePosition_prescaler (s : State) :
    (advancePosition s).prescaler = s.prescaler := by
  rfl

@[simp] theorem advancePosition_bpu (s : State) :
    (advancePosition s).bpu = s.bpu := by
  rfl

@[simp] theorem advancePosition_bht (s : State) :
    (advancePosition s).bht = s.bht := by
  rfl

@[simp] theorem advancePosition_rrd (s : State) :
    (advancePosition s).rrd = s.rrd := by
  rfl

@[simp] theorem advancePosition_lcu (s : State) :
    (advancePosition s).lcu = s.lcu := by
  rfl

@[simp] theorem advancePosition_rsu (s : State) :
    (advancePosition s).rsu = s.rsu := by
  rfl

@[simp] theorem advancePosition_seu (s : State) :
    (advancePosition s).seu = s.seu := by
  rfl

@[simp] theorem advancePosition_hdu (s : State) :
    (advancePosition s).hdu = s.hdu := by
  rfl

@[simp] theorem advancePosition_msu (s : State) :
    (advancePosition s).msu = s.msu := by
  rfl

@[simp] theorem advancePosition_htu (s : State) :
    (advancePosition s).htu = s.htu := by
  rfl

@[simp] theorem advancePosition_asu (s : State) :
    (advancePosition s).asu = s.asu := by
  rfl

@[simp] theorem motionRest_mem (s : State) :
    (motionRest s).mem = s.mem := by
  rfl

@[simp] theorem motionRest_pending (s : State) :
    (motionRest s).pending = s.pending := by
  rfl

@[simp] theorem motionRest_settings (s : State) :
    (motionRest s).settings = s.settings := by
  rfl

@[simp] theorem motionRest_prescaler (s : State) :
    (motionRest s).prescaler = s.prescaler := by
  rfl

@[simp] theorem motionRest_bpu (s : State) :
    (motionRest s).bpu = s.bpu := by
  rfl

@[simp] theorem motionRest_bht (s : State) :
    (motionRest s).bht = s.bht := by
  rfl

@[simp] theorem motionRest_rrd (s : State) :
    (motionRest s).rrd = s.rrd := by
  rfl

@[simp] theorem motionRest_lcu (s : State) :
    (motionRest s).lcu = s.lcu := by
  rfl

@[simp] theorem motionRest_rsu (s : State) :
    (motionRest s).rsu = s.rsu := by
  rfl

@[simp] theorem motionRest_hdu (s : State) :
    (motionRest s).hdu = s.hdu := by
  rfl

@[simp] theorem motionRest_htu (s : State) :
    (motionRest s).htu = s.htu := by
  rfl

@[simp] theorem motionRest_asu (s : State) :
    (motionRest s).asu = s.asu := by
  rfl

@[simp] theorem emergencyStop_mem (s : State) :
    (emergencyStop s).mem = s.mem := by
  rfl

@[simp] theorem emergencyStop_pending (s : State) :
    (emergencyStop s).pending = s.pending := by
  rfl

@[simp] theorem emergencyStop_settings (s : State) :
    (emergencyStop s).settings = s.settings := by
  rfl

@[simp] theorem emergencyStop_prescaler (s : State) :
    (emergencyStop s).prescaler = s.prescaler := by
  rfl

@[simp] theorem emergencyStop_bpu (s : State) :
    (emergencyStop s).bpu = s.bpu := by
  rfl

@[simp] theorem emergencyStop_bht (s : State) :
    (emergencyStop s).bht = s.bht := by
  rfl

@[simp] theorem emergencyStop_rrd (s : State) :
    (emergencyStop s).rrd = s.rrd := by
  rfl

@[simp] theorem emergencyStop_lcu (s : State) :
    (emergencyStop s).lcu = s.lcu := by
  rfl

@[simp] theorem emergencyStop_rsu (s : State) :
    (emergencyStop s).rsu = s.rsu := by
  rfl

@[simp] theorem emergencyStop_hdu (s : State) :
    (emergencyStop s).hdu = s.hdu := by
  rfl

@[simp] theorem emergencyStop_htu (s : State) :
    (emergencyStop s).htu = s.htu := by
  rfl

@[simp] theorem emergencyStop_asu (s : State) :
    (emergencyStop s).asu = s.asu := by
  rfl

@[simp] theorem orderDeceleration_mem (s : State) :
    (orderDeceleration s).mem = s.mem := by
  rfl

@[simp] theorem orderDeceleration_pending (s : State) :
    (orderDeceleration s).pending = s.pending := by
  rfl

@[simp] theorem orderDeceleration_settings (s : State) :
    (orderDeceleration s).settings = s.settings := by
  rfl

@[simp] theorem orderDeceleration_prescaler (s : State) :
    (orderDeceleration s).prescaler = s.prescaler := by
  rfl

@[simp] theorem orderDeceleration_bpu (s : State) :
    (orderDeceleration s).bpu = s.bpu := by
  rfl

@[simp] theorem orderDeceleration_bht (s : State) :
    (orderDeceleration s).bht = s.bht := by
  rfl

@[simp] theorem orderDeceleration_rrd (s : State) :
    (orderDeceleration s).rrd = s.rrd := by
  rfl

@[simp] theorem orderDeceleration_lcu (s : State) :
    (orderDeceleration s).lcu = s.lcu := by
  rfl

@[simp] theorem orderDeceleration_rsu (s : State) :
    (orderDeceleration s).rsu = s.rsu := by
  rfl

@[simp] theorem orderDeceleration_seu (s : State) :
    (orderDeceleration s).seu = s.seu := by
  rfl

@[simp] theorem orderDeceleration_hdu (s : State) :
    (orderDeceleration s).hdu = s.hdu := by
  rfl

@[simp] theorem orderDeceleration_msu (s : State) :
    (orderDeceleration s).msu = s.msu := by
  rfl

@[simp] theorem orderDeceleration_htu (s : State) :
    (orderDeceleration s).htu = s.htu := by
  rfl

@[simp] theorem orderDeceleration_asu (s : State) :
    (orderDeceleration s).asu = s.asu := by
  rfl

@[simp] theorem reachTof_mem (s : State) :
    (reachTof s).mem = s.mem := by
  unfold reachTof; repeat' split
  all_goals rfl

@[simp] theorem reachTof_pending (s : State) :
    (reachTof s).pending = s.pending := by
  unfold reachTof; repeat' split
  all_goals rfl

@[simp] theorem reachTof_settings (s : State) :
    (reachTof s).settings = s.settings := by
  unfold reachTof; repeat' split
  all_goals rfl

@[simp] theorem reachTof_prescaler (s : State) :
    (reachTof s).prescaler = s.prescaler := by
  unfold reachTof; repeat' split
  all_goals rfl

@[simp] theorem reachTof_bpu (s : State) :
    (reachTof s).bpu = s.bpu := by
  unfold reachTof; repeat' split
  all_goals rfl

@[simp] theorem reachTof_bht (s : State) :
    (reachTof s).bht = s.bht := by
  unfold reachTof; repeat' split
  all_goals rfl

@[simp] theorem reachTof_rrd (s : State) :
    (reachTof s).rrd = s.rrd := by
  unfold reachTof; repeat' split
  all_goals rfl

@[simp] theorem reachTof_lcu (s : State) :
    (reachTof s).lcu = s.lcu := by
  unfold reachTof; repeat' split
  all_goals rfl

@[simp] theorem reachTof_rsu (s : State) :
    (reachTof s).rsu = s.rsu := by
  unfold reachTof; repeat' split
  all_goals rfl

@[simp] theorem reachTof_seu (s : State) :
    (reachTof s).seu = s.seu := by
  unfold reachTof; repeat' split
  all_goals rfl

@[simp] theorem reachTof_hdu (s : State) :
    (reachTof s).hdu = s.hdu := by
  unfold reachTof; repeat' split
  all_goals rfl

@[simp] theorem reachTof_mtu (s : State) :
    (reachTof s).mtu = s.mtu := by
  unfold reachTof; repeat' split
  all_goals rfl

@[simp] theorem reachTof_htu (s : State) :
    (reachTof s).htu = s.htu := by
  unfold reachTof; repeat' split
  all_goals rfl

@[simp] theorem reachTof_asu (s : State) :
    (reachTof s).asu = s.asu := by
  unfold reachTof; repeat' split
  all_goals rfl

@[simp] theorem returnTof_mem (p : Pos) (s : State) :
    (returnTof p s).mem = s.mem := by
  unfold returnTof overflowEdges; repeat' split
  all_goals simp

@[simp] theorem returnTof_pending (p : Pos) (s : State) :
    (returnTof p s).pending = s.pending := by
  unfold returnTof overflowEdges; repeat' split
  all_goals simp

@[simp] theorem returnTof_settings (p : Pos) (s : State) :
    (returnTof p s).settings = s.settings := by
  unfold returnTof overflowEdges; repeat' split
  all_goals simp

@[simp] theorem returnTof_prescaler (p : Pos) (s : State) :
    (returnTof p s).prescaler = s.prescaler := by
  unfold returnTof overflowEdges; repeat' split
  all_goals simp

@[simp] theorem returnTof_bpu_resetLine (p : Pos) (s : State) :
    (returnTof p s).bpu.resetLine = s.bpu.resetLine := by
  unfold returnTof overflowEdges; repeat' split
  all_goals simp

@[simp] theorem returnTof_bpu_straps (p : Pos) (s : State) :
    (returnTof p s).bpu.straps = s.bpu.straps := by
  unfold returnTof overflowEdges; repeat' split
  all_goals simp

@[simp] theorem returnTof_bpu_engagement (p : Pos) (s : State) :
    (returnTof p s).bpu.engagement = s.bpu.engagement := by
  unfold returnTof overflowEdges; repeat' split
  all_goals simp

@[simp] theorem returnTof_bpu_reads (p : Pos) (s : State) :
    (returnTof p s).bpu.reads = s.bpu.reads := by
  unfold returnTof overflowEdges; repeat' split
  all_goals simp

@[simp] theorem returnTof_bpu_geometry (p : Pos) (s : State) :
    (returnTof p s).bpu.geometry = s.bpu.geometry := by
  unfold returnTof overflowEdges; repeat' split
  all_goals simp

@[simp] theorem returnTof_bpu_guard (p : Pos) (s : State) :
    (returnTof p s).bpu.guard = s.bpu.guard := by
  unfold returnTof overflowEdges; repeat' split
  all_goals simp

@[simp] theorem returnTof_bpu_latch (p : Pos) (s : State) :
    (returnTof p s).bpu.latch = s.bpu.latch := by
  unfold returnTof overflowEdges; repeat' split
  all_goals simp

@[simp] theorem returnTof_bht (p : Pos) (s : State) :
    (returnTof p s).bht = s.bht := by
  unfold returnTof overflowEdges; repeat' split
  all_goals simp

@[simp] theorem returnTof_rrd (p : Pos) (s : State) :
    (returnTof p s).rrd = s.rrd := by
  unfold returnTof overflowEdges; repeat' split
  all_goals simp

@[simp] theorem returnTof_lcu (p : Pos) (s : State) :
    (returnTof p s).lcu = s.lcu := by
  unfold returnTof overflowEdges; repeat' split
  all_goals simp

@[simp] theorem returnTof_rsu (p : Pos) (s : State) :
    (returnTof p s).rsu = s.rsu := by
  unfold returnTof overflowEdges; repeat' split
  all_goals simp

@[simp] theorem returnTof_seu (p : Pos) (s : State) :
    (returnTof p s).seu = s.seu := by
  unfold returnTof overflowEdges; repeat' split
  all_goals simp

@[simp] theorem returnTof_hdu (p : Pos) (s : State) :
    (returnTof p s).hdu = s.hdu := by
  unfold returnTof overflowEdges; repeat' split
  all_goals simp

@[simp] theorem returnTof_mtu (p : Pos) (s : State) :
    (returnTof p s).mtu = s.mtu := by
  unfold returnTof overflowEdges; repeat' split
  all_goals simp

@[simp] theorem returnTof_htu (p : Pos) (s : State) :
    (returnTof p s).htu = s.htu := by
  unfold returnTof overflowEdges; repeat' split
  all_goals simp

@[simp] theorem abandonCalibration_mem (s : State) :
    (abandonCalibration s).mem = s.mem := by
  rfl

@[simp] theorem abandonCalibration_pending (s : State) :
    (abandonCalibration s).pending = s.pending := by
  rfl

@[simp] theorem abandonCalibration_settings (s : State) :
    (abandonCalibration s).settings = s.settings := by
  rfl

@[simp] theorem abandonCalibration_prescaler (s : State) :
    (abandonCalibration s).prescaler = s.prescaler := by
  rfl

@[simp] theorem abandonCalibration_bpu (s : State) :
    (abandonCalibration s).bpu = s.bpu := by
  rfl

@[simp] theorem abandonCalibration_bht (s : State) :
    (abandonCalibration s).bht = s.bht := by
  rfl

@[simp] theorem abandonCalibration_rrd (s : State) :
    (abandonCalibration s).rrd = s.rrd := by
  rfl

@[simp] theorem abandonCalibration_lcu (s : State) :
    (abandonCalibration s).lcu = s.lcu := by
  rfl

@[simp] theorem abandonCalibration_rsu (s : State) :
    (abandonCalibration s).rsu = s.rsu := by
  rfl

@[simp] theorem abandonCalibration_seu (s : State) :
    (abandonCalibration s).seu = s.seu := by
  rfl

@[simp] theorem abandonCalibration_hdu (s : State) :
    (abandonCalibration s).hdu = s.hdu := by
  rfl

@[simp] theorem abandonCalibration_mtu (s : State) :
    (abandonCalibration s).mtu = s.mtu := by
  rfl

@[simp] theorem abandonCalibration_htu (s : State) :
    (abandonCalibration s).htu = s.htu := by
  rfl

@[simp] theorem abandonCalibration_asu (s : State) :
    (abandonCalibration s).asu = s.asu := by
  rfl

/-! ## The label -/

@[simp] theorem releaseCopy_mem (s : State) :
    (releaseCopy s).mem = s.mem := by
  rfl

@[simp] theorem releaseCopy_pending (s : State) :
    (releaseCopy s).pending = s.pending := by
  rfl

@[simp] theorem releaseCopy_settings (s : State) :
    (releaseCopy s).settings = s.settings := by
  rfl

@[simp] theorem releaseCopy_prescaler (s : State) :
    (releaseCopy s).prescaler = s.prescaler := by
  rfl

@[simp] theorem releaseCopy_bpu (s : State) :
    (releaseCopy s).bpu = s.bpu := by
  rfl

@[simp] theorem releaseCopy_bht (s : State) :
    (releaseCopy s).bht = s.bht := by
  rfl

@[simp] theorem releaseCopy_rrd (s : State) :
    (releaseCopy s).rrd = s.rrd := by
  rfl

@[simp] theorem releaseCopy_rsu (s : State) :
    (releaseCopy s).rsu = s.rsu := by
  rfl

@[simp] theorem releaseCopy_seu (s : State) :
    (releaseCopy s).seu = s.seu := by
  rfl

@[simp] theorem releaseCopy_hdu (s : State) :
    (releaseCopy s).hdu = s.hdu := by
  rfl

@[simp] theorem releaseCopy_mtu (s : State) :
    (releaseCopy s).mtu = s.mtu := by
  rfl

@[simp] theorem releaseCopy_msu (s : State) :
    (releaseCopy s).msu = s.msu := by
  rfl

@[simp] theorem releaseCopy_htu (s : State) :
    (releaseCopy s).htu = s.htu := by
  rfl

@[simp] theorem releaseCopy_asu (s : State) :
    (releaseCopy s).asu = s.asu := by
  rfl

@[simp] theorem endCourse_mem (s : State) :
    (endCourse s).mem = s.mem := by
  rfl

@[simp] theorem endCourse_pending (s : State) :
    (endCourse s).pending = s.pending := by
  rfl

@[simp] theorem endCourse_settings (s : State) :
    (endCourse s).settings = s.settings := by
  rfl

@[simp] theorem endCourse_prescaler (s : State) :
    (endCourse s).prescaler = s.prescaler := by
  rfl

@[simp] theorem endCourse_bpu (s : State) :
    (endCourse s).bpu = s.bpu := by
  rfl

@[simp] theorem endCourse_bht (s : State) :
    (endCourse s).bht = s.bht := by
  rfl

@[simp] theorem endCourse_rrd (s : State) :
    (endCourse s).rrd = s.rrd := by
  rfl

@[simp] theorem endCourse_rsu (s : State) :
    (endCourse s).rsu = s.rsu := by
  rfl

@[simp] theorem endCourse_seu (s : State) :
    (endCourse s).seu = s.seu := by
  rfl

@[simp] theorem endCourse_hdu (s : State) :
    (endCourse s).hdu = s.hdu := by
  rfl

@[simp] theorem endCourse_mtu (s : State) :
    (endCourse s).mtu = s.mtu := by
  rfl

@[simp] theorem endCourse_msu (s : State) :
    (endCourse s).msu = s.msu := by
  rfl

@[simp] theorem endCourse_htu (s : State) :
    (endCourse s).htu = s.htu := by
  rfl

@[simp] theorem endCourse_asu (s : State) :
    (endCourse s).asu = s.asu := by
  rfl

@[simp] theorem moveUp_mem (s : State) :
    (moveUp s).mem = s.mem := by
  unfold moveUp; split <;> rfl

@[simp] theorem moveUp_pending (s : State) :
    (moveUp s).pending = s.pending := by
  unfold moveUp; split <;> rfl

@[simp] theorem moveUp_settings (s : State) :
    (moveUp s).settings = s.settings := by
  unfold moveUp; split <;> rfl

@[simp] theorem moveUp_prescaler (s : State) :
    (moveUp s).prescaler = s.prescaler := by
  unfold moveUp; split <;> rfl

@[simp] theorem moveUp_bpu (s : State) :
    (moveUp s).bpu = s.bpu := by
  unfold moveUp; split <;> rfl

@[simp] theorem moveUp_bht (s : State) :
    (moveUp s).bht = s.bht := by
  unfold moveUp; split <;> rfl

@[simp] theorem moveUp_rrd (s : State) :
    (moveUp s).rrd = s.rrd := by
  unfold moveUp; split <;> rfl

@[simp] theorem moveUp_rsu (s : State) :
    (moveUp s).rsu = s.rsu := by
  unfold moveUp; split <;> rfl

@[simp] theorem moveUp_seu (s : State) :
    (moveUp s).seu = s.seu := by
  unfold moveUp; split <;> rfl

@[simp] theorem moveUp_hdu (s : State) :
    (moveUp s).hdu = s.hdu := by
  unfold moveUp; split <;> rfl

@[simp] theorem moveUp_mtu (s : State) :
    (moveUp s).mtu = s.mtu := by
  unfold moveUp; split <;> rfl

@[simp] theorem moveUp_msu (s : State) :
    (moveUp s).msu = s.msu := by
  unfold moveUp; split <;> rfl

@[simp] theorem moveUp_htu (s : State) :
    (moveUp s).htu = s.htu := by
  unfold moveUp; split <;> rfl

@[simp] theorem moveUp_asu (s : State) :
    (moveUp s).asu = s.asu := by
  unfold moveUp; split <;> rfl

@[simp] theorem enterFault_mem (r : FaultReason) (s : State) :
    (enterFault r s).mem = s.mem := by
  rfl

@[simp] theorem enterFault_pending (r : FaultReason) (s : State) :
    (enterFault r s).pending = s.pending := by
  rfl

@[simp] theorem enterFault_settings (r : FaultReason) (s : State) :
    (enterFault r s).settings = s.settings := by
  rfl

@[simp] theorem enterFault_prescaler (r : FaultReason) (s : State) :
    (enterFault r s).prescaler = s.prescaler := by
  rfl

@[simp] theorem enterFault_bpu (r : FaultReason) (s : State) :
    (enterFault r s).bpu = s.bpu := by
  rfl

@[simp] theorem enterFault_bht (r : FaultReason) (s : State) :
    (enterFault r s).bht = s.bht := by
  rfl

@[simp] theorem enterFault_rrd (r : FaultReason) (s : State) :
    (enterFault r s).rrd = s.rrd := by
  rfl

@[simp] theorem enterFault_rsu (r : FaultReason) (s : State) :
    (enterFault r s).rsu = s.rsu := by
  rfl

@[simp] theorem enterFault_seu (r : FaultReason) (s : State) :
    (enterFault r s).seu = s.seu := by
  rfl

@[simp] theorem enterFault_hdu (r : FaultReason) (s : State) :
    (enterFault r s).hdu = s.hdu := by
  rfl

@[simp] theorem enterFault_mtu (r : FaultReason) (s : State) :
    (enterFault r s).mtu = s.mtu := by
  rfl

@[simp] theorem enterFault_msu (r : FaultReason) (s : State) :
    (enterFault r s).msu = s.msu := by
  rfl

@[simp] theorem enterFault_htu (r : FaultReason) (s : State) :
    (enterFault r s).htu = s.htu := by
  rfl

@[simp] theorem enterFault_asu (r : FaultReason) (s : State) :
    (enterFault r s).asu = s.asu := by
  rfl

@[simp] theorem clearFault_mem (r : FaultReason) (s : State) :
    (clearFault r s).mem = s.mem := by
  rfl

@[simp] theorem clearFault_pending (r : FaultReason) (s : State) :
    (clearFault r s).pending = s.pending := by
  rfl

@[simp] theorem clearFault_settings (r : FaultReason) (s : State) :
    (clearFault r s).settings = s.settings := by
  rfl

@[simp] theorem clearFault_prescaler (r : FaultReason) (s : State) :
    (clearFault r s).prescaler = s.prescaler := by
  rfl

@[simp] theorem clearFault_bpu (r : FaultReason) (s : State) :
    (clearFault r s).bpu = s.bpu := by
  rfl

@[simp] theorem clearFault_bht (r : FaultReason) (s : State) :
    (clearFault r s).bht = s.bht := by
  rfl

@[simp] theorem clearFault_rrd (r : FaultReason) (s : State) :
    (clearFault r s).rrd = s.rrd := by
  rfl

@[simp] theorem clearFault_rsu (r : FaultReason) (s : State) :
    (clearFault r s).rsu = s.rsu := by
  rfl

@[simp] theorem clearFault_seu (r : FaultReason) (s : State) :
    (clearFault r s).seu = s.seu := by
  rfl

@[simp] theorem clearFault_hdu (r : FaultReason) (s : State) :
    (clearFault r s).hdu = s.hdu := by
  rfl

@[simp] theorem clearFault_mtu (r : FaultReason) (s : State) :
    (clearFault r s).mtu = s.mtu := by
  rfl

@[simp] theorem clearFault_msu (r : FaultReason) (s : State) :
    (clearFault r s).msu = s.msu := by
  rfl

@[simp] theorem clearFault_htu (r : FaultReason) (s : State) :
    (clearFault r s).htu = s.htu := by
  rfl

@[simp] theorem clearFault_asu (r : FaultReason) (s : State) :
    (clearFault r s).asu = s.asu := by
  rfl

@[simp] theorem finishOperation_mem (r : ItemResult) (s : State) :
    (finishOperation r s).mem = s.mem := by
  unfold finishOperation; split <;> simp

@[simp] theorem finishOperation_pending (r : ItemResult) (s : State) :
    (finishOperation r s).pending = s.pending := by
  unfold finishOperation; split <;> simp

@[simp] theorem finishOperation_settings (r : ItemResult) (s : State) :
    (finishOperation r s).settings = s.settings := by
  unfold finishOperation; split <;> simp

@[simp] theorem finishOperation_prescaler (r : ItemResult) (s : State) :
    (finishOperation r s).prescaler = s.prescaler := by
  unfold finishOperation; split <;> simp

@[simp] theorem finishOperation_bpu (r : ItemResult) (s : State) :
    (finishOperation r s).bpu = s.bpu := by
  unfold finishOperation; split <;> simp

@[simp] theorem finishOperation_bht (r : ItemResult) (s : State) :
    (finishOperation r s).bht = s.bht := by
  unfold finishOperation; split <;> simp

@[simp] theorem finishOperation_rsu (r : ItemResult) (s : State) :
    (finishOperation r s).rsu = s.rsu := by
  unfold finishOperation; split <;> simp

@[simp] theorem finishOperation_seu (r : ItemResult) (s : State) :
    (finishOperation r s).seu = s.seu := by
  unfold finishOperation; split <;> simp

@[simp] theorem finishOperation_hdu (r : ItemResult) (s : State) :
    (finishOperation r s).hdu = s.hdu := by
  unfold finishOperation; split <;> simp

@[simp] theorem finishOperation_mtu (r : ItemResult) (s : State) :
    (finishOperation r s).mtu = s.mtu := by
  unfold finishOperation; split <;> simp

@[simp] theorem finishOperation_msu (r : ItemResult) (s : State) :
    (finishOperation r s).msu = s.msu := by
  unfold finishOperation; split <;> simp

@[simp] theorem finishOperation_htu (r : ItemResult) (s : State) :
    (finishOperation r s).htu = s.htu := by
  unfold finishOperation; split <;> simp

@[simp] theorem finishOperation_asu (r : ItemResult) (s : State) :
    (finishOperation r s).asu = s.asu := by
  unfold finishOperation; split <;> simp

@[simp] theorem endWork_mem (s : State) :
    (endWork s).mem = s.mem := by
  unfold endWork; simp

@[simp] theorem endWork_pending (s : State) :
    (endWork s).pending = s.pending := by
  unfold endWork; simp

@[simp] theorem endWork_settings (s : State) :
    (endWork s).settings = s.settings := by
  unfold endWork; simp

@[simp] theorem endWork_prescaler (s : State) :
    (endWork s).prescaler = s.prescaler := by
  unfold endWork; simp

@[simp] theorem endWork_bpu (s : State) :
    (endWork s).bpu = s.bpu := by
  unfold endWork; simp

@[simp] theorem endWork_bht (s : State) :
    (endWork s).bht = s.bht := by
  unfold endWork; simp

@[simp] theorem endWork_rsu (s : State) :
    (endWork s).rsu = s.rsu := by
  unfold endWork; simp

@[simp] theorem endWork_seu (s : State) :
    (endWork s).seu = s.seu := by
  unfold endWork; simp

@[simp] theorem endWork_hdu (s : State) :
    (endWork s).hdu = s.hdu := by
  unfold endWork; simp

@[simp] theorem endWork_mtu (s : State) :
    (endWork s).mtu = s.mtu := by
  unfold endWork; simp

@[simp] theorem endWork_htu (s : State) :
    (endWork s).htu = s.htu := by
  unfold endWork; simp

@[simp] theorem endWork_asu (s : State) :
    (endWork s).asu = s.asu := by
  unfold endWork; simp

@[simp] theorem reportLabelEnd_mem (c : Context) (s : State) :
    (reportLabelEnd c s).mem = s.mem := by
  unfold reportLabelEnd; dsimp only; repeat' split
  all_goals simp

@[simp] theorem reportLabelEnd_pending (c : Context) (s : State) :
    (reportLabelEnd c s).pending = s.pending := by
  unfold reportLabelEnd; dsimp only; repeat' split
  all_goals simp

@[simp] theorem reportLabelEnd_settings (c : Context) (s : State) :
    (reportLabelEnd c s).settings = s.settings := by
  unfold reportLabelEnd; dsimp only; repeat' split
  all_goals simp

@[simp] theorem reportLabelEnd_prescaler (c : Context) (s : State) :
    (reportLabelEnd c s).prescaler = s.prescaler := by
  unfold reportLabelEnd; dsimp only; repeat' split
  all_goals simp

@[simp] theorem reportLabelEnd_bpu (c : Context) (s : State) :
    (reportLabelEnd c s).bpu = s.bpu := by
  unfold reportLabelEnd; dsimp only; repeat' split
  all_goals simp

@[simp] theorem reportLabelEnd_bht (c : Context) (s : State) :
    (reportLabelEnd c s).bht = s.bht := by
  unfold reportLabelEnd; dsimp only; repeat' split
  all_goals simp

@[simp] theorem reportLabelEnd_lcu (c : Context) (s : State) :
    (reportLabelEnd c s).lcu = s.lcu := by
  unfold reportLabelEnd; dsimp only; repeat' split
  all_goals simp

@[simp] theorem reportLabelEnd_rsu (c : Context) (s : State) :
    (reportLabelEnd c s).rsu = s.rsu := by
  unfold reportLabelEnd; dsimp only; repeat' split
  all_goals simp

@[simp] theorem reportLabelEnd_seu (c : Context) (s : State) :
    (reportLabelEnd c s).seu = s.seu := by
  unfold reportLabelEnd; dsimp only; repeat' split
  all_goals simp

@[simp] theorem reportLabelEnd_hdu (c : Context) (s : State) :
    (reportLabelEnd c s).hdu = s.hdu := by
  unfold reportLabelEnd; dsimp only; repeat' split
  all_goals simp

@[simp] theorem reportLabelEnd_mtu (c : Context) (s : State) :
    (reportLabelEnd c s).mtu = s.mtu := by
  unfold reportLabelEnd; dsimp only; repeat' split
  all_goals simp

@[simp] theorem reportLabelEnd_msu (c : Context) (s : State) :
    (reportLabelEnd c s).msu = s.msu := by
  unfold reportLabelEnd; dsimp only; repeat' split
  all_goals simp

@[simp] theorem reportLabelEnd_htu (c : Context) (s : State) :
    (reportLabelEnd c s).htu = s.htu := by
  unfold reportLabelEnd; dsimp only; repeat' split
  all_goals simp

@[simp] theorem reportLabelEnd_asu (c : Context) (s : State) :
    (reportLabelEnd c s).asu = s.asu := by
  unfold reportLabelEnd; dsimp only; repeat' split
  all_goals simp

@[simp] theorem labelEnd_mem (s : State) :
    (labelEnd s).mem = s.mem := by
  unfold labelEnd; split <;> simp

@[simp] theorem labelEnd_pending (s : State) :
    (labelEnd s).pending = s.pending := by
  unfold labelEnd; split <;> simp

@[simp] theorem labelEnd_settings (s : State) :
    (labelEnd s).settings = s.settings := by
  unfold labelEnd; split <;> simp

@[simp] theorem labelEnd_prescaler (s : State) :
    (labelEnd s).prescaler = s.prescaler := by
  unfold labelEnd; split <;> simp

@[simp] theorem labelEnd_bpu (s : State) :
    (labelEnd s).bpu = s.bpu := by
  unfold labelEnd; split <;> simp

@[simp] theorem labelEnd_bht (s : State) :
    (labelEnd s).bht = s.bht := by
  unfold labelEnd; split <;> simp

@[simp] theorem labelEnd_rsu (s : State) :
    (labelEnd s).rsu = s.rsu := by
  unfold labelEnd; split <;> simp

@[simp] theorem labelEnd_seu (s : State) :
    (labelEnd s).seu = s.seu := by
  unfold labelEnd; split <;> simp

@[simp] theorem labelEnd_hdu (s : State) :
    (labelEnd s).hdu = s.hdu := by
  unfold labelEnd; split <;> simp

@[simp] theorem labelEnd_mtu (s : State) :
    (labelEnd s).mtu = s.mtu := by
  unfold labelEnd; split <;> simp

@[simp] theorem labelEnd_msu (s : State) :
    (labelEnd s).msu = s.msu := by
  unfold labelEnd; split <;> simp

@[simp] theorem labelEnd_htu (s : State) :
    (labelEnd s).htu = s.htu := by
  unfold labelEnd; split <;> simp

@[simp] theorem labelEnd_asu (s : State) :
    (labelEnd s).asu = s.asu := by
  unfold labelEnd; split <;> simp

@[simp] theorem discardFetch_mem (s : State) :
    (discardFetch s).mem = s.mem := by
  simp [discardFetch]

@[simp] theorem discardFetch_pending (s : State) :
    (discardFetch s).pending = s.pending := by
  simp [discardFetch]

@[simp] theorem discardFetch_settings (s : State) :
    (discardFetch s).settings = s.settings := by
  simp [discardFetch]

@[simp] theorem discardFetch_prescaler (s : State) :
    (discardFetch s).prescaler = s.prescaler := by
  simp [discardFetch]

@[simp] theorem discardFetch_bpu_resetLine (s : State) :
    (discardFetch s).bpu.resetLine = s.bpu.resetLine := by
  simp [discardFetch]

@[simp] theorem discardFetch_bpu_straps (s : State) :
    (discardFetch s).bpu.straps = s.bpu.straps := by
  simp [discardFetch]

@[simp] theorem discardFetch_bpu_engagement (s : State) :
    (discardFetch s).bpu.engagement = s.bpu.engagement := by
  simp [discardFetch]

@[simp] theorem discardFetch_bpu_reads (s : State) :
    (discardFetch s).bpu.reads = s.bpu.reads := by
  simp [discardFetch]

@[simp] theorem discardFetch_bpu_geometry (s : State) :
    (discardFetch s).bpu.geometry = s.bpu.geometry := by
  simp [discardFetch]

@[simp] theorem discardFetch_bpu_guard (s : State) :
    (discardFetch s).bpu.guard = s.bpu.guard := by
  simp [discardFetch]

@[simp] theorem discardFetch_bpu_latch (s : State) :
    (discardFetch s).bpu.latch = s.bpu.latch := by
  simp [discardFetch]

@[simp] theorem discardFetch_bht (s : State) :
    (discardFetch s).bht = s.bht := by
  simp [discardFetch]

@[simp] theorem discardFetch_lcu (s : State) :
    (discardFetch s).lcu = s.lcu := by
  simp [discardFetch]

@[simp] theorem discardFetch_rsu (s : State) :
    (discardFetch s).rsu = s.rsu := by
  simp [discardFetch]

@[simp] theorem discardFetch_seu (s : State) :
    (discardFetch s).seu = s.seu := by
  simp [discardFetch]

@[simp] theorem discardFetch_hdu (s : State) :
    (discardFetch s).hdu = s.hdu := by
  simp [discardFetch]

@[simp] theorem discardFetch_mtu (s : State) :
    (discardFetch s).mtu = s.mtu := by
  simp [discardFetch]

@[simp] theorem discardFetch_msu (s : State) :
    (discardFetch s).msu = s.msu := by
  simp [discardFetch]

@[simp] theorem discardFetch_htu (s : State) :
    (discardFetch s).htu = s.htu := by
  simp [discardFetch]

@[simp] theorem discardFetch_asu (s : State) :
    (discardFetch s).asu = s.asu := by
  simp [discardFetch]

@[simp] theorem discardHold_mem (s : State) :
    (discardHold s).mem = s.mem := by
  unfold discardHold; simp

@[simp] theorem discardHold_pending (s : State) :
    (discardHold s).pending = s.pending := by
  unfold discardHold; simp

@[simp] theorem discardHold_settings (s : State) :
    (discardHold s).settings = s.settings := by
  unfold discardHold; simp

@[simp] theorem discardHold_prescaler (s : State) :
    (discardHold s).prescaler = s.prescaler := by
  unfold discardHold; simp

@[simp] theorem discardHold_bpu_resetLine (s : State) :
    (discardHold s).bpu.resetLine = s.bpu.resetLine := by
  unfold discardHold; simp

@[simp] theorem discardHold_bpu_straps (s : State) :
    (discardHold s).bpu.straps = s.bpu.straps := by
  unfold discardHold; simp

@[simp] theorem discardHold_bpu_engagement (s : State) :
    (discardHold s).bpu.engagement = s.bpu.engagement := by
  unfold discardHold; simp

@[simp] theorem discardHold_bpu_reads (s : State) :
    (discardHold s).bpu.reads = s.bpu.reads := by
  unfold discardHold; simp

@[simp] theorem discardHold_bpu_geometry (s : State) :
    (discardHold s).bpu.geometry = s.bpu.geometry := by
  unfold discardHold; simp

@[simp] theorem discardHold_bpu_guard (s : State) :
    (discardHold s).bpu.guard = s.bpu.guard := by
  unfold discardHold; simp

@[simp] theorem discardHold_bpu_latch (s : State) :
    (discardHold s).bpu.latch = s.bpu.latch := by
  unfold discardHold; simp

@[simp] theorem discardHold_bht (s : State) :
    (discardHold s).bht = s.bht := by
  unfold discardHold; simp

@[simp] theorem discardHold_lcu (s : State) :
    (discardHold s).lcu = s.lcu := by
  unfold discardHold; simp

@[simp] theorem discardHold_rsu (s : State) :
    (discardHold s).rsu = s.rsu := by
  unfold discardHold; simp

@[simp] theorem discardHold_seu (s : State) :
    (discardHold s).seu = s.seu := by
  unfold discardHold; simp

@[simp] theorem discardHold_hdu (s : State) :
    (discardHold s).hdu = s.hdu := by
  unfold discardHold; simp

@[simp] theorem discardHold_mtu (s : State) :
    (discardHold s).mtu = s.mtu := by
  unfold discardHold; simp

@[simp] theorem discardHold_msu (s : State) :
    (discardHold s).msu = s.msu := by
  unfold discardHold; simp

@[simp] theorem discardHold_htu (s : State) :
    (discardHold s).htu = s.htu := by
  unfold discardHold; simp

@[simp] theorem discardHold_asu (s : State) :
    (discardHold s).asu = s.asu := by
  unfold discardHold; simp

@[simp] theorem dropFormat_mem (l : Idx) (s : State) :
    (dropFormat l s).mem = s.mem := by
  simp [dropFormat]

@[simp] theorem dropFormat_pending (l : Idx) (s : State) :
    (dropFormat l s).pending = s.pending := by
  simp [dropFormat]

@[simp] theorem dropFormat_settings (l : Idx) (s : State) :
    (dropFormat l s).settings = s.settings := by
  simp [dropFormat]

@[simp] theorem dropFormat_prescaler (l : Idx) (s : State) :
    (dropFormat l s).prescaler = s.prescaler := by
  simp [dropFormat]

@[simp] theorem dropFormat_bpu_resetLine (l : Idx) (s : State) :
    (dropFormat l s).bpu.resetLine = s.bpu.resetLine := by
  simp [dropFormat]

@[simp] theorem dropFormat_bpu_straps (l : Idx) (s : State) :
    (dropFormat l s).bpu.straps = s.bpu.straps := by
  simp [dropFormat]

@[simp] theorem dropFormat_bpu_engagement (l : Idx) (s : State) :
    (dropFormat l s).bpu.engagement = s.bpu.engagement := by
  simp [dropFormat]

@[simp] theorem dropFormat_bpu_reads (l : Idx) (s : State) :
    (dropFormat l s).bpu.reads = s.bpu.reads := by
  simp [dropFormat]

@[simp] theorem dropFormat_bpu_geometry (l : Idx) (s : State) :
    (dropFormat l s).bpu.geometry = s.bpu.geometry := by
  simp [dropFormat]

@[simp] theorem dropFormat_bpu_guard (l : Idx) (s : State) :
    (dropFormat l s).bpu.guard = s.bpu.guard := by
  simp [dropFormat]

@[simp] theorem dropFormat_bpu_latch (l : Idx) (s : State) :
    (dropFormat l s).bpu.latch = s.bpu.latch := by
  simp [dropFormat]

@[simp] theorem dropFormat_bht (l : Idx) (s : State) :
    (dropFormat l s).bht = s.bht := by
  simp [dropFormat]

@[simp] theorem dropFormat_rrd (l : Idx) (s : State) :
    (dropFormat l s).rrd = s.rrd := by
  simp [dropFormat]

@[simp] theorem dropFormat_lcu (l : Idx) (s : State) :
    (dropFormat l s).lcu = s.lcu := by
  simp [dropFormat]

@[simp] theorem dropFormat_rsu (l : Idx) (s : State) :
    (dropFormat l s).rsu = s.rsu := by
  simp [dropFormat]

@[simp] theorem dropFormat_seu (l : Idx) (s : State) :
    (dropFormat l s).seu = s.seu := by
  simp [dropFormat]

@[simp] theorem dropFormat_hdu (l : Idx) (s : State) :
    (dropFormat l s).hdu = s.hdu := by
  simp [dropFormat]

@[simp] theorem dropFormat_mtu (l : Idx) (s : State) :
    (dropFormat l s).mtu = s.mtu := by
  simp [dropFormat]

@[simp] theorem dropFormat_msu (l : Idx) (s : State) :
    (dropFormat l s).msu = s.msu := by
  simp [dropFormat]

@[simp] theorem dropFormat_htu (l : Idx) (s : State) :
    (dropFormat l s).htu = s.htu := by
  simp [dropFormat]

@[simp] theorem dropFormat_asu (l : Idx) (s : State) :
    (dropFormat l s).asu = s.asu := by
  simp [dropFormat]

@[simp] theorem spoilRewind_mem (c : Context) (n : Nat) (s : State) :
    (spoilRewind c n s).mem = s.mem := by
  unfold spoilRewind; dsimp only; repeat' split
  all_goals simp

@[simp] theorem spoilRewind_pending (c : Context) (n : Nat) (s : State) :
    (spoilRewind c n s).pending = s.pending := by
  unfold spoilRewind; dsimp only; repeat' split
  all_goals simp

@[simp] theorem spoilRewind_settings (c : Context) (n : Nat) (s : State) :
    (spoilRewind c n s).settings = s.settings := by
  unfold spoilRewind; dsimp only; repeat' split
  all_goals simp

@[simp] theorem spoilRewind_prescaler (c : Context) (n : Nat) (s : State) :
    (spoilRewind c n s).prescaler = s.prescaler := by
  unfold spoilRewind; dsimp only; repeat' split
  all_goals simp

@[simp] theorem spoilRewind_bpu_resetLine (c : Context) (n : Nat) (s : State) :
    (spoilRewind c n s).bpu.resetLine = s.bpu.resetLine := by
  unfold spoilRewind; dsimp only; repeat' split
  all_goals simp

@[simp] theorem spoilRewind_bpu_straps (c : Context) (n : Nat) (s : State) :
    (spoilRewind c n s).bpu.straps = s.bpu.straps := by
  unfold spoilRewind; dsimp only; repeat' split
  all_goals simp

@[simp] theorem spoilRewind_bpu_engagement (c : Context) (n : Nat) (s : State) :
    (spoilRewind c n s).bpu.engagement = s.bpu.engagement := by
  unfold spoilRewind; dsimp only; repeat' split
  all_goals simp

@[simp] theorem spoilRewind_bpu_reads (c : Context) (n : Nat) (s : State) :
    (spoilRewind c n s).bpu.reads = s.bpu.reads := by
  unfold spoilRewind; dsimp only; repeat' split
  all_goals simp

@[simp] theorem spoilRewind_bpu_geometry (c : Context) (n : Nat) (s : State) :
    (spoilRewind c n s).bpu.geometry = s.bpu.geometry := by
  unfold spoilRewind; dsimp only; repeat' split
  all_goals simp

@[simp] theorem spoilRewind_bpu_guard (c : Context) (n : Nat) (s : State) :
    (spoilRewind c n s).bpu.guard = s.bpu.guard := by
  unfold spoilRewind; dsimp only; repeat' split
  all_goals simp

@[simp] theorem spoilRewind_bpu_latch (c : Context) (n : Nat) (s : State) :
    (spoilRewind c n s).bpu.latch = s.bpu.latch := by
  unfold spoilRewind; dsimp only; repeat' split
  all_goals simp

@[simp] theorem spoilRewind_bht (c : Context) (n : Nat) (s : State) :
    (spoilRewind c n s).bht = s.bht := by
  unfold spoilRewind; dsimp only; repeat' split
  all_goals simp

@[simp] theorem spoilRewind_rsu (c : Context) (n : Nat) (s : State) :
    (spoilRewind c n s).rsu = s.rsu := by
  unfold spoilRewind; dsimp only; repeat' split
  all_goals simp

@[simp] theorem spoilRewind_seu (c : Context) (n : Nat) (s : State) :
    (spoilRewind c n s).seu = s.seu := by
  unfold spoilRewind; dsimp only; repeat' split
  all_goals simp

@[simp] theorem spoilRewind_hdu (c : Context) (n : Nat) (s : State) :
    (spoilRewind c n s).hdu = s.hdu := by
  unfold spoilRewind; dsimp only; repeat' split
  all_goals simp

@[simp] theorem spoilRewind_mtu (c : Context) (n : Nat) (s : State) :
    (spoilRewind c n s).mtu = s.mtu := by
  unfold spoilRewind; dsimp only; repeat' split
  all_goals simp

@[simp] theorem spoilRewind_msu (c : Context) (n : Nat) (s : State) :
    (spoilRewind c n s).msu = s.msu := by
  unfold spoilRewind; dsimp only; repeat' split
  all_goals simp

@[simp] theorem spoilRewind_htu (c : Context) (n : Nat) (s : State) :
    (spoilRewind c n s).htu = s.htu := by
  unfold spoilRewind; dsimp only; repeat' split
  all_goals simp

@[simp] theorem spoilRewind_asu (c : Context) (n : Nat) (s : State) :
    (spoilRewind c n s).asu = s.asu := by
  unfold spoilRewind; dsimp only; repeat' split
  all_goals simp

@[simp] theorem spoilCopy_mem (s : State) :
    (spoilCopy s).mem = s.mem := by
  unfold spoilCopy; dsimp only; repeat' split
  all_goals simp

@[simp] theorem spoilCopy_pending (s : State) :
    (spoilCopy s).pending = s.pending := by
  unfold spoilCopy; dsimp only; repeat' split
  all_goals simp

@[simp] theorem spoilCopy_settings (s : State) :
    (spoilCopy s).settings = s.settings := by
  unfold spoilCopy; dsimp only; repeat' split
  all_goals simp

@[simp] theorem spoilCopy_prescaler (s : State) :
    (spoilCopy s).prescaler = s.prescaler := by
  unfold spoilCopy; dsimp only; repeat' split
  all_goals simp

@[simp] theorem spoilCopy_bpu_resetLine (s : State) :
    (spoilCopy s).bpu.resetLine = s.bpu.resetLine := by
  unfold spoilCopy; dsimp only; repeat' split
  all_goals simp

@[simp] theorem spoilCopy_bpu_straps (s : State) :
    (spoilCopy s).bpu.straps = s.bpu.straps := by
  unfold spoilCopy; dsimp only; repeat' split
  all_goals simp

@[simp] theorem spoilCopy_bpu_engagement (s : State) :
    (spoilCopy s).bpu.engagement = s.bpu.engagement := by
  unfold spoilCopy; dsimp only; repeat' split
  all_goals simp

@[simp] theorem spoilCopy_bpu_reads (s : State) :
    (spoilCopy s).bpu.reads = s.bpu.reads := by
  unfold spoilCopy; dsimp only; repeat' split
  all_goals simp

@[simp] theorem spoilCopy_bpu_geometry (s : State) :
    (spoilCopy s).bpu.geometry = s.bpu.geometry := by
  unfold spoilCopy; dsimp only; repeat' split
  all_goals simp

@[simp] theorem spoilCopy_bpu_guard (s : State) :
    (spoilCopy s).bpu.guard = s.bpu.guard := by
  unfold spoilCopy; dsimp only; repeat' split
  all_goals simp

@[simp] theorem spoilCopy_bpu_latch (s : State) :
    (spoilCopy s).bpu.latch = s.bpu.latch := by
  unfold spoilCopy; dsimp only; repeat' split
  all_goals simp

@[simp] theorem spoilCopy_bht (s : State) :
    (spoilCopy s).bht = s.bht := by
  unfold spoilCopy; dsimp only; repeat' split
  all_goals simp

@[simp] theorem spoilCopy_mtu (s : State) :
    (spoilCopy s).mtu = s.mtu := by
  unfold spoilCopy; dsimp only; repeat' split
  all_goals simp

@[simp] theorem spoilCopy_msu (s : State) :
    (spoilCopy s).msu = s.msu := by
  unfold spoilCopy; dsimp only; repeat' split
  all_goals simp

@[simp] theorem spoilCopy_htu (s : State) :
    (spoilCopy s).htu = s.htu := by
  unfold spoilCopy; dsimp only; repeat' split
  all_goals simp

@[simp] theorem spoilCopy_asu (s : State) :
    (spoilCopy s).asu = s.asu := by
  unfold spoilCopy; dsimp only; repeat' split
  all_goals simp

@[simp] theorem faultStop_mem (s : State) :
    (faultStop s).mem = s.mem := by
  unfold faultStop; dsimp only; split <;> simp

@[simp] theorem faultStop_pending (s : State) :
    (faultStop s).pending = s.pending := by
  unfold faultStop; dsimp only; split <;> simp

@[simp] theorem faultStop_settings (s : State) :
    (faultStop s).settings = s.settings := by
  unfold faultStop; dsimp only; split <;> simp

@[simp] theorem faultStop_prescaler (s : State) :
    (faultStop s).prescaler = s.prescaler := by
  unfold faultStop; dsimp only; split <;> simp

@[simp] theorem faultStop_bpu (s : State) :
    (faultStop s).bpu = s.bpu := by
  unfold faultStop; dsimp only; split <;> simp

@[simp] theorem faultStop_bht (s : State) :
    (faultStop s).bht = s.bht := by
  unfold faultStop; dsimp only; split <;> simp

@[simp] theorem faultStop_rrd (s : State) :
    (faultStop s).rrd = s.rrd := by
  unfold faultStop; dsimp only; split <;> simp

@[simp] theorem faultStop_rsu (s : State) :
    (faultStop s).rsu = s.rsu := by
  unfold faultStop; dsimp only; split <;> simp

@[simp] theorem faultStop_asu (s : State) :
    (faultStop s).asu = s.asu := by
  unfold faultStop; dsimp only; split <;> simp

@[simp] theorem takeFault_mem (r : FaultReason) (s : State) :
    (takeFault r s).mem = s.mem := by
  unfold takeFault; dsimp only; split <;> simp

@[simp] theorem takeFault_pending (r : FaultReason) (s : State) :
    (takeFault r s).pending = s.pending := by
  unfold takeFault; dsimp only; split <;> simp

@[simp] theorem takeFault_settings (r : FaultReason) (s : State) :
    (takeFault r s).settings = s.settings := by
  unfold takeFault; dsimp only; split <;> simp

@[simp] theorem takeFault_prescaler (r : FaultReason) (s : State) :
    (takeFault r s).prescaler = s.prescaler := by
  unfold takeFault; dsimp only; split <;> simp

@[simp] theorem takeFault_bpu_resetLine (r : FaultReason) (s : State) :
    (takeFault r s).bpu.resetLine = s.bpu.resetLine := by
  unfold takeFault; dsimp only; split <;> simp

@[simp] theorem takeFault_bpu_straps (r : FaultReason) (s : State) :
    (takeFault r s).bpu.straps = s.bpu.straps := by
  unfold takeFault; dsimp only; split <;> simp

@[simp] theorem takeFault_bpu_engagement (r : FaultReason) (s : State) :
    (takeFault r s).bpu.engagement = s.bpu.engagement := by
  unfold takeFault; dsimp only; split <;> simp

@[simp] theorem takeFault_bpu_reads (r : FaultReason) (s : State) :
    (takeFault r s).bpu.reads = s.bpu.reads := by
  unfold takeFault; dsimp only; split <;> simp

@[simp] theorem takeFault_bpu_geometry (r : FaultReason) (s : State) :
    (takeFault r s).bpu.geometry = s.bpu.geometry := by
  unfold takeFault; dsimp only; split <;> simp

@[simp] theorem takeFault_bpu_guard (r : FaultReason) (s : State) :
    (takeFault r s).bpu.guard = s.bpu.guard := by
  unfold takeFault; dsimp only; split <;> simp

@[simp] theorem takeFault_bpu_latch (r : FaultReason) (s : State) :
    (takeFault r s).bpu.latch = s.bpu.latch := by
  unfold takeFault; dsimp only; split <;> simp

@[simp] theorem takeFault_bht (r : FaultReason) (s : State) :
    (takeFault r s).bht = s.bht := by
  unfold takeFault; dsimp only; split <;> simp

@[simp] theorem reportFault_mem (r : FaultReason) (s : State) :
    (reportFault r s).mem = s.mem := by
  unfold reportFault; repeat' split
  all_goals simp

@[simp] theorem reportFault_pending (r : FaultReason) (s : State) :
    (reportFault r s).pending = s.pending := by
  unfold reportFault; repeat' split
  all_goals simp

@[simp] theorem reportFault_settings (r : FaultReason) (s : State) :
    (reportFault r s).settings = s.settings := by
  unfold reportFault; repeat' split
  all_goals simp

@[simp] theorem reportFault_prescaler (r : FaultReason) (s : State) :
    (reportFault r s).prescaler = s.prescaler := by
  unfold reportFault; repeat' split
  all_goals simp

@[simp] theorem reportFault_bpu_resetLine (r : FaultReason) (s : State) :
    (reportFault r s).bpu.resetLine = s.bpu.resetLine := by
  unfold reportFault; repeat' split
  all_goals simp

@[simp] theorem reportFault_bpu_straps (r : FaultReason) (s : State) :
    (reportFault r s).bpu.straps = s.bpu.straps := by
  unfold reportFault; repeat' split
  all_goals simp

@[simp] theorem reportFault_bpu_engagement (r : FaultReason) (s : State) :
    (reportFault r s).bpu.engagement = s.bpu.engagement := by
  unfold reportFault; repeat' split
  all_goals simp

@[simp] theorem reportFault_bpu_reads (r : FaultReason) (s : State) :
    (reportFault r s).bpu.reads = s.bpu.reads := by
  unfold reportFault; repeat' split
  all_goals simp

@[simp] theorem reportFault_bpu_geometry (r : FaultReason) (s : State) :
    (reportFault r s).bpu.geometry = s.bpu.geometry := by
  unfold reportFault; repeat' split
  all_goals simp

@[simp] theorem reportFault_bpu_guard (r : FaultReason) (s : State) :
    (reportFault r s).bpu.guard = s.bpu.guard := by
  unfold reportFault; repeat' split
  all_goals simp

@[simp] theorem reportFault_bpu_latch (r : FaultReason) (s : State) :
    (reportFault r s).bpu.latch = s.bpu.latch := by
  unfold reportFault; repeat' split
  all_goals simp

@[simp] theorem reportFault_bht (r : FaultReason) (s : State) :
    (reportFault r s).bht = s.bht := by
  unfold reportFault; repeat' split
  all_goals simp

@[simp] theorem loseRegistration_mem (n : Nat) (s : State) :
    (loseRegistration n s).mem = s.mem := by
  unfold loseRegistration raiseRegLost; split <;> simp

@[simp] theorem loseRegistration_pending (n : Nat) (s : State) :
    (loseRegistration n s).pending = s.pending := by
  unfold loseRegistration raiseRegLost; split <;> simp

@[simp] theorem loseRegistration_settings (n : Nat) (s : State) :
    (loseRegistration n s).settings = s.settings := by
  unfold loseRegistration raiseRegLost; split <;> simp

@[simp] theorem loseRegistration_prescaler (n : Nat) (s : State) :
    (loseRegistration n s).prescaler = s.prescaler := by
  unfold loseRegistration raiseRegLost; split <;> simp

@[simp] theorem loseRegistration_bpu_resetLine (n : Nat) (s : State) :
    (loseRegistration n s).bpu.resetLine = s.bpu.resetLine := by
  unfold loseRegistration raiseRegLost; split <;> simp

@[simp] theorem loseRegistration_bpu_straps (n : Nat) (s : State) :
    (loseRegistration n s).bpu.straps = s.bpu.straps := by
  unfold loseRegistration raiseRegLost; split <;> simp

@[simp] theorem loseRegistration_bpu_engagement (n : Nat) (s : State) :
    (loseRegistration n s).bpu.engagement = s.bpu.engagement := by
  unfold loseRegistration raiseRegLost; split <;> simp

@[simp] theorem loseRegistration_bpu_reads (n : Nat) (s : State) :
    (loseRegistration n s).bpu.reads = s.bpu.reads := by
  unfold loseRegistration raiseRegLost; split <;> simp

@[simp] theorem loseRegistration_bpu_geometry (n : Nat) (s : State) :
    (loseRegistration n s).bpu.geometry = s.bpu.geometry := by
  unfold loseRegistration raiseRegLost; split <;> simp

@[simp] theorem loseRegistration_bpu_guard (n : Nat) (s : State) :
    (loseRegistration n s).bpu.guard = s.bpu.guard := by
  unfold loseRegistration raiseRegLost; split <;> simp

@[simp] theorem loseRegistration_bpu_latch (n : Nat) (s : State) :
    (loseRegistration n s).bpu.latch = s.bpu.latch := by
  unfold loseRegistration raiseRegLost; split <;> simp

@[simp] theorem loseRegistration_bht (n : Nat) (s : State) :
    (loseRegistration n s).bht = s.bht := by
  unfold loseRegistration raiseRegLost; split <;> simp

@[simp] theorem loseRegistration_rrd (n : Nat) (s : State) :
    (loseRegistration n s).rrd = s.rrd := by
  unfold loseRegistration raiseRegLost; split <;> simp

@[simp] theorem loseRegistration_lcu (n : Nat) (s : State) :
    (loseRegistration n s).lcu = s.lcu := by
  unfold loseRegistration raiseRegLost; split <;> simp

@[simp] theorem loseRegistration_rsu (n : Nat) (s : State) :
    (loseRegistration n s).rsu = s.rsu := by
  unfold loseRegistration raiseRegLost; split <;> simp

@[simp] theorem loseRegistration_seu (n : Nat) (s : State) :
    (loseRegistration n s).seu = s.seu := by
  unfold loseRegistration raiseRegLost; split <;> simp

@[simp] theorem loseRegistration_hdu (n : Nat) (s : State) :
    (loseRegistration n s).hdu = s.hdu := by
  unfold loseRegistration raiseRegLost; split <;> simp

@[simp] theorem loseRegistration_mtu (n : Nat) (s : State) :
    (loseRegistration n s).mtu = s.mtu := by
  unfold loseRegistration raiseRegLost; split <;> simp

@[simp] theorem loseRegistration_htu (n : Nat) (s : State) :
    (loseRegistration n s).htu = s.htu := by
  unfold loseRegistration raiseRegLost; split <;> simp

@[simp] theorem startCalibration_mem (s : State) :
    (startCalibration s).mem = s.mem := by
  unfold startCalibration; simp

@[simp] theorem startCalibration_pending (s : State) :
    (startCalibration s).pending = s.pending := by
  unfold startCalibration; simp

@[simp] theorem startCalibration_settings (s : State) :
    (startCalibration s).settings = s.settings := by
  unfold startCalibration; simp

@[simp] theorem startCalibration_prescaler (s : State) :
    (startCalibration s).prescaler = s.prescaler := by
  unfold startCalibration; simp

@[simp] theorem startCalibration_bpu_resetLine (s : State) :
    (startCalibration s).bpu.resetLine = s.bpu.resetLine := by
  unfold startCalibration; simp

@[simp] theorem startCalibration_bpu_straps (s : State) :
    (startCalibration s).bpu.straps = s.bpu.straps := by
  unfold startCalibration; simp

@[simp] theorem startCalibration_bpu_engagement (s : State) :
    (startCalibration s).bpu.engagement = s.bpu.engagement := by
  unfold startCalibration; simp

@[simp] theorem startCalibration_bpu_reads (s : State) :
    (startCalibration s).bpu.reads = s.bpu.reads := by
  unfold startCalibration; simp

@[simp] theorem startCalibration_bpu_geometry (s : State) :
    (startCalibration s).bpu.geometry = s.bpu.geometry := by
  unfold startCalibration; simp

@[simp] theorem startCalibration_bpu_guard (s : State) :
    (startCalibration s).bpu.guard = s.bpu.guard := by
  unfold startCalibration; simp

@[simp] theorem startCalibration_bpu_latch (s : State) :
    (startCalibration s).bpu.latch = s.bpu.latch := by
  unfold startCalibration; simp

@[simp] theorem startCalibration_bht (s : State) :
    (startCalibration s).bht = s.bht := by
  unfold startCalibration; simp

@[simp] theorem startCalibration_rrd (s : State) :
    (startCalibration s).rrd = s.rrd := by
  unfold startCalibration; simp

@[simp] theorem startCalibration_lcu (s : State) :
    (startCalibration s).lcu = s.lcu := by
  unfold startCalibration; simp

@[simp] theorem startCalibration_rsu (s : State) :
    (startCalibration s).rsu = s.rsu := by
  unfold startCalibration; simp

@[simp] theorem startCalibration_seu (s : State) :
    (startCalibration s).seu = s.seu := by
  unfold startCalibration; simp

@[simp] theorem startCalibration_hdu (s : State) :
    (startCalibration s).hdu = s.hdu := by
  unfold startCalibration; simp

@[simp] theorem startCalibration_mtu (s : State) :
    (startCalibration s).mtu = s.mtu := by
  unfold startCalibration; simp

@[simp] theorem startCalibration_htu (s : State) :
    (startCalibration s).htu = s.htu := by
  unfold startCalibration; simp

@[simp] theorem finishCalibration_mem (e : Edge) (s : State) :
    (finishCalibration e s).mem = s.mem := by
  unfold finishCalibration; simp

@[simp] theorem finishCalibration_pending (e : Edge) (s : State) :
    (finishCalibration e s).pending = s.pending := by
  unfold finishCalibration; simp

@[simp] theorem finishCalibration_settings (e : Edge) (s : State) :
    (finishCalibration e s).settings = s.settings := by
  unfold finishCalibration; simp

@[simp] theorem finishCalibration_prescaler (e : Edge) (s : State) :
    (finishCalibration e s).prescaler = s.prescaler := by
  unfold finishCalibration; simp

@[simp] theorem finishCalibration_bpu_resetLine (e : Edge) (s : State) :
    (finishCalibration e s).bpu.resetLine = s.bpu.resetLine := by
  unfold finishCalibration; simp

@[simp] theorem finishCalibration_bpu_straps (e : Edge) (s : State) :
    (finishCalibration e s).bpu.straps = s.bpu.straps := by
  unfold finishCalibration; simp

@[simp] theorem finishCalibration_bpu_engagement (e : Edge) (s : State) :
    (finishCalibration e s).bpu.engagement = s.bpu.engagement := by
  unfold finishCalibration; simp

@[simp] theorem finishCalibration_bpu_reads (e : Edge) (s : State) :
    (finishCalibration e s).bpu.reads = s.bpu.reads := by
  unfold finishCalibration; simp

@[simp] theorem finishCalibration_bpu_geometry (e : Edge) (s : State) :
    (finishCalibration e s).bpu.geometry = s.bpu.geometry := by
  unfold finishCalibration; simp

@[simp] theorem finishCalibration_bpu_guard (e : Edge) (s : State) :
    (finishCalibration e s).bpu.guard = s.bpu.guard := by
  unfold finishCalibration; simp

@[simp] theorem finishCalibration_bpu_latch (e : Edge) (s : State) :
    (finishCalibration e s).bpu.latch = s.bpu.latch := by
  unfold finishCalibration; simp

@[simp] theorem finishCalibration_bht (e : Edge) (s : State) :
    (finishCalibration e s).bht = s.bht := by
  unfold finishCalibration; simp

@[simp] theorem finishCalibration_rrd (e : Edge) (s : State) :
    (finishCalibration e s).rrd = s.rrd := by
  unfold finishCalibration; simp

@[simp] theorem finishCalibration_lcu (e : Edge) (s : State) :
    (finishCalibration e s).lcu = s.lcu := by
  unfold finishCalibration; simp

@[simp] theorem finishCalibration_rsu (e : Edge) (s : State) :
    (finishCalibration e s).rsu = s.rsu := by
  unfold finishCalibration; simp

@[simp] theorem finishCalibration_seu (e : Edge) (s : State) :
    (finishCalibration e s).seu = s.seu := by
  unfold finishCalibration; simp

@[simp] theorem finishCalibration_hdu (e : Edge) (s : State) :
    (finishCalibration e s).hdu = s.hdu := by
  unfold finishCalibration; simp

@[simp] theorem finishCalibration_mtu (e : Edge) (s : State) :
    (finishCalibration e s).mtu = s.mtu := by
  unfold finishCalibration; simp

@[simp] theorem finishCalibration_htu (e : Edge) (s : State) :
    (finishCalibration e s).htu = s.htu := by
  unfold finishCalibration; simp

/-! ## Steps, starts and rests -/

@[simp] theorem endCopyRows_mem (c : Context) (s : State) :
    (endCopyRows c s).mem = s.mem := by
  unfold endCopyRows; dsimp only; split <;> simp

@[simp] theorem endCopyRows_pending (c : Context) (s : State) :
    (endCopyRows c s).pending = s.pending := by
  unfold endCopyRows; dsimp only; split <;> simp

@[simp] theorem endCopyRows_settings (c : Context) (s : State) :
    (endCopyRows c s).settings = s.settings := by
  unfold endCopyRows; dsimp only; split <;> simp

@[simp] theorem endCopyRows_prescaler (c : Context) (s : State) :
    (endCopyRows c s).prescaler = s.prescaler := by
  unfold endCopyRows; dsimp only; split <;> simp

@[simp] theorem endCopyRows_bpu_resetLine (c : Context) (s : State) :
    (endCopyRows c s).bpu.resetLine = s.bpu.resetLine := by
  unfold endCopyRows; dsimp only; split <;> simp

@[simp] theorem endCopyRows_bpu_straps (c : Context) (s : State) :
    (endCopyRows c s).bpu.straps = s.bpu.straps := by
  unfold endCopyRows; dsimp only; split <;> simp

@[simp] theorem endCopyRows_bpu_engagement (c : Context) (s : State) :
    (endCopyRows c s).bpu.engagement = s.bpu.engagement := by
  unfold endCopyRows; dsimp only; split <;> simp

@[simp] theorem endCopyRows_bpu_reads (c : Context) (s : State) :
    (endCopyRows c s).bpu.reads = s.bpu.reads := by
  unfold endCopyRows; dsimp only; split <;> simp

@[simp] theorem endCopyRows_bpu_geometry (c : Context) (s : State) :
    (endCopyRows c s).bpu.geometry = s.bpu.geometry := by
  unfold endCopyRows; dsimp only; split <;> simp

@[simp] theorem endCopyRows_bpu_guard (c : Context) (s : State) :
    (endCopyRows c s).bpu.guard = s.bpu.guard := by
  unfold endCopyRows; dsimp only; split <;> simp

@[simp] theorem endCopyRows_bpu_latch (c : Context) (s : State) :
    (endCopyRows c s).bpu.latch = s.bpu.latch := by
  unfold endCopyRows; dsimp only; split <;> simp

@[simp] theorem endCopyRows_bht (c : Context) (s : State) :
    (endCopyRows c s).bht = s.bht := by
  unfold endCopyRows; dsimp only; split <;> simp

@[simp] theorem endCopyRows_rrd (c : Context) (s : State) :
    (endCopyRows c s).rrd = s.rrd := by
  unfold endCopyRows; dsimp only; split <;> simp

@[simp] theorem endCopyRows_lcu (c : Context) (s : State) :
    (endCopyRows c s).lcu = s.lcu := by
  unfold endCopyRows; dsimp only; split <;> simp

@[simp] theorem endCopyRows_mtu (c : Context) (s : State) :
    (endCopyRows c s).mtu = s.mtu := by
  unfold endCopyRows; dsimp only; split <;> simp

@[simp] theorem endCopyRows_msu (c : Context) (s : State) :
    (endCopyRows c s).msu = s.msu := by
  unfold endCopyRows; dsimp only; split <;> simp

@[simp] theorem endCopyRows_htu (c : Context) (s : State) :
    (endCopyRows c s).htu = s.htu := by
  unfold endCopyRows; dsimp only; split <;> simp

@[simp] theorem continueCopy_mem (s : State) :
    (continueCopy s).mem = s.mem := by
  simp [continueCopy]

@[simp] theorem continueCopy_pending (s : State) :
    (continueCopy s).pending = s.pending := by
  simp [continueCopy]

@[simp] theorem continueCopy_settings (s : State) :
    (continueCopy s).settings = s.settings := by
  simp [continueCopy]

@[simp] theorem continueCopy_prescaler (s : State) :
    (continueCopy s).prescaler = s.prescaler := by
  simp [continueCopy]

@[simp] theorem continueCopy_bpu (s : State) :
    (continueCopy s).bpu = s.bpu := by
  simp [continueCopy]

@[simp] theorem continueCopy_bht (s : State) :
    (continueCopy s).bht = s.bht := by
  simp [continueCopy]

@[simp] theorem continueCopy_rrd (s : State) :
    (continueCopy s).rrd = s.rrd := by
  simp [continueCopy]

@[simp] theorem continueCopy_rsu (s : State) :
    (continueCopy s).rsu = s.rsu := by
  simp [continueCopy]

@[simp] theorem continueCopy_seu (s : State) :
    (continueCopy s).seu = s.seu := by
  simp [continueCopy]

@[simp] theorem continueCopy_hdu (s : State) :
    (continueCopy s).hdu = s.hdu := by
  simp [continueCopy]

@[simp] theorem continueCopy_mtu (s : State) :
    (continueCopy s).mtu = s.mtu := by
  simp [continueCopy]

@[simp] theorem continueCopy_msu (s : State) :
    (continueCopy s).msu = s.msu := by
  simp [continueCopy]

@[simp] theorem continueCopy_htu (s : State) :
    (continueCopy s).htu = s.htu := by
  simp [continueCopy]

@[simp] theorem continueCopy_asu (s : State) :
    (continueCopy s).asu = s.asu := by
  simp [continueCopy]

@[simp] theorem present_mem (s : State) :
    (present s).mem = s.mem := by
  simp [present]

@[simp] theorem present_pending (s : State) :
    (present s).pending = s.pending := by
  simp [present]

@[simp] theorem present_settings (s : State) :
    (present s).settings = s.settings := by
  simp [present]

@[simp] theorem present_prescaler (s : State) :
    (present s).prescaler = s.prescaler := by
  simp [present]

@[simp] theorem present_bpu_resetLine (s : State) :
    (present s).bpu.resetLine = s.bpu.resetLine := by
  simp [present]

@[simp] theorem present_bpu_straps (s : State) :
    (present s).bpu.straps = s.bpu.straps := by
  simp [present]

@[simp] theorem present_bpu_engagement (s : State) :
    (present s).bpu.engagement = s.bpu.engagement := by
  simp [present]

@[simp] theorem present_bpu_reads (s : State) :
    (present s).bpu.reads = s.bpu.reads := by
  simp [present]

@[simp] theorem present_bpu_geometry (s : State) :
    (present s).bpu.geometry = s.bpu.geometry := by
  simp [present]

@[simp] theorem present_bpu_guard (s : State) :
    (present s).bpu.guard = s.bpu.guard := by
  simp [present]

@[simp] theorem present_bpu_latch (s : State) :
    (present s).bpu.latch = s.bpu.latch := by
  simp [present]

@[simp] theorem present_bht (s : State) :
    (present s).bht = s.bht := by
  simp [present]

@[simp] theorem present_rrd (s : State) :
    (present s).rrd = s.rrd := by
  simp [present]

@[simp] theorem present_rsu (s : State) :
    (present s).rsu = s.rsu := by
  simp [present]

@[simp] theorem present_seu (s : State) :
    (present s).seu = s.seu := by
  simp [present]

@[simp] theorem present_hdu (s : State) :
    (present s).hdu = s.hdu := by
  simp [present]

@[simp] theorem present_msu (s : State) :
    (present s).msu = s.msu := by
  simp [present]

@[simp] theorem present_asu (s : State) :
    (present s).asu = s.asu := by
  simp [present]

@[simp] theorem copyEnd_mem (s : State) :
    (copyEnd s).mem = s.mem := by
  unfold copyEnd; dsimp only; repeat' split
  all_goals simp

@[simp] theorem copyEnd_pending (s : State) :
    (copyEnd s).pending = s.pending := by
  unfold copyEnd; dsimp only; repeat' split
  all_goals simp

@[simp] theorem copyEnd_settings (s : State) :
    (copyEnd s).settings = s.settings := by
  unfold copyEnd; dsimp only; repeat' split
  all_goals simp

@[simp] theorem copyEnd_prescaler (s : State) :
    (copyEnd s).prescaler = s.prescaler := by
  unfold copyEnd; dsimp only; repeat' split
  all_goals simp

@[simp] theorem copyEnd_bpu_resetLine (s : State) :
    (copyEnd s).bpu.resetLine = s.bpu.resetLine := by
  unfold copyEnd; dsimp only; repeat' split
  all_goals simp

@[simp] theorem copyEnd_bpu_straps (s : State) :
    (copyEnd s).bpu.straps = s.bpu.straps := by
  unfold copyEnd; dsimp only; repeat' split
  all_goals simp

@[simp] theorem copyEnd_bpu_engagement (s : State) :
    (copyEnd s).bpu.engagement = s.bpu.engagement := by
  unfold copyEnd; dsimp only; repeat' split
  all_goals simp

@[simp] theorem copyEnd_bpu_reads (s : State) :
    (copyEnd s).bpu.reads = s.bpu.reads := by
  unfold copyEnd; dsimp only; repeat' split
  all_goals simp

@[simp] theorem copyEnd_bpu_geometry (s : State) :
    (copyEnd s).bpu.geometry = s.bpu.geometry := by
  unfold copyEnd; dsimp only; repeat' split
  all_goals simp

@[simp] theorem copyEnd_bpu_guard (s : State) :
    (copyEnd s).bpu.guard = s.bpu.guard := by
  unfold copyEnd; dsimp only; repeat' split
  all_goals simp

@[simp] theorem copyEnd_bpu_latch (s : State) :
    (copyEnd s).bpu.latch = s.bpu.latch := by
  unfold copyEnd; dsimp only; repeat' split
  all_goals simp

@[simp] theorem copyEnd_bht (s : State) :
    (copyEnd s).bht = s.bht := by
  unfold copyEnd; dsimp only; repeat' split
  all_goals simp

@[simp] theorem judgeCopyEnd_mem (b : Bool) (s : State) :
    (judgeCopyEnd b s).mem = s.mem := by
  unfold judgeCopyEnd; split <;> simp

@[simp] theorem judgeCopyEnd_pending (b : Bool) (s : State) :
    (judgeCopyEnd b s).pending = s.pending := by
  unfold judgeCopyEnd; split <;> simp

@[simp] theorem judgeCopyEnd_settings (b : Bool) (s : State) :
    (judgeCopyEnd b s).settings = s.settings := by
  unfold judgeCopyEnd; split <;> simp

@[simp] theorem judgeCopyEnd_prescaler (b : Bool) (s : State) :
    (judgeCopyEnd b s).prescaler = s.prescaler := by
  unfold judgeCopyEnd; split <;> simp

@[simp] theorem judgeCopyEnd_bpu_resetLine (b : Bool) (s : State) :
    (judgeCopyEnd b s).bpu.resetLine = s.bpu.resetLine := by
  unfold judgeCopyEnd; split <;> simp

@[simp] theorem judgeCopyEnd_bpu_straps (b : Bool) (s : State) :
    (judgeCopyEnd b s).bpu.straps = s.bpu.straps := by
  unfold judgeCopyEnd; split <;> simp

@[simp] theorem judgeCopyEnd_bpu_engagement (b : Bool) (s : State) :
    (judgeCopyEnd b s).bpu.engagement = s.bpu.engagement := by
  unfold judgeCopyEnd; split <;> simp

@[simp] theorem judgeCopyEnd_bpu_reads (b : Bool) (s : State) :
    (judgeCopyEnd b s).bpu.reads = s.bpu.reads := by
  unfold judgeCopyEnd; split <;> simp

@[simp] theorem judgeCopyEnd_bpu_geometry (b : Bool) (s : State) :
    (judgeCopyEnd b s).bpu.geometry = s.bpu.geometry := by
  unfold judgeCopyEnd; split <;> simp

@[simp] theorem judgeCopyEnd_bpu_guard (b : Bool) (s : State) :
    (judgeCopyEnd b s).bpu.guard = s.bpu.guard := by
  unfold judgeCopyEnd; split <;> simp

@[simp] theorem judgeCopyEnd_bpu_latch (b : Bool) (s : State) :
    (judgeCopyEnd b s).bpu.latch = s.bpu.latch := by
  unfold judgeCopyEnd; split <;> simp

@[simp] theorem judgeCopyEnd_bht (b : Bool) (s : State) :
    (judgeCopyEnd b s).bht = s.bht := by
  unfold judgeCopyEnd; split <;> simp

@[simp] theorem judgeLimits_mem (s : State) :
    (judgeLimits s).mem = s.mem := by
  unfold judgeLimits; split <;> simp

@[simp] theorem judgeLimits_pending (s : State) :
    (judgeLimits s).pending = s.pending := by
  unfold judgeLimits; split <;> simp

@[simp] theorem judgeLimits_settings (s : State) :
    (judgeLimits s).settings = s.settings := by
  unfold judgeLimits; split <;> simp

@[simp] theorem judgeLimits_prescaler (s : State) :
    (judgeLimits s).prescaler = s.prescaler := by
  unfold judgeLimits; split <;> simp

@[simp] theorem judgeLimits_bpu_resetLine (s : State) :
    (judgeLimits s).bpu.resetLine = s.bpu.resetLine := by
  unfold judgeLimits; split <;> simp

@[simp] theorem judgeLimits_bpu_straps (s : State) :
    (judgeLimits s).bpu.straps = s.bpu.straps := by
  unfold judgeLimits; split <;> simp

@[simp] theorem judgeLimits_bpu_engagement (s : State) :
    (judgeLimits s).bpu.engagement = s.bpu.engagement := by
  unfold judgeLimits; split <;> simp

@[simp] theorem judgeLimits_bpu_reads (s : State) :
    (judgeLimits s).bpu.reads = s.bpu.reads := by
  unfold judgeLimits; split <;> simp

@[simp] theorem judgeLimits_bpu_geometry (s : State) :
    (judgeLimits s).bpu.geometry = s.bpu.geometry := by
  unfold judgeLimits; split <;> simp

@[simp] theorem judgeLimits_bpu_guard (s : State) :
    (judgeLimits s).bpu.guard = s.bpu.guard := by
  unfold judgeLimits; split <;> simp

@[simp] theorem judgeLimits_bpu_latch (s : State) :
    (judgeLimits s).bpu.latch = s.bpu.latch := by
  unfold judgeLimits; split <;> simp

@[simp] theorem judgeLimits_bht (s : State) :
    (judgeLimits s).bht = s.bht := by
  unfold judgeLimits; split <;> simp

@[simp] theorem failCalibration_mem (r : CalRun) (s : State) :
    (failCalibration r s).mem = s.mem := by
  unfold failCalibration; dsimp only; split <;> simp

@[simp] theorem failCalibration_pending (r : CalRun) (s : State) :
    (failCalibration r s).pending = s.pending := by
  unfold failCalibration; dsimp only; split <;> simp

@[simp] theorem failCalibration_settings (r : CalRun) (s : State) :
    (failCalibration r s).settings = s.settings := by
  unfold failCalibration; dsimp only; split <;> simp

@[simp] theorem failCalibration_prescaler (r : CalRun) (s : State) :
    (failCalibration r s).prescaler = s.prescaler := by
  unfold failCalibration; dsimp only; split <;> simp

@[simp] theorem failCalibration_bpu_resetLine (r : CalRun) (s : State) :
    (failCalibration r s).bpu.resetLine = s.bpu.resetLine := by
  unfold failCalibration; dsimp only; split <;> simp

@[simp] theorem failCalibration_bpu_straps (r : CalRun) (s : State) :
    (failCalibration r s).bpu.straps = s.bpu.straps := by
  unfold failCalibration; dsimp only; split <;> simp

@[simp] theorem failCalibration_bpu_engagement (r : CalRun) (s : State) :
    (failCalibration r s).bpu.engagement = s.bpu.engagement := by
  unfold failCalibration; dsimp only; split <;> simp

@[simp] theorem failCalibration_bpu_reads (r : CalRun) (s : State) :
    (failCalibration r s).bpu.reads = s.bpu.reads := by
  unfold failCalibration; dsimp only; split <;> simp

@[simp] theorem failCalibration_bpu_geometry (r : CalRun) (s : State) :
    (failCalibration r s).bpu.geometry = s.bpu.geometry := by
  unfold failCalibration; dsimp only; split <;> simp

@[simp] theorem failCalibration_bpu_guard (r : CalRun) (s : State) :
    (failCalibration r s).bpu.guard = s.bpu.guard := by
  unfold failCalibration; dsimp only; split <;> simp

@[simp] theorem failCalibration_bpu_latch (r : CalRun) (s : State) :
    (failCalibration r s).bpu.latch = s.bpu.latch := by
  unfold failCalibration; dsimp only; split <;> simp

@[simp] theorem failCalibration_bht (r : CalRun) (s : State) :
    (failCalibration r s).bht = s.bht := by
  unfold failCalibration; dsimp only; split <;> simp

@[simp] theorem countCalibration_mem (s : State) :
    (countCalibration s).mem = s.mem := by
  unfold countCalibration; dsimp only; repeat' split
  all_goals simp

@[simp] theorem countCalibration_pending (s : State) :
    (countCalibration s).pending = s.pending := by
  unfold countCalibration; dsimp only; repeat' split
  all_goals simp

@[simp] theorem countCalibration_settings (s : State) :
    (countCalibration s).settings = s.settings := by
  unfold countCalibration; dsimp only; repeat' split
  all_goals simp

@[simp] theorem countCalibration_prescaler (s : State) :
    (countCalibration s).prescaler = s.prescaler := by
  unfold countCalibration; dsimp only; repeat' split
  all_goals simp

@[simp] theorem countCalibration_bpu_resetLine (s : State) :
    (countCalibration s).bpu.resetLine = s.bpu.resetLine := by
  unfold countCalibration; dsimp only; repeat' split
  all_goals simp

@[simp] theorem countCalibration_bpu_straps (s : State) :
    (countCalibration s).bpu.straps = s.bpu.straps := by
  unfold countCalibration; dsimp only; repeat' split
  all_goals simp

@[simp] theorem countCalibration_bpu_engagement (s : State) :
    (countCalibration s).bpu.engagement = s.bpu.engagement := by
  unfold countCalibration; dsimp only; repeat' split
  all_goals simp

@[simp] theorem countCalibration_bpu_reads (s : State) :
    (countCalibration s).bpu.reads = s.bpu.reads := by
  unfold countCalibration; dsimp only; repeat' split
  all_goals simp

@[simp] theorem countCalibration_bpu_geometry (s : State) :
    (countCalibration s).bpu.geometry = s.bpu.geometry := by
  unfold countCalibration; dsimp only; repeat' split
  all_goals simp

@[simp] theorem countCalibration_bpu_guard (s : State) :
    (countCalibration s).bpu.guard = s.bpu.guard := by
  unfold countCalibration; dsimp only; repeat' split
  all_goals simp

@[simp] theorem countCalibration_bpu_latch (s : State) :
    (countCalibration s).bpu.latch = s.bpu.latch := by
  unfold countCalibration; dsimp only; repeat' split
  all_goals simp

@[simp] theorem countCalibration_bht (s : State) :
    (countCalibration s).bht = s.bht := by
  unfold countCalibration; dsimp only; repeat' split
  all_goals simp

@[simp] theorem forwardStep_mem (i p : Nat) (s : State) :
    (forwardStep i p s).mem = s.mem := by
  simp [forwardStep]

@[simp] theorem forwardStep_pending (i p : Nat) (s : State) :
    (forwardStep i p s).pending = s.pending := by
  simp [forwardStep]

@[simp] theorem forwardStep_settings (i p : Nat) (s : State) :
    (forwardStep i p s).settings = s.settings := by
  simp [forwardStep]

@[simp] theorem forwardStep_prescaler (i p : Nat) (s : State) :
    (forwardStep i p s).prescaler = s.prescaler := by
  simp [forwardStep]

@[simp] theorem forwardStep_bpu_resetLine (i p : Nat) (s : State) :
    (forwardStep i p s).bpu.resetLine = s.bpu.resetLine := by
  simp [forwardStep]

@[simp] theorem forwardStep_bpu_straps (i p : Nat) (s : State) :
    (forwardStep i p s).bpu.straps = s.bpu.straps := by
  simp [forwardStep]

@[simp] theorem forwardStep_bpu_engagement (i p : Nat) (s : State) :
    (forwardStep i p s).bpu.engagement = s.bpu.engagement := by
  simp [forwardStep]

@[simp] theorem forwardStep_bpu_reads (i p : Nat) (s : State) :
    (forwardStep i p s).bpu.reads = s.bpu.reads := by
  simp [forwardStep]

@[simp] theorem forwardStep_bpu_geometry (i p : Nat) (s : State) :
    (forwardStep i p s).bpu.geometry = s.bpu.geometry := by
  simp [forwardStep]

@[simp] theorem forwardStep_bpu_guard (i p : Nat) (s : State) :
    (forwardStep i p s).bpu.guard = s.bpu.guard := by
  simp [forwardStep]

@[simp] theorem forwardStep_bpu_latch (i p : Nat) (s : State) :
    (forwardStep i p s).bpu.latch = s.bpu.latch := by
  simp [forwardStep]

@[simp] theorem forwardStep_bht (i p : Nat) (s : State) :
    (forwardStep i p s).bht = s.bht := by
  simp [forwardStep]

@[simp] theorem startForward_mem (s : State) :
    (startForward s).mem = s.mem := by
  simp [startForward]

@[simp] theorem startForward_pending (s : State) :
    (startForward s).pending = s.pending := by
  simp [startForward]

@[simp] theorem startForward_settings (s : State) :
    (startForward s).settings = s.settings := by
  simp [startForward]

@[simp] theorem startForward_prescaler (s : State) :
    (startForward s).prescaler = s.prescaler := by
  simp [startForward]

@[simp] theorem startForward_bpu_resetLine (s : State) :
    (startForward s).bpu.resetLine = s.bpu.resetLine := by
  simp [startForward]

@[simp] theorem startForward_bpu_straps (s : State) :
    (startForward s).bpu.straps = s.bpu.straps := by
  simp [startForward]

@[simp] theorem startForward_bpu_engagement (s : State) :
    (startForward s).bpu.engagement = s.bpu.engagement := by
  simp [startForward]

@[simp] theorem startForward_bpu_reads (s : State) :
    (startForward s).bpu.reads = s.bpu.reads := by
  simp [startForward]

@[simp] theorem startForward_bpu_geometry (s : State) :
    (startForward s).bpu.geometry = s.bpu.geometry := by
  simp [startForward]

@[simp] theorem startForward_bpu_guard (s : State) :
    (startForward s).bpu.guard = s.bpu.guard := by
  simp [startForward]

@[simp] theorem startForward_bpu_latch (s : State) :
    (startForward s).bpu.latch = s.bpu.latch := by
  simp [startForward]

@[simp] theorem startForward_bht (s : State) :
    (startForward s).bht = s.bht := by
  simp [startForward]

@[simp] theorem backwardStep_mem (s : State) :
    (backwardStep s).mem = s.mem := by
  simp [backwardStep]

@[simp] theorem backwardStep_pending (s : State) :
    (backwardStep s).pending = s.pending := by
  simp [backwardStep]

@[simp] theorem backwardStep_settings (s : State) :
    (backwardStep s).settings = s.settings := by
  simp [backwardStep]

@[simp] theorem backwardStep_prescaler (s : State) :
    (backwardStep s).prescaler = s.prescaler := by
  simp [backwardStep]

@[simp] theorem backwardStep_bpu_resetLine (s : State) :
    (backwardStep s).bpu.resetLine = s.bpu.resetLine := by
  simp [backwardStep]

@[simp] theorem backwardStep_bpu_straps (s : State) :
    (backwardStep s).bpu.straps = s.bpu.straps := by
  simp [backwardStep]

@[simp] theorem backwardStep_bpu_engagement (s : State) :
    (backwardStep s).bpu.engagement = s.bpu.engagement := by
  simp [backwardStep]

@[simp] theorem backwardStep_bpu_reads (s : State) :
    (backwardStep s).bpu.reads = s.bpu.reads := by
  simp [backwardStep]

@[simp] theorem backwardStep_bpu_geometry (s : State) :
    (backwardStep s).bpu.geometry = s.bpu.geometry := by
  simp [backwardStep]

@[simp] theorem backwardStep_bpu_guard (s : State) :
    (backwardStep s).bpu.guard = s.bpu.guard := by
  simp [backwardStep]

@[simp] theorem backwardStep_bpu_latch (s : State) :
    (backwardStep s).bpu.latch = s.bpu.latch := by
  simp [backwardStep]

@[simp] theorem backwardStep_bht (s : State) :
    (backwardStep s).bht = s.bht := by
  simp [backwardStep]

@[simp] theorem startBackfeed_mem (k : Nat) (s : State) :
    (startBackfeed k s).mem = s.mem := by
  unfold startBackfeed; split <;> simp

@[simp] theorem startBackfeed_pending (k : Nat) (s : State) :
    (startBackfeed k s).pending = s.pending := by
  unfold startBackfeed; split <;> simp

@[simp] theorem startBackfeed_settings (k : Nat) (s : State) :
    (startBackfeed k s).settings = s.settings := by
  unfold startBackfeed; split <;> simp

@[simp] theorem startBackfeed_prescaler (k : Nat) (s : State) :
    (startBackfeed k s).prescaler = s.prescaler := by
  unfold startBackfeed; split <;> simp

@[simp] theorem startBackfeed_bpu_resetLine (k : Nat) (s : State) :
    (startBackfeed k s).bpu.resetLine = s.bpu.resetLine := by
  unfold startBackfeed; split <;> simp

@[simp] theorem startBackfeed_bpu_straps (k : Nat) (s : State) :
    (startBackfeed k s).bpu.straps = s.bpu.straps := by
  unfold startBackfeed; split <;> simp

@[simp] theorem startBackfeed_bpu_engagement (k : Nat) (s : State) :
    (startBackfeed k s).bpu.engagement = s.bpu.engagement := by
  unfold startBackfeed; split <;> simp

@[simp] theorem startBackfeed_bpu_reads (k : Nat) (s : State) :
    (startBackfeed k s).bpu.reads = s.bpu.reads := by
  unfold startBackfeed; split <;> simp

@[simp] theorem startBackfeed_bpu_geometry (k : Nat) (s : State) :
    (startBackfeed k s).bpu.geometry = s.bpu.geometry := by
  unfold startBackfeed; split <;> simp

@[simp] theorem startBackfeed_bpu_guard (k : Nat) (s : State) :
    (startBackfeed k s).bpu.guard = s.bpu.guard := by
  unfold startBackfeed; split <;> simp

@[simp] theorem startBackfeed_bpu_latch (k : Nat) (s : State) :
    (startBackfeed k s).bpu.latch = s.bpu.latch := by
  unfold startBackfeed; split <;> simp

@[simp] theorem startBackfeed_bht (k : Nat) (s : State) :
    (startBackfeed k s).bht = s.bht := by
  unfold startBackfeed; split <;> simp

@[simp] theorem startSeek_mem (s : State) :
    (startSeek s).mem = s.mem := by
  simp [startSeek]

@[simp] theorem startSeek_pending (s : State) :
    (startSeek s).pending = s.pending := by
  simp [startSeek]

@[simp] theorem startSeek_settings (s : State) :
    (startSeek s).settings = s.settings := by
  simp [startSeek]

@[simp] theorem startSeek_prescaler (s : State) :
    (startSeek s).prescaler = s.prescaler := by
  simp [startSeek]

@[simp] theorem startSeek_bpu_resetLine (s : State) :
    (startSeek s).bpu.resetLine = s.bpu.resetLine := by
  simp [startSeek]

@[simp] theorem startSeek_bpu_straps (s : State) :
    (startSeek s).bpu.straps = s.bpu.straps := by
  simp [startSeek]

@[simp] theorem startSeek_bpu_engagement (s : State) :
    (startSeek s).bpu.engagement = s.bpu.engagement := by
  simp [startSeek]

@[simp] theorem startSeek_bpu_reads (s : State) :
    (startSeek s).bpu.reads = s.bpu.reads := by
  simp [startSeek]

@[simp] theorem startSeek_bpu_geometry (s : State) :
    (startSeek s).bpu.geometry = s.bpu.geometry := by
  simp [startSeek]

@[simp] theorem startSeek_bpu_guard (s : State) :
    (startSeek s).bpu.guard = s.bpu.guard := by
  simp [startSeek]

@[simp] theorem startSeek_bpu_latch (s : State) :
    (startSeek s).bpu.latch = s.bpu.latch := by
  simp [startSeek]

@[simp] theorem startSeek_bht (s : State) :
    (startSeek s).bht = s.bht := by
  simp [startSeek]

@[simp] theorem startToward_mem (p : Pos) (s : State) :
    (startToward p s).mem = s.mem := by
  simp [startToward]

@[simp] theorem startToward_pending (p : Pos) (s : State) :
    (startToward p s).pending = s.pending := by
  simp [startToward]

@[simp] theorem startToward_settings (p : Pos) (s : State) :
    (startToward p s).settings = s.settings := by
  simp [startToward]

@[simp] theorem startToward_prescaler (p : Pos) (s : State) :
    (startToward p s).prescaler = s.prescaler := by
  simp [startToward]

@[simp] theorem startToward_bpu_resetLine (p : Pos) (s : State) :
    (startToward p s).bpu.resetLine = s.bpu.resetLine := by
  simp [startToward]

@[simp] theorem startToward_bpu_straps (p : Pos) (s : State) :
    (startToward p s).bpu.straps = s.bpu.straps := by
  simp [startToward]

@[simp] theorem startToward_bpu_engagement (p : Pos) (s : State) :
    (startToward p s).bpu.engagement = s.bpu.engagement := by
  simp [startToward]

@[simp] theorem startToward_bpu_reads (p : Pos) (s : State) :
    (startToward p s).bpu.reads = s.bpu.reads := by
  simp [startToward]

@[simp] theorem startToward_bpu_geometry (p : Pos) (s : State) :
    (startToward p s).bpu.geometry = s.bpu.geometry := by
  simp [startToward]

@[simp] theorem startToward_bpu_guard (p : Pos) (s : State) :
    (startToward p s).bpu.guard = s.bpu.guard := by
  simp [startToward]

@[simp] theorem startToward_bpu_latch (p : Pos) (s : State) :
    (startToward p s).bpu.latch = s.bpu.latch := by
  simp [startToward]

@[simp] theorem startToward_bht (p : Pos) (s : State) :
    (startToward p s).bht = s.bht := by
  simp [startToward]

@[simp] theorem enterSeeking_mem (s : State) :
    (enterSeeking s).mem = s.mem := by
  simp [enterSeeking]

@[simp] theorem enterSeeking_pending (s : State) :
    (enterSeeking s).pending = s.pending := by
  simp [enterSeeking]

@[simp] theorem enterSeeking_settings (s : State) :
    (enterSeeking s).settings = s.settings := by
  simp [enterSeeking]

@[simp] theorem enterSeeking_prescaler (s : State) :
    (enterSeeking s).prescaler = s.prescaler := by
  simp [enterSeeking]

@[simp] theorem enterSeeking_bpu_resetLine (s : State) :
    (enterSeeking s).bpu.resetLine = s.bpu.resetLine := by
  simp [enterSeeking]

@[simp] theorem enterSeeking_bpu_straps (s : State) :
    (enterSeeking s).bpu.straps = s.bpu.straps := by
  simp [enterSeeking]

@[simp] theorem enterSeeking_bpu_engagement (s : State) :
    (enterSeeking s).bpu.engagement = s.bpu.engagement := by
  simp [enterSeeking]

@[simp] theorem enterSeeking_bpu_reads (s : State) :
    (enterSeeking s).bpu.reads = s.bpu.reads := by
  simp [enterSeeking]

@[simp] theorem enterSeeking_bpu_geometry (s : State) :
    (enterSeeking s).bpu.geometry = s.bpu.geometry := by
  simp [enterSeeking]

@[simp] theorem enterSeeking_bpu_guard (s : State) :
    (enterSeeking s).bpu.guard = s.bpu.guard := by
  simp [enterSeeking]

@[simp] theorem enterSeeking_bpu_latch (s : State) :
    (enterSeeking s).bpu.latch = s.bpu.latch := by
  simp [enterSeeking]

@[simp] theorem enterSeeking_bht (s : State) :
    (enterSeeking s).bht = s.bht := by
  simp [enterSeeking]

@[simp] theorem enterCalibrating_mem (r : CalReason) (s : State) :
    (enterCalibrating r s).mem = s.mem := by
  simp [enterCalibrating]

@[simp] theorem enterCalibrating_pending (r : CalReason) (s : State) :
    (enterCalibrating r s).pending = s.pending := by
  simp [enterCalibrating]

@[simp] theorem enterCalibrating_settings (r : CalReason) (s : State) :
    (enterCalibrating r s).settings = s.settings := by
  simp [enterCalibrating]

@[simp] theorem enterCalibrating_prescaler (r : CalReason) (s : State) :
    (enterCalibrating r s).prescaler = s.prescaler := by
  simp [enterCalibrating]

@[simp] theorem enterCalibrating_bpu_resetLine (r : CalReason) (s : State) :
    (enterCalibrating r s).bpu.resetLine = s.bpu.resetLine := by
  simp [enterCalibrating]

@[simp] theorem enterCalibrating_bpu_straps (r : CalReason) (s : State) :
    (enterCalibrating r s).bpu.straps = s.bpu.straps := by
  simp [enterCalibrating]

@[simp] theorem enterCalibrating_bpu_engagement (r : CalReason) (s : State) :
    (enterCalibrating r s).bpu.engagement = s.bpu.engagement := by
  simp [enterCalibrating]

@[simp] theorem enterCalibrating_bpu_reads (r : CalReason) (s : State) :
    (enterCalibrating r s).bpu.reads = s.bpu.reads := by
  simp [enterCalibrating]

@[simp] theorem enterCalibrating_bpu_geometry (r : CalReason) (s : State) :
    (enterCalibrating r s).bpu.geometry = s.bpu.geometry := by
  simp [enterCalibrating]

@[simp] theorem enterCalibrating_bpu_guard (r : CalReason) (s : State) :
    (enterCalibrating r s).bpu.guard = s.bpu.guard := by
  simp [enterCalibrating]

@[simp] theorem enterCalibrating_bpu_latch (r : CalReason) (s : State) :
    (enterCalibrating r s).bpu.latch = s.bpu.latch := by
  simp [enterCalibrating]

@[simp] theorem enterCalibrating_bht (r : CalReason) (s : State) :
    (enterCalibrating r s).bht = s.bht := by
  simp [enterCalibrating]

@[simp] theorem enterFeeding_mem (n : Nat) (s : State) :
    (enterFeeding n s).mem = s.mem := by
  unfold enterFeeding; dsimp only; repeat' split
  all_goals simp

@[simp] theorem enterFeeding_pending (n : Nat) (s : State) :
    (enterFeeding n s).pending = s.pending := by
  unfold enterFeeding; dsimp only; repeat' split
  all_goals simp

@[simp] theorem enterFeeding_settings (n : Nat) (s : State) :
    (enterFeeding n s).settings = s.settings := by
  unfold enterFeeding; dsimp only; repeat' split
  all_goals simp

@[simp] theorem enterFeeding_prescaler (n : Nat) (s : State) :
    (enterFeeding n s).prescaler = s.prescaler := by
  unfold enterFeeding; dsimp only; repeat' split
  all_goals simp

@[simp] theorem enterFeeding_bpu_resetLine (n : Nat) (s : State) :
    (enterFeeding n s).bpu.resetLine = s.bpu.resetLine := by
  unfold enterFeeding; dsimp only; repeat' split
  all_goals simp

@[simp] theorem enterFeeding_bpu_straps (n : Nat) (s : State) :
    (enterFeeding n s).bpu.straps = s.bpu.straps := by
  unfold enterFeeding; dsimp only; repeat' split
  all_goals simp

@[simp] theorem enterFeeding_bpu_engagement (n : Nat) (s : State) :
    (enterFeeding n s).bpu.engagement = s.bpu.engagement := by
  unfold enterFeeding; dsimp only; repeat' split
  all_goals simp

@[simp] theorem enterFeeding_bpu_reads (n : Nat) (s : State) :
    (enterFeeding n s).bpu.reads = s.bpu.reads := by
  unfold enterFeeding; dsimp only; repeat' split
  all_goals simp

@[simp] theorem enterFeeding_bpu_geometry (n : Nat) (s : State) :
    (enterFeeding n s).bpu.geometry = s.bpu.geometry := by
  unfold enterFeeding; dsimp only; repeat' split
  all_goals simp

@[simp] theorem enterFeeding_bpu_guard (n : Nat) (s : State) :
    (enterFeeding n s).bpu.guard = s.bpu.guard := by
  unfold enterFeeding; dsimp only; repeat' split
  all_goals simp

@[simp] theorem enterFeeding_bpu_latch (n : Nat) (s : State) :
    (enterFeeding n s).bpu.latch = s.bpu.latch := by
  unfold enterFeeding; dsimp only; repeat' split
  all_goals simp

@[simp] theorem enterFeeding_bht (n : Nat) (s : State) :
    (enterFeeding n s).bht = s.bht := by
  unfold enterFeeding; dsimp only; repeat' split
  all_goals simp

@[simp] theorem prepareCopy_mem (p : Pos) (s : State) :
    (prepareCopy p s).mem = s.mem := by
  simp [prepareCopy]

@[simp] theorem prepareCopy_pending (p : Pos) (s : State) :
    (prepareCopy p s).pending = s.pending := by
  simp [prepareCopy]

@[simp] theorem prepareCopy_settings (p : Pos) (s : State) :
    (prepareCopy p s).settings = s.settings := by
  simp [prepareCopy]

@[simp] theorem prepareCopy_prescaler (p : Pos) (s : State) :
    (prepareCopy p s).prescaler = s.prescaler := by
  simp [prepareCopy]

@[simp] theorem prepareCopy_bpu_resetLine (p : Pos) (s : State) :
    (prepareCopy p s).bpu.resetLine = s.bpu.resetLine := by
  simp [prepareCopy]

@[simp] theorem prepareCopy_bpu_straps (p : Pos) (s : State) :
    (prepareCopy p s).bpu.straps = s.bpu.straps := by
  simp [prepareCopy]

@[simp] theorem prepareCopy_bpu_engagement (p : Pos) (s : State) :
    (prepareCopy p s).bpu.engagement = s.bpu.engagement := by
  simp [prepareCopy]

@[simp] theorem prepareCopy_bpu_reads (p : Pos) (s : State) :
    (prepareCopy p s).bpu.reads = s.bpu.reads := by
  simp [prepareCopy]

@[simp] theorem prepareCopy_bpu_geometry (p : Pos) (s : State) :
    (prepareCopy p s).bpu.geometry = s.bpu.geometry := by
  simp [prepareCopy]

@[simp] theorem prepareCopy_bpu_guard (p : Pos) (s : State) :
    (prepareCopy p s).bpu.guard = s.bpu.guard := by
  simp [prepareCopy]

@[simp] theorem prepareCopy_bpu_latch (p : Pos) (s : State) :
    (prepareCopy p s).bpu.latch = s.bpu.latch := by
  simp [prepareCopy]

@[simp] theorem prepareCopy_bht (p : Pos) (s : State) :
    (prepareCopy p s).bht = s.bht := by
  simp [prepareCopy]

@[simp] theorem examineMedia_mem (s : State) :
    (examineMedia s).mem = s.mem := by
  unfold examineMedia; repeat' split
  all_goals simp

@[simp] theorem examineMedia_pending (s : State) :
    (examineMedia s).pending = s.pending := by
  unfold examineMedia; repeat' split
  all_goals simp

@[simp] theorem examineMedia_settings (s : State) :
    (examineMedia s).settings = s.settings := by
  unfold examineMedia; repeat' split
  all_goals simp

@[simp] theorem examineMedia_prescaler (s : State) :
    (examineMedia s).prescaler = s.prescaler := by
  unfold examineMedia; repeat' split
  all_goals simp

@[simp] theorem examineMedia_bpu_resetLine (s : State) :
    (examineMedia s).bpu.resetLine = s.bpu.resetLine := by
  unfold examineMedia; repeat' split
  all_goals simp

@[simp] theorem examineMedia_bpu_straps (s : State) :
    (examineMedia s).bpu.straps = s.bpu.straps := by
  unfold examineMedia; repeat' split
  all_goals simp

@[simp] theorem examineMedia_bpu_engagement (s : State) :
    (examineMedia s).bpu.engagement = s.bpu.engagement := by
  unfold examineMedia; repeat' split
  all_goals simp

@[simp] theorem examineMedia_bpu_reads (s : State) :
    (examineMedia s).bpu.reads = s.bpu.reads := by
  unfold examineMedia; repeat' split
  all_goals simp

@[simp] theorem examineMedia_bpu_geometry (s : State) :
    (examineMedia s).bpu.geometry = s.bpu.geometry := by
  unfold examineMedia; repeat' split
  all_goals simp

@[simp] theorem examineMedia_bpu_guard (s : State) :
    (examineMedia s).bpu.guard = s.bpu.guard := by
  unfold examineMedia; repeat' split
  all_goals simp

@[simp] theorem examineMedia_bpu_latch (s : State) :
    (examineMedia s).bpu.latch = s.bpu.latch := by
  unfold examineMedia; repeat' split
  all_goals simp

@[simp] theorem examineMedia_bht (s : State) :
    (examineMedia s).bht = s.bht := by
  unfold examineMedia; repeat' split
  all_goals simp

@[simp] theorem requestSupply_mem (s : State) :
    (requestSupply s).mem = s.mem := by
  unfold requestSupply; split <;> rfl

@[simp] theorem requestSupply_pending (s : State) :
    (requestSupply s).pending = s.pending := by
  unfold requestSupply; split <;> rfl

@[simp] theorem requestSupply_settings (s : State) :
    (requestSupply s).settings = s.settings := by
  unfold requestSupply; split <;> rfl

@[simp] theorem requestSupply_prescaler (s : State) :
    (requestSupply s).prescaler = s.prescaler := by
  unfold requestSupply; split <;> rfl

@[simp] theorem requestSupply_bpu (s : State) :
    (requestSupply s).bpu = s.bpu := by
  unfold requestSupply; split <;> rfl

@[simp] theorem requestSupply_bht (s : State) :
    (requestSupply s).bht = s.bht := by
  unfold requestSupply; split <;> rfl

@[simp] theorem requestSupply_rrd (s : State) :
    (requestSupply s).rrd = s.rrd := by
  unfold requestSupply; split <;> rfl

@[simp] theorem requestSupply_lcu (s : State) :
    (requestSupply s).lcu = s.lcu := by
  unfold requestSupply; split <;> rfl

@[simp] theorem requestSupply_rsu (s : State) :
    (requestSupply s).rsu = s.rsu := by
  unfold requestSupply; split <;> rfl

@[simp] theorem requestSupply_seu (s : State) :
    (requestSupply s).seu = s.seu := by
  unfold requestSupply; split <;> rfl

@[simp] theorem requestSupply_hdu (s : State) :
    (requestSupply s).hdu = s.hdu := by
  unfold requestSupply; split <;> rfl

@[simp] theorem requestSupply_mtu (s : State) :
    (requestSupply s).mtu = s.mtu := by
  unfold requestSupply; split <;> rfl

@[simp] theorem requestSupply_msu (s : State) :
    (requestSupply s).msu = s.msu := by
  unfold requestSupply; split <;> rfl

@[simp] theorem requestSupply_asu (s : State) :
    (requestSupply s).asu = s.asu := by
  unfold requestSupply; split <;> rfl

@[simp] theorem requestConversion_mem (s : State) :
    (requestConversion s).mem = s.mem := by
  rfl

@[simp] theorem requestConversion_pending (s : State) :
    (requestConversion s).pending = s.pending := by
  rfl

@[simp] theorem requestConversion_settings (s : State) :
    (requestConversion s).settings = s.settings := by
  rfl

@[simp] theorem requestConversion_prescaler (s : State) :
    (requestConversion s).prescaler = s.prescaler := by
  rfl

@[simp] theorem requestConversion_bpu (s : State) :
    (requestConversion s).bpu = s.bpu := by
  rfl

@[simp] theorem requestConversion_bht (s : State) :
    (requestConversion s).bht = s.bht := by
  rfl

@[simp] theorem requestConversion_rrd (s : State) :
    (requestConversion s).rrd = s.rrd := by
  rfl

@[simp] theorem requestConversion_lcu (s : State) :
    (requestConversion s).lcu = s.lcu := by
  rfl

@[simp] theorem requestConversion_rsu (s : State) :
    (requestConversion s).rsu = s.rsu := by
  rfl

@[simp] theorem requestConversion_seu (s : State) :
    (requestConversion s).seu = s.seu := by
  rfl

@[simp] theorem requestConversion_hdu (s : State) :
    (requestConversion s).hdu = s.hdu := by
  rfl

@[simp] theorem requestConversion_mtu (s : State) :
    (requestConversion s).mtu = s.mtu := by
  rfl

@[simp] theorem requestConversion_msu (s : State) :
    (requestConversion s).msu = s.msu := by
  rfl

@[simp] theorem requestConversion_asu (s : State) :
    (requestConversion s).asu = s.asu := by
  rfl

@[simp] theorem enterArming_mem (s : State) :
    (enterArming s).mem = s.mem := by
  simp [enterArming]

@[simp] theorem enterArming_pending (s : State) :
    (enterArming s).pending = s.pending := by
  simp [enterArming]

@[simp] theorem enterArming_settings (s : State) :
    (enterArming s).settings = s.settings := by
  simp [enterArming]

@[simp] theorem enterArming_prescaler (s : State) :
    (enterArming s).prescaler = s.prescaler := by
  simp [enterArming]

@[simp] theorem enterArming_bpu_resetLine (s : State) :
    (enterArming s).bpu.resetLine = s.bpu.resetLine := by
  simp [enterArming]

@[simp] theorem enterArming_bpu_straps (s : State) :
    (enterArming s).bpu.straps = s.bpu.straps := by
  simp [enterArming]

@[simp] theorem enterArming_bpu_engagement (s : State) :
    (enterArming s).bpu.engagement = s.bpu.engagement := by
  simp [enterArming]

@[simp] theorem enterArming_bpu_reads (s : State) :
    (enterArming s).bpu.reads = s.bpu.reads := by
  simp [enterArming]

@[simp] theorem enterArming_bpu_geometry (s : State) :
    (enterArming s).bpu.geometry = s.bpu.geometry := by
  simp [enterArming]

@[simp] theorem enterArming_bpu_guard (s : State) :
    (enterArming s).bpu.guard = s.bpu.guard := by
  simp [enterArming]

@[simp] theorem enterArming_bpu_latch (s : State) :
    (enterArming s).bpu.latch = s.bpu.latch := by
  simp [enterArming]

@[simp] theorem enterArming_bht (s : State) :
    (enterArming s).bht = s.bht := by
  simp [enterArming]

@[simp] theorem takeOperation_mem (x : Operation) (s : State) :
    (takeOperation x s).mem = s.mem := by
  unfold takeOperation; dsimp only; repeat' split
  all_goals simp

@[simp] theorem takeOperation_pending (x : Operation) (s : State) :
    (takeOperation x s).pending = s.pending := by
  unfold takeOperation; dsimp only; repeat' split
  all_goals simp

@[simp] theorem takeOperation_settings (x : Operation) (s : State) :
    (takeOperation x s).settings = s.settings := by
  unfold takeOperation; dsimp only; repeat' split
  all_goals simp

@[simp] theorem takeOperation_prescaler (x : Operation) (s : State) :
    (takeOperation x s).prescaler = s.prescaler := by
  unfold takeOperation; dsimp only; repeat' split
  all_goals simp

@[simp] theorem takeOperation_bpu_resetLine (x : Operation) (s : State) :
    (takeOperation x s).bpu.resetLine = s.bpu.resetLine := by
  unfold takeOperation; dsimp only; repeat' split
  all_goals simp

@[simp] theorem takeOperation_bpu_straps (x : Operation) (s : State) :
    (takeOperation x s).bpu.straps = s.bpu.straps := by
  unfold takeOperation; dsimp only; repeat' split
  all_goals simp

@[simp] theorem takeOperation_bpu_engagement (x : Operation) (s : State) :
    (takeOperation x s).bpu.engagement = s.bpu.engagement := by
  unfold takeOperation; dsimp only; repeat' split
  all_goals simp

@[simp] theorem takeOperation_bpu_reads (x : Operation) (s : State) :
    (takeOperation x s).bpu.reads = s.bpu.reads := by
  unfold takeOperation; dsimp only; repeat' split
  all_goals simp

@[simp] theorem takeOperation_bpu_geometry (x : Operation) (s : State) :
    (takeOperation x s).bpu.geometry = s.bpu.geometry := by
  unfold takeOperation; dsimp only; repeat' split
  all_goals simp

@[simp] theorem takeOperation_bpu_guard (x : Operation) (s : State) :
    (takeOperation x s).bpu.guard = s.bpu.guard := by
  unfold takeOperation; dsimp only; repeat' split
  all_goals simp

@[simp] theorem takeOperation_bpu_latch (x : Operation) (s : State) :
    (takeOperation x s).bpu.latch = s.bpu.latch := by
  unfold takeOperation; dsimp only; repeat' split
  all_goals simp

@[simp] theorem takeOperation_bht (x : Operation) (s : State) :
    (takeOperation x s).bht = s.bht := by
  unfold takeOperation; dsimp only; repeat' split
  all_goals simp

@[simp] theorem chooseNext_mem (s : State) :
    (chooseNext s).mem = s.mem := by
  unfold chooseNext; dsimp only; repeat' split
  all_goals simp

@[simp] theorem chooseNext_pending (s : State) :
    (chooseNext s).pending = s.pending := by
  unfold chooseNext; dsimp only; repeat' split
  all_goals simp

@[simp] theorem chooseNext_settings (s : State) :
    (chooseNext s).settings = s.settings := by
  unfold chooseNext; dsimp only; repeat' split
  all_goals simp

@[simp] theorem chooseNext_prescaler (s : State) :
    (chooseNext s).prescaler = s.prescaler := by
  unfold chooseNext; dsimp only; repeat' split
  all_goals simp

@[simp] theorem chooseNext_bpu_resetLine (s : State) :
    (chooseNext s).bpu.resetLine = s.bpu.resetLine := by
  unfold chooseNext; dsimp only; repeat' split
  all_goals simp

@[simp] theorem chooseNext_bpu_straps (s : State) :
    (chooseNext s).bpu.straps = s.bpu.straps := by
  unfold chooseNext; dsimp only; repeat' split
  all_goals simp

@[simp] theorem chooseNext_bpu_engagement (s : State) :
    (chooseNext s).bpu.engagement = s.bpu.engagement := by
  unfold chooseNext; dsimp only; repeat' split
  all_goals simp

@[simp] theorem chooseNext_bpu_reads (s : State) :
    (chooseNext s).bpu.reads = s.bpu.reads := by
  unfold chooseNext; dsimp only; repeat' split
  all_goals simp

@[simp] theorem chooseNext_bpu_geometry (s : State) :
    (chooseNext s).bpu.geometry = s.bpu.geometry := by
  unfold chooseNext; dsimp only; repeat' split
  all_goals simp

@[simp] theorem chooseNext_bpu_guard (s : State) :
    (chooseNext s).bpu.guard = s.bpu.guard := by
  unfold chooseNext; dsimp only; repeat' split
  all_goals simp

@[simp] theorem chooseNext_bpu_latch (s : State) :
    (chooseNext s).bpu.latch = s.bpu.latch := by
  unfold chooseNext; dsimp only; repeat' split
  all_goals simp

@[simp] theorem chooseNext_bht (s : State) :
    (chooseNext s).bht = s.bht := by
  unfold chooseNext; dsimp only; repeat' split
  all_goals simp

@[simp] theorem startPrinting_mem (s : State) :
    (startPrinting s).mem = s.mem := by
  simp [startPrinting]

@[simp] theorem startPrinting_pending (s : State) :
    (startPrinting s).pending = s.pending := by
  simp [startPrinting]

@[simp] theorem startPrinting_settings (s : State) :
    (startPrinting s).settings = s.settings := by
  simp [startPrinting]

@[simp] theorem startPrinting_prescaler (s : State) :
    (startPrinting s).prescaler = s.prescaler := by
  simp [startPrinting]

@[simp] theorem startPrinting_bpu_resetLine (s : State) :
    (startPrinting s).bpu.resetLine = s.bpu.resetLine := by
  simp [startPrinting]

@[simp] theorem startPrinting_bpu_straps (s : State) :
    (startPrinting s).bpu.straps = s.bpu.straps := by
  simp [startPrinting]

@[simp] theorem startPrinting_bpu_engagement (s : State) :
    (startPrinting s).bpu.engagement = s.bpu.engagement := by
  simp [startPrinting]

@[simp] theorem startPrinting_bpu_reads (s : State) :
    (startPrinting s).bpu.reads = s.bpu.reads := by
  simp [startPrinting]

@[simp] theorem startPrinting_bpu_geometry (s : State) :
    (startPrinting s).bpu.geometry = s.bpu.geometry := by
  simp [startPrinting]

@[simp] theorem startPrinting_bpu_guard (s : State) :
    (startPrinting s).bpu.guard = s.bpu.guard := by
  simp [startPrinting]

@[simp] theorem startPrinting_bpu_latch (s : State) :
    (startPrinting s).bpu.latch = s.bpu.latch := by
  simp [startPrinting]

@[simp] theorem startPrinting_bht (s : State) :
    (startPrinting s).bht = s.bht := by
  simp [startPrinting]

@[simp] theorem startCopy_mem (s : State) :
    (startCopy s).mem = s.mem := by
  simp [startCopy]

@[simp] theorem startCopy_pending (s : State) :
    (startCopy s).pending = s.pending := by
  simp [startCopy]

@[simp] theorem startCopy_settings (s : State) :
    (startCopy s).settings = s.settings := by
  simp [startCopy]

@[simp] theorem startCopy_prescaler (s : State) :
    (startCopy s).prescaler = s.prescaler := by
  simp [startCopy]

@[simp] theorem startCopy_bpu_resetLine (s : State) :
    (startCopy s).bpu.resetLine = s.bpu.resetLine := by
  simp [startCopy]

@[simp] theorem startCopy_bpu_straps (s : State) :
    (startCopy s).bpu.straps = s.bpu.straps := by
  simp [startCopy]

@[simp] theorem startCopy_bpu_engagement (s : State) :
    (startCopy s).bpu.engagement = s.bpu.engagement := by
  simp [startCopy]

@[simp] theorem startCopy_bpu_reads (s : State) :
    (startCopy s).bpu.reads = s.bpu.reads := by
  simp [startCopy]

@[simp] theorem startCopy_bpu_geometry (s : State) :
    (startCopy s).bpu.geometry = s.bpu.geometry := by
  simp [startCopy]

@[simp] theorem startCopy_bpu_guard (s : State) :
    (startCopy s).bpu.guard = s.bpu.guard := by
  simp [startCopy]

@[simp] theorem startCopy_bpu_latch (s : State) :
    (startCopy s).bpu.latch = s.bpu.latch := by
  simp [startCopy]

@[simp] theorem startCopy_bht (s : State) :
    (startCopy s).bht = s.bht := by
  simp [startCopy]

@[simp] theorem leaveThermalHold_mem (s : State) :
    (leaveThermalHold s).mem = s.mem := by
  unfold leaveThermalHold; repeat' split
  all_goals simp

@[simp] theorem leaveThermalHold_pending (s : State) :
    (leaveThermalHold s).pending = s.pending := by
  unfold leaveThermalHold; repeat' split
  all_goals simp

@[simp] theorem leaveThermalHold_settings (s : State) :
    (leaveThermalHold s).settings = s.settings := by
  unfold leaveThermalHold; repeat' split
  all_goals simp

@[simp] theorem leaveThermalHold_prescaler (s : State) :
    (leaveThermalHold s).prescaler = s.prescaler := by
  unfold leaveThermalHold; repeat' split
  all_goals simp

@[simp] theorem leaveThermalHold_bpu_resetLine (s : State) :
    (leaveThermalHold s).bpu.resetLine = s.bpu.resetLine := by
  unfold leaveThermalHold; repeat' split
  all_goals simp

@[simp] theorem leaveThermalHold_bpu_straps (s : State) :
    (leaveThermalHold s).bpu.straps = s.bpu.straps := by
  unfold leaveThermalHold; repeat' split
  all_goals simp

@[simp] theorem leaveThermalHold_bpu_engagement (s : State) :
    (leaveThermalHold s).bpu.engagement = s.bpu.engagement := by
  unfold leaveThermalHold; repeat' split
  all_goals simp

@[simp] theorem leaveThermalHold_bpu_reads (s : State) :
    (leaveThermalHold s).bpu.reads = s.bpu.reads := by
  unfold leaveThermalHold; repeat' split
  all_goals simp

@[simp] theorem leaveThermalHold_bpu_geometry (s : State) :
    (leaveThermalHold s).bpu.geometry = s.bpu.geometry := by
  unfold leaveThermalHold; repeat' split
  all_goals simp

@[simp] theorem leaveThermalHold_bpu_guard (s : State) :
    (leaveThermalHold s).bpu.guard = s.bpu.guard := by
  unfold leaveThermalHold; repeat' split
  all_goals simp

@[simp] theorem leaveThermalHold_bpu_latch (s : State) :
    (leaveThermalHold s).bpu.latch = s.bpu.latch := by
  unfold leaveThermalHold; repeat' split
  all_goals simp

@[simp] theorem leaveThermalHold_bht (s : State) :
    (leaveThermalHold s).bht = s.bht := by
  unfold leaveThermalHold; repeat' split
  all_goals simp

@[simp] theorem stall_mem (s : State) :
    (stall s).mem = s.mem := by
  simp [stall]

@[simp] theorem stall_pending (s : State) :
    (stall s).pending = s.pending := by
  simp [stall]

@[simp] theorem stall_settings (s : State) :
    (stall s).settings = s.settings := by
  simp [stall]

@[simp] theorem stall_prescaler (s : State) :
    (stall s).prescaler = s.prescaler := by
  simp [stall]

@[simp] theorem stall_bpu_resetLine (s : State) :
    (stall s).bpu.resetLine = s.bpu.resetLine := by
  simp [stall]

@[simp] theorem stall_bpu_straps (s : State) :
    (stall s).bpu.straps = s.bpu.straps := by
  simp [stall]

@[simp] theorem stall_bpu_engagement (s : State) :
    (stall s).bpu.engagement = s.bpu.engagement := by
  simp [stall]

@[simp] theorem stall_bpu_reads (s : State) :
    (stall s).bpu.reads = s.bpu.reads := by
  simp [stall]

@[simp] theorem stall_bpu_geometry (s : State) :
    (stall s).bpu.geometry = s.bpu.geometry := by
  simp [stall]

@[simp] theorem stall_bpu_guard (s : State) :
    (stall s).bpu.guard = s.bpu.guard := by
  simp [stall]

@[simp] theorem stall_bpu_latch (s : State) :
    (stall s).bpu.latch = s.bpu.latch := by
  simp [stall]

@[simp] theorem stall_bht (s : State) :
    (stall s).bht = s.bht := by
  simp [stall]

@[simp] theorem endCalibrating_mem (s : State) :
    (endCalibrating s).mem = s.mem := by
  unfold endCalibrating; dsimp only; split <;> simp

@[simp] theorem endCalibrating_pending (s : State) :
    (endCalibrating s).pending = s.pending := by
  unfold endCalibrating; dsimp only; split <;> simp

@[simp] theorem endCalibrating_settings (s : State) :
    (endCalibrating s).settings = s.settings := by
  unfold endCalibrating; dsimp only; split <;> simp

@[simp] theorem endCalibrating_prescaler (s : State) :
    (endCalibrating s).prescaler = s.prescaler := by
  unfold endCalibrating; dsimp only; split <;> simp

@[simp] theorem endCalibrating_bpu_resetLine (s : State) :
    (endCalibrating s).bpu.resetLine = s.bpu.resetLine := by
  unfold endCalibrating; dsimp only; split <;> simp

@[simp] theorem endCalibrating_bpu_straps (s : State) :
    (endCalibrating s).bpu.straps = s.bpu.straps := by
  unfold endCalibrating; dsimp only; split <;> simp

@[simp] theorem endCalibrating_bpu_engagement (s : State) :
    (endCalibrating s).bpu.engagement = s.bpu.engagement := by
  unfold endCalibrating; dsimp only; split <;> simp

@[simp] theorem endCalibrating_bpu_reads (s : State) :
    (endCalibrating s).bpu.reads = s.bpu.reads := by
  unfold endCalibrating; dsimp only; split <;> simp

@[simp] theorem endCalibrating_bpu_geometry (s : State) :
    (endCalibrating s).bpu.geometry = s.bpu.geometry := by
  unfold endCalibrating; dsimp only; split <;> simp

@[simp] theorem endCalibrating_bpu_guard (s : State) :
    (endCalibrating s).bpu.guard = s.bpu.guard := by
  unfold endCalibrating; dsimp only; split <;> simp

@[simp] theorem endCalibrating_bpu_latch (s : State) :
    (endCalibrating s).bpu.latch = s.bpu.latch := by
  unfold endCalibrating; dsimp only; split <;> simp

@[simp] theorem endCalibrating_bht (s : State) :
    (endCalibrating s).bht = s.bht := by
  unfold endCalibrating; dsimp only; split <;> simp

@[simp] theorem endFeeding_mem (s : State) :
    (endFeeding s).mem = s.mem := by
  unfold endFeeding; dsimp only; split <;> simp

@[simp] theorem endFeeding_pending (s : State) :
    (endFeeding s).pending = s.pending := by
  unfold endFeeding; dsimp only; split <;> simp

@[simp] theorem endFeeding_settings (s : State) :
    (endFeeding s).settings = s.settings := by
  unfold endFeeding; dsimp only; split <;> simp

@[simp] theorem endFeeding_prescaler (s : State) :
    (endFeeding s).prescaler = s.prescaler := by
  unfold endFeeding; dsimp only; split <;> simp

@[simp] theorem endFeeding_bpu_resetLine (s : State) :
    (endFeeding s).bpu.resetLine = s.bpu.resetLine := by
  unfold endFeeding; dsimp only; split <;> simp

@[simp] theorem endFeeding_bpu_straps (s : State) :
    (endFeeding s).bpu.straps = s.bpu.straps := by
  unfold endFeeding; dsimp only; split <;> simp

@[simp] theorem endFeeding_bpu_engagement (s : State) :
    (endFeeding s).bpu.engagement = s.bpu.engagement := by
  unfold endFeeding; dsimp only; split <;> simp

@[simp] theorem endFeeding_bpu_reads (s : State) :
    (endFeeding s).bpu.reads = s.bpu.reads := by
  unfold endFeeding; dsimp only; split <;> simp

@[simp] theorem endFeeding_bpu_geometry (s : State) :
    (endFeeding s).bpu.geometry = s.bpu.geometry := by
  unfold endFeeding; dsimp only; split <;> simp

@[simp] theorem endFeeding_bpu_guard (s : State) :
    (endFeeding s).bpu.guard = s.bpu.guard := by
  unfold endFeeding; dsimp only; split <;> simp

@[simp] theorem endFeeding_bpu_latch (s : State) :
    (endFeeding s).bpu.latch = s.bpu.latch := by
  unfold endFeeding; dsimp only; split <;> simp

@[simp] theorem endFeeding_bht (s : State) :
    (endFeeding s).bht = s.bht := by
  unfold endFeeding; dsimp only; split <;> simp

@[simp] theorem restReached_mem (b : Bool) (s : State) :
    (restReached b s).mem = s.mem := by
  unfold restReached; repeat' split
  all_goals simp

@[simp] theorem restReached_pending (b : Bool) (s : State) :
    (restReached b s).pending = s.pending := by
  unfold restReached; repeat' split
  all_goals simp

@[simp] theorem restReached_settings (b : Bool) (s : State) :
    (restReached b s).settings = s.settings := by
  unfold restReached; repeat' split
  all_goals simp

@[simp] theorem restReached_prescaler (b : Bool) (s : State) :
    (restReached b s).prescaler = s.prescaler := by
  unfold restReached; repeat' split
  all_goals simp

@[simp] theorem restReached_bpu_resetLine (b : Bool) (s : State) :
    (restReached b s).bpu.resetLine = s.bpu.resetLine := by
  unfold restReached; repeat' split
  all_goals simp

@[simp] theorem restReached_bpu_straps (b : Bool) (s : State) :
    (restReached b s).bpu.straps = s.bpu.straps := by
  unfold restReached; repeat' split
  all_goals simp

@[simp] theorem restReached_bpu_engagement (b : Bool) (s : State) :
    (restReached b s).bpu.engagement = s.bpu.engagement := by
  unfold restReached; repeat' split
  all_goals simp

@[simp] theorem restReached_bpu_reads (b : Bool) (s : State) :
    (restReached b s).bpu.reads = s.bpu.reads := by
  unfold restReached; repeat' split
  all_goals simp

@[simp] theorem restReached_bpu_geometry (b : Bool) (s : State) :
    (restReached b s).bpu.geometry = s.bpu.geometry := by
  unfold restReached; repeat' split
  all_goals simp

@[simp] theorem restReached_bpu_guard (b : Bool) (s : State) :
    (restReached b s).bpu.guard = s.bpu.guard := by
  unfold restReached; repeat' split
  all_goals simp

@[simp] theorem restReached_bpu_latch (b : Bool) (s : State) :
    (restReached b s).bpu.latch = s.bpu.latch := by
  unfold restReached; repeat' split
  all_goals simp

@[simp] theorem restReached_bht (b : Bool) (s : State) :
    (restReached b s).bht = s.bht := by
  unfold restReached; repeat' split
  all_goals simp

@[simp] theorem comeToRest_mem (s : State) :
    (comeToRest s).mem = s.mem := by
  simp [comeToRest]

@[simp] theorem comeToRest_pending (s : State) :
    (comeToRest s).pending = s.pending := by
  simp [comeToRest]

@[simp] theorem comeToRest_settings (s : State) :
    (comeToRest s).settings = s.settings := by
  simp [comeToRest]

@[simp] theorem comeToRest_prescaler (s : State) :
    (comeToRest s).prescaler = s.prescaler := by
  simp [comeToRest]

@[simp] theorem comeToRest_bpu_resetLine (s : State) :
    (comeToRest s).bpu.resetLine = s.bpu.resetLine := by
  simp [comeToRest]

@[simp] theorem comeToRest_bpu_straps (s : State) :
    (comeToRest s).bpu.straps = s.bpu.straps := by
  simp [comeToRest]

@[simp] theorem comeToRest_bpu_engagement (s : State) :
    (comeToRest s).bpu.engagement = s.bpu.engagement := by
  simp [comeToRest]

@[simp] theorem comeToRest_bpu_reads (s : State) :
    (comeToRest s).bpu.reads = s.bpu.reads := by
  simp [comeToRest]

@[simp] theorem comeToRest_bpu_geometry (s : State) :
    (comeToRest s).bpu.geometry = s.bpu.geometry := by
  simp [comeToRest]

@[simp] theorem comeToRest_bpu_guard (s : State) :
    (comeToRest s).bpu.guard = s.bpu.guard := by
  simp [comeToRest]

@[simp] theorem comeToRest_bpu_latch (s : State) :
    (comeToRest s).bpu.latch = s.bpu.latch := by
  simp [comeToRest]

@[simp] theorem comeToRest_bht (s : State) :
    (comeToRest s).bht = s.bht := by
  simp [comeToRest]

@[simp] theorem lineEnded_mem (s : State) :
    (lineEnded s).mem = s.mem := by
  unfold lineEnded; repeat' split
  all_goals simp

@[simp] theorem lineEnded_pending (s : State) :
    (lineEnded s).pending = s.pending := by
  unfold lineEnded; repeat' split
  all_goals simp

@[simp] theorem lineEnded_settings (s : State) :
    (lineEnded s).settings = s.settings := by
  unfold lineEnded; repeat' split
  all_goals simp

@[simp] theorem lineEnded_prescaler (s : State) :
    (lineEnded s).prescaler = s.prescaler := by
  unfold lineEnded; repeat' split
  all_goals simp

@[simp] theorem lineEnded_bpu_resetLine (s : State) :
    (lineEnded s).bpu.resetLine = s.bpu.resetLine := by
  unfold lineEnded; repeat' split
  all_goals simp

@[simp] theorem lineEnded_bpu_straps (s : State) :
    (lineEnded s).bpu.straps = s.bpu.straps := by
  unfold lineEnded; repeat' split
  all_goals simp

@[simp] theorem lineEnded_bpu_engagement (s : State) :
    (lineEnded s).bpu.engagement = s.bpu.engagement := by
  unfold lineEnded; repeat' split
  all_goals simp

@[simp] theorem lineEnded_bpu_reads (s : State) :
    (lineEnded s).bpu.reads = s.bpu.reads := by
  unfold lineEnded; repeat' split
  all_goals simp

@[simp] theorem lineEnded_bpu_geometry (s : State) :
    (lineEnded s).bpu.geometry = s.bpu.geometry := by
  unfold lineEnded; repeat' split
  all_goals simp

@[simp] theorem lineEnded_bpu_guard (s : State) :
    (lineEnded s).bpu.guard = s.bpu.guard := by
  unfold lineEnded; repeat' split
  all_goals simp

@[simp] theorem lineEnded_bpu_latch (s : State) :
    (lineEnded s).bpu.latch = s.bpu.latch := by
  unfold lineEnded; repeat' split
  all_goals simp

@[simp] theorem lineEnded_bht (s : State) :
    (lineEnded s).bht = s.bht := by
  unfold lineEnded; repeat' split
  all_goals simp

@[simp] theorem enterPresentingStop_mem (s : State) :
    (enterPresentingStop s).mem = s.mem := by
  simp [enterPresentingStop]

@[simp] theorem enterPresentingStop_pending (s : State) :
    (enterPresentingStop s).pending = s.pending := by
  simp [enterPresentingStop]

@[simp] theorem enterPresentingStop_settings (s : State) :
    (enterPresentingStop s).settings = s.settings := by
  simp [enterPresentingStop]

@[simp] theorem enterPresentingStop_prescaler (s : State) :
    (enterPresentingStop s).prescaler = s.prescaler := by
  simp [enterPresentingStop]

@[simp] theorem enterPresentingStop_bpu_resetLine (s : State) :
    (enterPresentingStop s).bpu.resetLine = s.bpu.resetLine := by
  simp [enterPresentingStop]

@[simp] theorem enterPresentingStop_bpu_straps (s : State) :
    (enterPresentingStop s).bpu.straps = s.bpu.straps := by
  simp [enterPresentingStop]

@[simp] theorem enterPresentingStop_bpu_engagement (s : State) :
    (enterPresentingStop s).bpu.engagement = s.bpu.engagement := by
  simp [enterPresentingStop]

@[simp] theorem enterPresentingStop_bpu_reads (s : State) :
    (enterPresentingStop s).bpu.reads = s.bpu.reads := by
  simp [enterPresentingStop]

@[simp] theorem enterPresentingStop_bpu_geometry (s : State) :
    (enterPresentingStop s).bpu.geometry = s.bpu.geometry := by
  simp [enterPresentingStop]

@[simp] theorem enterPresentingStop_bpu_guard (s : State) :
    (enterPresentingStop s).bpu.guard = s.bpu.guard := by
  simp [enterPresentingStop]

@[simp] theorem enterPresentingStop_bpu_latch (s : State) :
    (enterPresentingStop s).bpu.latch = s.bpu.latch := by
  simp [enterPresentingStop]

@[simp] theorem enterPresentingStop_bht (s : State) :
    (enterPresentingStop s).bht = s.bht := by
  simp [enterPresentingStop]

@[simp] theorem reportOverflow_mem (s : State) :
    (reportOverflow s).mem = s.mem := by
  unfold reportOverflow; repeat' split
  all_goals simp

@[simp] theorem reportOverflow_pending (s : State) :
    (reportOverflow s).pending = s.pending := by
  unfold reportOverflow; repeat' split
  all_goals simp

@[simp] theorem reportOverflow_settings (s : State) :
    (reportOverflow s).settings = s.settings := by
  unfold reportOverflow; repeat' split
  all_goals simp

@[simp] theorem reportOverflow_prescaler (s : State) :
    (reportOverflow s).prescaler = s.prescaler := by
  unfold reportOverflow; repeat' split
  all_goals simp

@[simp] theorem reportOverflow_bpu_resetLine (s : State) :
    (reportOverflow s).bpu.resetLine = s.bpu.resetLine := by
  unfold reportOverflow; repeat' split
  all_goals simp

@[simp] theorem reportOverflow_bpu_straps (s : State) :
    (reportOverflow s).bpu.straps = s.bpu.straps := by
  unfold reportOverflow; repeat' split
  all_goals simp

@[simp] theorem reportOverflow_bpu_engagement (s : State) :
    (reportOverflow s).bpu.engagement = s.bpu.engagement := by
  unfold reportOverflow; repeat' split
  all_goals simp

@[simp] theorem reportOverflow_bpu_reads (s : State) :
    (reportOverflow s).bpu.reads = s.bpu.reads := by
  unfold reportOverflow; repeat' split
  all_goals simp

@[simp] theorem reportOverflow_bpu_geometry (s : State) :
    (reportOverflow s).bpu.geometry = s.bpu.geometry := by
  unfold reportOverflow; repeat' split
  all_goals simp

@[simp] theorem reportOverflow_bpu_guard (s : State) :
    (reportOverflow s).bpu.guard = s.bpu.guard := by
  unfold reportOverflow; repeat' split
  all_goals simp

@[simp] theorem reportOverflow_bpu_latch (s : State) :
    (reportOverflow s).bpu.latch = s.bpu.latch := by
  unfold reportOverflow; repeat' split
  all_goals simp

@[simp] theorem reportOverflow_bht (s : State) :
    (reportOverflow s).bht = s.bht := by
  unfold reportOverflow; repeat' split
  all_goals simp

@[simp] theorem planningPoint_mem (s : State) :
    (planningPoint s).mem = s.mem := by
  unfold planningPoint countStretch; dsimp only; repeat' split
  all_goals simp

@[simp] theorem planningPoint_pending (s : State) :
    (planningPoint s).pending = s.pending := by
  unfold planningPoint countStretch; dsimp only; repeat' split
  all_goals simp

@[simp] theorem planningPoint_settings (s : State) :
    (planningPoint s).settings = s.settings := by
  unfold planningPoint countStretch; dsimp only; repeat' split
  all_goals simp

@[simp] theorem planningPoint_prescaler (s : State) :
    (planningPoint s).prescaler = s.prescaler := by
  unfold planningPoint countStretch; dsimp only; repeat' split
  all_goals simp

@[simp] theorem planningPoint_bpu_resetLine (s : State) :
    (planningPoint s).bpu.resetLine = s.bpu.resetLine := by
  unfold planningPoint countStretch; dsimp only; repeat' split
  all_goals simp

@[simp] theorem planningPoint_bpu_straps (s : State) :
    (planningPoint s).bpu.straps = s.bpu.straps := by
  unfold planningPoint countStretch; dsimp only; repeat' split
  all_goals simp

@[simp] theorem planningPoint_bpu_engagement (s : State) :
    (planningPoint s).bpu.engagement = s.bpu.engagement := by
  unfold planningPoint countStretch; dsimp only; repeat' split
  all_goals simp

@[simp] theorem planningPoint_bpu_reads (s : State) :
    (planningPoint s).bpu.reads = s.bpu.reads := by
  unfold planningPoint countStretch; dsimp only; repeat' split
  all_goals simp

@[simp] theorem planningPoint_bpu_geometry (s : State) :
    (planningPoint s).bpu.geometry = s.bpu.geometry := by
  unfold planningPoint countStretch; dsimp only; repeat' split
  all_goals simp

@[simp] theorem planningPoint_bpu_guard (s : State) :
    (planningPoint s).bpu.guard = s.bpu.guard := by
  unfold planningPoint countStretch; dsimp only; repeat' split
  all_goals simp

@[simp] theorem planningPoint_bpu_latch (s : State) :
    (planningPoint s).bpu.latch = s.bpu.latch := by
  unfold planningPoint countStretch; dsimp only; repeat' split
  all_goals simp

@[simp] theorem planningPoint_bht (s : State) :
    (planningPoint s).bht = s.bht := by
  unfold planningPoint countStretch; dsimp only; repeat' split
  all_goals simp

@[simp] theorem linePeriodExpires_mem (s : State) :
    (linePeriodExpires s).mem = s.mem := by
  unfold linePeriodExpires backfeedExpiry; repeat' split
  all_goals simp

@[simp] theorem linePeriodExpires_pending (s : State) :
    (linePeriodExpires s).pending = s.pending := by
  unfold linePeriodExpires backfeedExpiry; repeat' split
  all_goals simp

@[simp] theorem linePeriodExpires_settings (s : State) :
    (linePeriodExpires s).settings = s.settings := by
  unfold linePeriodExpires backfeedExpiry; repeat' split
  all_goals simp

@[simp] theorem linePeriodExpires_prescaler (s : State) :
    (linePeriodExpires s).prescaler = s.prescaler := by
  unfold linePeriodExpires backfeedExpiry; repeat' split
  all_goals simp

@[simp] theorem linePeriodExpires_bpu_resetLine (s : State) :
    (linePeriodExpires s).bpu.resetLine = s.bpu.resetLine := by
  unfold linePeriodExpires backfeedExpiry; repeat' split
  all_goals simp

@[simp] theorem linePeriodExpires_bpu_straps (s : State) :
    (linePeriodExpires s).bpu.straps = s.bpu.straps := by
  unfold linePeriodExpires backfeedExpiry; repeat' split
  all_goals simp

@[simp] theorem linePeriodExpires_bpu_engagement (s : State) :
    (linePeriodExpires s).bpu.engagement = s.bpu.engagement := by
  unfold linePeriodExpires backfeedExpiry; repeat' split
  all_goals simp

@[simp] theorem linePeriodExpires_bpu_reads (s : State) :
    (linePeriodExpires s).bpu.reads = s.bpu.reads := by
  unfold linePeriodExpires backfeedExpiry; repeat' split
  all_goals simp

@[simp] theorem linePeriodExpires_bpu_geometry (s : State) :
    (linePeriodExpires s).bpu.geometry = s.bpu.geometry := by
  unfold linePeriodExpires backfeedExpiry; repeat' split
  all_goals simp

@[simp] theorem linePeriodExpires_bpu_guard (s : State) :
    (linePeriodExpires s).bpu.guard = s.bpu.guard := by
  unfold linePeriodExpires backfeedExpiry; repeat' split
  all_goals simp

@[simp] theorem linePeriodExpires_bpu_latch (s : State) :
    (linePeriodExpires s).bpu.latch = s.bpu.latch := by
  unfold linePeriodExpires backfeedExpiry; repeat' split
  all_goals simp

@[simp] theorem linePeriodExpires_bht (s : State) :
    (linePeriodExpires s).bht = s.bht := by
  unfold linePeriodExpires backfeedExpiry; repeat' split
  all_goals simp

/-! ## The ring after a cancel -/

/-- R57: the walk after a cancel. -/
theorem rewindOutside_rrd (i : Idx) (s : State) :
    (rewindOutside i s).rrd = { s.rrd with
      walk := i, inside := false, label := none, impliedClose := false, fetch := none, hold := none,
      reread := none } := by
  simp [rewindOutside, discardHold, discardFetch, State.withdraw]

/-- R57: the ring after a cancel: the walk follows it, or stands. -/
theorem cancelInRing_rrd (c : Context) (s : State) :
    let k := cancelClosing c.closing s
    let table := (completeLabel c.label k .cancelled c.good c.spoiled s).rrd.table
    (walkFollowsCancel c s = true → (cancelInRing c s).rrd = { s.rrd with
      table := table, walk := k + 1, inside := false, label := none, impliedClose := false,
      fetch := none, hold := none, reread := none }) ∧
    (walkFollowsCancel c s = false → (cancelInRing c s).rrd = { s.rrd with table := table }) := by
  constructor <;> intro h <;> simp [cancelInRing, h, rewindOutside_rrd, completeLabel]

/-! ## The head's shift register -/

/-- R121: pulses into a register of at most `stages` dots: the dot that came last stands first. -/
theorem clockIn_foldl (stages : Nat) (dots : Dots) : ∀ register : Dots, register.length ≤ stages →
    dots.foldl (clockIn stages) register = (dots.reverse ++ register).take stages := by
  induction dots with
  | nil => intro r h; simp [List.take_of_length_le h]
  | cons x rest ih =>
    intro r _
    rw [List.foldl_cons, ih _ (by simp [clockIn]), clockIn]
    simp [List.take_append, List.take_take]

/-- A shift changes the register alone. -/
theorem Hdu.shiftIn_frame (stages pulses : Nat) (h : Hdu) :
    h.shiftIn stages pulses = { h with register := (h.shiftIn stages pulses).register } := rfl

/-- R121: the shift of the rest of a set changes the head's register alone. -/
theorem shiftRest_frame (s : State) :
    shiftRest s = { s with hdu := { s.hdu with register := (shiftRest s).hdu.register } } := rfl

end Sys2Proof.Machine
end

