-- ==== Sys2Proof/WellFormed.lean ====
section
/-! DEFINITION. Which command terms the processor side can produce. -/

namespace Sys2Proof

/-- The alignment of a processor cycle (R3, R18; log 10). -/
def Width.aligned : Width → Addr → Bool
  | .byte, _ => true
  | .half, a => a.toNat % 2 == 0
  | .word, a => a.toNat % 4 == 0

/-- A well-formed command: a cycle lies on its own alignment, and OTHER_CONTROL_CODE is a code other
than 1 to 6 (R77). Whether a write meets a watched word depends on the state and is judged there. -/
def Instr.wellFormed : Instr → Bool
  | .processorWrite w a _ => w.aligned a
  | .otherControlCode v => !(decide (1 ≤ v.toNat) && decide (v.toNat ≤ 6))
  | _ => true

end Sys2Proof
end

