-- ==== Sys2Proof/Tests/Slice0.lean ====
section
/-! SUPPORT. The model's own tests: ill-formed commands refused, the spec's worked cases, one step of a
command on a small state, and for each statement with hypotheses a state that meets them. -/

namespace Sys2Proof.Tests

open Sys2Proof Sys2Proof.Machine

/-! ## Ill-formed commands are refused -/

theorem test_wellformed_half : Instr.wellFormed (.processorWrite .half 0x100001#24 0) = false := by decide
theorem test_wellformed_word : Instr.wellFormed (.processorWrite .word 0x100002#24 0) = false := by decide
theorem test_wellformed_byte : Instr.wellFormed (.processorWrite .byte 0xFFFFFF#24 0) = true := by decide
theorem test_wellformed_other : Instr.wellFormed (.otherControlCode 6) = false := by decide
theorem test_wellformed_other_ok : Instr.wellFormed (.otherControlCode 7) = true := by decide
theorem test_wellformed_zero : Instr.wellFormed (.otherControlCode 0) = true := by decide

/-- The table gives no row bits, so no word spells a command. -/
theorem test_decode_none : decodeTableWord 32 1 = none := by decide

/-! ## Small states -/

/-- A small geometry that passes the check of R24 at strap value 1. -/
def geometry : Geometry :=
  { dots := 128, groups := 2, height := 8, bands := 2, imageBase := 0x100000, ringBase := 0x200000,
    slots := 16 }

/-- Settings in range; the energy values are those of 06 §6.8, the thermistor's T[9] and T[10] of 10. -/
def settings : Settings :=
  { eRef := 1200, tMax := 2000, f1 := 96, f2 := 80, f3 := 60, coolTime := 200,
    factors := List.replicate 16 112,
    thermistor := [110, 100, 90, 80, 75, 70, 65, 60, 52, 44, 36, 30, 24, 18, 10, 0, -10],
    thetaSlow := 60, thetaHold := 70, thetaTrip := 80, slowCap := 1, tGap := 8, dotLimit := 128,
    rampCount := 3, startRows := 1, restartRows := 1, media := .gapped, polarity := .gapHigh,
    guardLength := 2, tofAdjust := 0, settleTime := 5, dwellTime := 10, presentOffset := 4,
    freeThreshold := 1, guard := .pass, sensorDistance := 20, maxGap := 0, maxPitch := 0,
    pitchTolerance := 2, calLimit := 1000, defaultLength := 100, periods := [7000, 4000, 200] }

/-- The reset line released with strap value 1. -/
def released : State :=
  { State.reset with bpu := { Bpu.reset with resetLine := false, straps := some 1 } }

/-- ENGAGING, the geometry transfers waiting. -/
def engaging : State :=
  { released with bpu := { released.bpu with engagement := .engaging,
                                             waiting := [.geometry 0, .geometry 1] } }

/-- ENGAGING with a geometry that has passed. -/
def accepted : State :=
  { released with bpu := { released.bpu with
      engagement := .engaging
      reads := { EngageReads.empty with accepted := some geometry }
      waiting := (List.range 16).map Transfer.settings ++ [.producer] } }

/-- ENGAGED and IDLE, nothing published. -/
def up : State :=
  { released with
    bpu := { released.bpu with engagement := .engaged, geometry := some geometry }
    bht := Bht.engaged 2 1
    lcu := { Lcu.reset with engine := .idle }
    seu := { Seu.reset with h1 := geometry.blankRow, h2 := geometry.blankRow }
    mtu := { Mtu.reset with table := some settings.rampTable }
    msu := { Msu.reset with polarity := .gapHigh, headOpen := false, switchKnown := true }
    htu := { Htu.reset with schedule := some 10 }
    asu := { Asu.reset with masks := PerSource.all false, statusTimer := some 0 }
    settings := some settings }

/-- `up` in another engine state. -/
def inState (e : Engine) : State := { up with lcu := { up.lcu with engine := e } }

/-- A label context whose format record has been read. -/
def context : Context :=
  { tag := 0x0301, total := 2, formatAddr := 0x300000, length := 50, label := 40, closing := some 46,
    formatRead := true, formatData := [], darkness := 4, speedCap := 2, reprintFlag := false,
    permission := false, good := 0, spoiled := 0, copy := 1, reprintMark := false, strobed := false,
    stalls := 0, stretches := 0, thermalStops := 0 }

/-- The walk label of `context`. -/
def walkLabel : WalkLabel :=
  { index := 40, total := 2, tag := 0x0301, closing := some 46, ended := none }

/-- `context` in PRINTING in engine state `e`, the supply ON. -/
def labelled (e : Engine) : State :=
  { up with
    lcu := { up.lcu with engine := e, printing := some context }
    htu := { up.htu with supply := .on, dwell := some 0 } }

/-- A row with every dot of group 0 on. -/
def halfRow : Dots := List.replicate 64 true ++ List.replicate 64 false

/-- The first copy of `context` under way at media position 7, its next row fetched. -/
def printing : State :=
  let s := labelled .printing
  { s with
    lcu := { s.lcu with started := true, copyTof := some 5 }
    rsu := { Rsu.reset with
      buffer := [.row 0 0 1 40 [] (some halfRow), .run false 9 1 40, .endMark 1 40] }
    mtu := { s.mtu with motion := .forward, timer := some { period := 7000, elapsed := 7000 },
                        position := 7, source := .horizon } }

/-- An item fetch that has been granted these bytes, at walk index `walk` and take index `take`. -/
def fetched (bytes : List Byte) (walk take : Idx) (inside : Bool) : State :=
  let s := labelled .printing
  { s with rrd := { s.rrd with
      producer := 60, take := take, walk := walk, retire := 40, inside := inside
      label := if inside then some walkLabel else none
      fetch := some { index := walk, data := bytes, doomed := false } } }

/-- An item table entry of this index and kind. -/
def entry (i : Idx) (k : ItemKind) (complete : Bool) : ItemEntry :=
  { index := i, kind := k, complete := complete, result := if complete then some .done else none,
    reason := 0, byte13 := 0, half14 := 0, tag := 0x0301, silent := false }

/-- A forward line at position 9 of this run to be sensed, the run's phase and open gap given. -/
def sensing (phase : Phase) (high : Bool) : State :=
  { up with
    msu := { up.msu with
      sensing := some (9, 7000), senseMark := 9, phase := phase
      run := some { high := high, first := 8, length := 1, reported := false }
      openGap := if phase = .gap then some { edge := 3, exact := true, pitch := 0 } else none }
    mtu := { up.mtu with position := 10 } }

/-- A line firing its first slice of two, its only burst given active or in its recovery gap. -/
def firing (slice : Nat) (active : Bool) : State :=
  let a : Slice := { duration := 553, dots := halfRow, counts := [64, 0] }
  let b : Slice := { duration := 185, dots := halfRow, counts := [64, 0] }
  let line : LineRecord :=
    { owner := some (1, 40), slices := [a, b], classCounts := [], fired := halfRow }
  { printing with
    hdu := { Hdu.reset with
      state := .active, line := some line, bursts := [a.bursts 128, b.bursts 128], tGap := 8
      shift := .shifting 2 10
      firing := some { slice := slice, burst := 0, count := 0, compareA := 553, compareB := 561,
                       active := active } } }

/-- The state a command leads to. -/
def after (c : Instr) (s : State) : State :=
  match exec c s with
  | .next t => t
  | _ => s

/-! ## The spec's worked cases -/

/-- 06 §6.8: θ = 41 lies in band 7; 6.10: θ = −22 lies in band 0 and θ = −12 in band 1. -/
theorem test_band : bandOf 41 = 7 ∧ bandOf (-22) = 0 ∧ bandOf (-12) = 1 ∧ bandOf 100 = 15 := by decide

/-- 06 §6.8: t_base and the class durations; 6.10: the ceiling binds at 2000. -/
theorem test_durations :
    baseDuration settings 7 4 = 1181 ∧ classDuration settings 1181 1 = 885 ∧
    classDuration settings 1181 2 = 738 ∧ classDuration settings 1181 3 = 553 ∧
    baseDuration { settings with factors := [255] } 0 15 = 2000 := by decide

/-- 06 §6.9, line 2: dots P, Q, R, S on in P, R, S with P, Q, S fired before: slices 738 of P, R, S and
443 of R. -/
theorem test_slices :
    (lineRecord { geometry with dots := 4, groups := 1 } settings 7 4 [true, true, false, true]
      [false, false, false, false] [true, false, true, true] none).slices.map
        (fun x => (x.duration, x.dots)) =
      [(738, [true, false, true, true]), (443, [false, false, true, false])] := by decide

/-- The slices of 06 §6.8 as 07 §7.4 counts them. -/
def barcode : List Slice :=
  [{ duration := 553, dots := [], counts := [0, 0, 70, 80, 90, 60, 0, 0] },
   { duration := 185, dots := [], counts := [0, 0, 10, 20, 30, 0, 0, 0] },
   { duration := 443, dots := [], counts := [0, 0, 5, 15, 20, 0, 0, 0] }]

/-- 07 §7.4: slice 1 takes two bursts, of 240 and 60 dots. -/
theorem test_bursts : (barcode.map (Slice.bursts 256)).map (fun l => l.map fun b => (b.groups, b.dots)) =
    [[([2, 3, 4], 240), ([5], 60)], [([2, 3, 4], 60)], [([2, 3, 4], 40)]] := by decide

/-- 07 §7.4: the line time is 2405 ticks. -/
theorem test_line_time :
    LineRecord.time { LineRecord.empty with slices := barcode } 832 256 8 = 2405 := by decide

/-- 10: converter codes 144, 150, 151, 159 and 160. -/
theorem test_thermistor :
    [144, 150, 151, 159, 160].map (thermistorTheta settings.thermistor) = [44, 41, 40, 36, 36] := by
  decide

/-- 10: the grades through a hot run. -/
theorem test_grades :
    [58, 60, 66, 71, 68, 65, 56, 82, 76, 75, 64, 50].foldl
      (fun gs x => gs ++ [nextGrade settings x (gs.getLastD .normal)]) [] =
    [.normal, .slow, .slow, .hold, .hold, .slow, .slow, .trip, .trip, .hold, .slow, .normal] := by
  decide

/-- 01 §1.1, 1.5: row 5 of band 23 of the example window lies at 112D08H, which maps back to band 23. -/
theorem test_window :
    let g : Geometry := { geometry with dots := 832, groups := 8, height := 32, bands := 24,
                                        imageBase := 0x100000 }
    g.rowAddr 23 5 = 0x112D08 ∧ g.bandAt 0x112D30 = some 23 ∧ g.bandAt 0x113800 = none := by decide

/-- R2: bit 7 of the first byte is dot 0. -/
theorem test_row_dots : rowDots [0x80, 0x01] =
    true :: List.replicate 14 false ++ [true] := by decide

/-- R24: tests 1, 8 and 12 in order; the small geometry passes. -/
theorem test_geometry :
    geometryCheck geometry 0x3FF000 = 0 ∧
    geometryCheck { geometry with dots := 144, groups := 3 } 0x3FF000 = 1 ∧
    geometryCheck { geometry with imageBase := 0xFFFFFC } 0x3FF000 = 8 ∧
    geometryCheck { geometry with imageBase := 0x200000 } 0x3FF000 = 12 := by decide

/-- R133: periods are clamped to at least 200 and to the entry before. -/
theorem test_ramp_clamp : clampPeriods none [7000, 8000, 100, 300] = [7000, 7000, 200, 200] := by decide

/-- 11 §11.4: the offer is FAULT while RING is pending and LABEL in service; a stale read of RING still
acknowledges it. -/
theorem test_nesting :
    let s := { up with asu := { up.asu with
      records := { PerSource.all SourceRecord.clear with
        fault := { SourceRecord.clear with pending := true, code := 4, count := 1 }
        ring := { SourceRecord.clear with pending := true, code := 1, count := 1 }
        label := { SourceRecord.clear with inService := true } } } }
    offerOf s = some .fault ∧ (acknowledge 2 s).asu.records.ring.inService = true ∧
    (acknowledge 2 s).asu.offer = some .fault ∧ (acknowledge 4 s).asu.records.bands.inService = false := by
  decide

/-- R75: the good end of a reprint takes the permission with the mark; that of a first print keeps it. -/
theorem test_end_good :
    (Context.endGood { context with reprintMark := true, permission := true }).permission = false ∧
    (Context.endGood { context with permission := true }).permission = true := by decide

/-- R173, R184: a hold threshold of 128 beside a slow threshold of 127 is clamped to 127 and raised to 128
again: field 10 is named although the value stands. -/
theorem test_threshold_named :
    let b : List Byte := List.replicate 0x29 0 ++ [127, 128, 129] ++ List.replicate 212 0
    (readSettings geometry b).thetaHold = 128 ∧ (10, true) ∈ clampedFields geometry b ∧
    (9, false) ∈ clampedFields geometry b := by decide +kernel

/-! ## One command on a small state -/

theorem test_engage_asks : (after .engage released).bpu.waiting = [.geometry 0, .geometry 1] := by
  decide +kernel
theorem test_geometry_refused : (after .geometryCheck engaging).asu.offendingField = 1 := by
  decide +kernel
theorem test_engage_idle : (after .engageSuccess accepted).lcu.engine = .idle := by decide +kernel
theorem test_producer_refused :
    (after (.producerWrite 17) up).asu.records.ring.code = Code.producerRefused := by decide +kernel
theorem test_producer_taken : (after (.producerWrite 16) up).rrd.producer = 16 := by decide +kernel
theorem test_pause_idle : (after .pause up).lcu.engine = .holding .pause := by decide +kernel
theorem test_resume_idle : (after .resume (inState (.holding .pause))).lcu.engine = .idle := by
  decide +kernel
theorem test_cancel_printing : (after .cancelLabel printing).lcu.engine = .presenting .stop := by
  decide +kernel
theorem test_cancel_all : (after .cancelAll printing).rsu.buffer = [] := by decide +kernel
theorem test_restart_idle : (after .restart printing).lcu.engine = .idle := by decide +kernel
theorem test_status_waits : (after .status up).bpu.waiting = refreshTransfers := by decide +kernel
theorem test_other_code :
    (after (.otherControlCode 0x10007) up).asu.records.ring.arg = 7 := by decide +kernel
theorem test_masks : (after (.maskWordWrite 4) up).asu.masks.ring = true := by decide +kernel
theorem test_block_write :
    let s := { up with
      bpu := { up.bpu with guard := .block }
      bht := { up.bht with entries := [{ hold := 1, tag := 7 }, { hold := 0, tag := 0 }] } }
    (after (.processorWrite .word 0x100000 5) s).mem = [] ∧
    (after (.processorWrite .word 0x100080 5) s).mem = [(0x100080, 5)] := by decide +kernel
theorem test_fetch_band_holds :
    (after .itemFetchComplete (fetched [2, 0, 1, 0, 7, 1] 41 41 true)).bht.entries =
      [{ hold := 0, tag := 0 }, { hold := 1, tag := 0x0301 }] := by decide +kernel
theorem test_feed_starts :
    (after .operationHandover { up with rrd.hold := some (.feed 44 9) }).mtu.position = 1 := by
  decide +kernel
theorem test_line_fires : (after .linePeriodExpiry printing).hdu.state = .active := by decide +kernel
theorem test_line_ramps : (after .linePeriodExpiry printing).mtu.ramp = 1 := by decide +kernel
theorem test_compare_a : (after .burstCompareA (firing 1 true)).hdu.strobes = strobesOff := by
  decide +kernel
theorem test_compare_b_ends : (after .burstCompareB (firing 2 false)).hdu.state = .idle := by
  decide +kernel
theorem test_gap_opens :
    (after (.lineSensing true true false) (sensing .body true)).msu.phase = .gap := by decide +kernel
theorem test_edge_joins :
    (after (.lineSensing false true false) (sensing .gap false)).msu.queue =
      [{ tof := 28, gap := 5, pitch := 0 }] := by decide +kernel
theorem test_sensor_fault : (after (.conversionSample 0) up).lcu.engine = .faulted := by decide +kernel
theorem test_sample_theta : (after (.conversionSample 150) up).htu.theta = 41 := by decide +kernel
theorem test_psgd_fault :
    (after .psgdFall (labelled .arming)).lcu.faults.supply = true := by decide +kernel

/-! ## Witnesses: states and operands that meet the hypotheses of each statement, clause by clause -/

/-- Bytes written into the memory of a state. -/
def putWord (s : State) (a n x : Nat) : State := s.store a (leBytes n x)

theorem witness_StepRunsFront :
    { up with pending := [.status, .pause] }.pending = .status :: [.pause] ∧ up.pending = [] := by
  decide +kernel

theorem witness_ResetRelease :
    State.reset.bpu.resetLine = true ∧ up.bpu.resetLine = false := by decide +kernel

theorem witness_EngageBegins :
    (released.anchor? ≠ none ∧ released.bpu.engagement = .notEngaged) ∧
    (engaging.anchor? ≠ none ∧ engaging.bpu.engagement = .engaging) ∧
    (printing.anchor? ≠ none ∧ printing.bpu.engagement = .engaged) := by decide +kernel

/-- A geometry on the edge of conditions 1, 4 and 8 (the window ends at the top of the space), and one that
fails condition 4 first. -/
theorem witness_GeometryRules :
    geometryCheck { geometry with
      dots := 1024, groups := 8, height := 64, bands := 64, imageBase := 0xF80000 } 0x0FF000 = 0 ∧
    geometryCheck { geometry with bands := 65 } 0x3FF000 = 4 ∧ (4 : Nat) ≠ 0 ∧
    geometryCheck { geometry with imageBase := 0x2000C0 } 0x3FF000 = 12 := by decide +kernel

/-- `engaging` with the geometry block of `geometry` in memory. -/
def engagingGood : State :=
  putWord (putWord (putWord (putWord (putWord (putWord (putWord engaging 0x3FF040 2 128)
    0x3FF042 2 2) 0x3FF044 2 8) 0x3FF046 2 2) 0x3FF048 4 0x100000) 0x3FF04C 4 0x200000) 0x3FF050 2 16

theorem witness_GeometryChecked_accepted :
    engagingGood.bpu.engagement = .engaging ∧ engagingGood.bpu.reads = EngageReads.empty ∧
    engagingGood.bpu.waiting.filter Transfer.isDescriptor = [.geometry 0, .geometry 1] ∧
    rowWaits engagingGood = false ∧
    geometryCheck (readGeometry (engagingGood.mem.readBytes (engagingGood.anchor + 0x40) 32))
      engagingGood.anchor = 0 := by decide +kernel

theorem witness_GeometryChecked_refused :
    engaging.bpu.engagement = .engaging ∧ engaging.bpu.reads = EngageReads.empty ∧
    engaging.bpu.waiting.filter Transfer.isDescriptor = [.geometry 0, .geometry 1] ∧
    rowWaits engaging = false ∧
    geometryCheck (readGeometry (engaging.mem.readBytes (engaging.anchor + 0x40) 32))
      engaging.anchor ≠ 0 := by decide +kernel

/-- `accepted` with 2345H in the producer word and this latch: 2355H is the last value of the span of 16. -/
def latched (l : Option Idx) : State :=
  { putWord accepted 0x3FF008 4 0x12345 with bpu := { accepted.bpu with latch := l } }

/-- ENGAGING with `k` of the settings transfers granted, zeros read, and the producer word waiting. -/
def partlyRead (k : Nat) : State :=
  { accepted with bpu := { accepted.bpu with
      reads := { accepted.bpu.reads with settings := List.replicate (16 * k) 0 }
      waiting := ((List.range 16).drop k).map Transfer.settings ++ [.producer] } }

/-- ENGAGING with every read granted by idle steps, 2345H the producer word read, and this latch. -/
def allRead (l : Option Idx) : State :=
  { accepted with bpu := { accepted.bpu with
      reads := { accepted.bpu.reads with
        settings := List.replicate 256 0, producer := [0x45, 0x23, 1, 0] }
      waiting := [], latch := l } }

/-- What the statement on a successful engage supposes of every state. -/
abbrev engages (s : State) : Prop :=
  s.bpu.engagement = .engaging ∧ s.bpu.reads.accepted = some geometry ∧ rowWaits s = false ∧
    s.lcu.engine = .unconfigured

theorem witness_EngageSucceeds_waits :
    ∀ s ∈ [none, some 0x2345, some 0x2355, some 0x2356].map latched,
      engages s ∧ s.bpu.reads.producer = [] ∧ s.bpu.waiting.filter Transfer.isDescriptor =
        ((List.range 16).drop 0).map Transfer.settings ++ [.producer] := by decide +kernel

theorem witness_EngageSucceeds_reads :
    ∀ s ∈ [none, some 0x2345, some 0x2355, some 0x2356].map allRead,
      engages s ∧ s.bpu.reads.producer ≠ [] ∧
      s.bpu.waiting.filter Transfer.isDescriptor = [] := by decide +kernel

/-- One settings transfer granted, all but one, and all of them. -/
theorem witness_EngageSucceeds_partly : ∀ k ∈ [1, 15, 16],
    k ≤ 16 ∧ engages (partlyRead k) ∧ (partlyRead k).bpu.reads.producer = [] ∧
    (partlyRead k).bpu.waiting.filter Transfer.isDescriptor =
      ((List.range 16).drop k).map Transfer.settings ++ [.producer] := by decide +kernel

/-- A block of zeros has values out of range. -/
theorem witness_EngageSucceeds_clamped : firstClamped geometry
    (accepted.mem.readBytes (accepted.anchor + 0x200) 256) ≠ 0 := by decide +kernel

theorem witness_WatchedWords_unwatched :
    (Instr.requestOffset .pause ≠ none ∧ State.reset.anchor? = none) ∧
    (engaging.anchor? ≠ none ∧ engaging.bpu.engagement = .engaging) := by decide +kernel

/-- `up` with a span from 40 to 60 of which 45 items have been taken. -/
def owning : State :=
  { up with rrd := { up.rrd with producer := 50, take := 45, walk := 45, retire := 40 } }

theorem witness_ProducerWrite :
    (released.anchor? ≠ none ∧ released.bpu.engagement = .notEngaged) ∧
    (accepted.anchor? ≠ none ∧ accepted.bpu.engagement = .engaging ∧
      accepted.bpu.reads.producer = []) ∧
    (let s := { accepted with bpu := { accepted.bpu with
        reads := { accepted.bpu.reads with producer := [1, 0, 0, 0] } } };
      s.anchor? ≠ none ∧ s.bpu.engagement = .engaging ∧ s.bpu.reads.producer ≠ []) := by
  decide +kernel

/-- The bounds of the acceptable values are the take index 45 and the retire index plus 16. -/
theorem witness_ProducerWrite_engaged :
    owning.anchor? ≠ none ∧ owning.bpu.engagement = .engaged ∧
    ((owning.rrd.take - owning.rrd.retire).toNat ≤ ((45 : Idx) - owning.rrd.retire).toNat ∧
      ((45 : Idx) - owning.rrd.retire).toNat ≤ owning.geo.slots) ∧
    ((owning.rrd.take - owning.rrd.retire).toNat ≤ ((56 : Idx) - owning.rrd.retire).toNat ∧
      ((56 : Idx) - owning.rrd.retire).toNat ≤ owning.geo.slots) ∧
    ¬ ((owning.rrd.take - owning.rrd.retire).toNat ≤ ((44 : Idx) - owning.rrd.retire).toNat ∧
      ((44 : Idx) - owning.rrd.retire).toNat ≤ owning.geo.slots) ∧
    ¬ ((owning.rrd.take - owning.rrd.retire).toNat ≤ ((57 : Idx) - owning.rrd.retire).toNat ∧
      ((57 : Idx) - owning.rrd.retire).toNat ≤ owning.geo.slots) := by decide +kernel

/-- `up` with band 1 held and a span of five items across the wrap of the index. -/
def held : State :=
  { up with
    bht := { up.bht with entries := [{ hold := 0, tag := 0 }, { hold := 1, tag := 5 }], free := 1,
                         release := [(0xFFFE, 1)] }
    rrd := { up.rrd with producer := 3, take := 3, walk := 3, retire := 0xFFFE } }

/-- `held` under BLOCK. -/
def heldBlock : State := { held with bpu := { held.bpu with guard := .block } }

/-- The third is a full write of 0 to the engage word. -/
theorem witness_ProcessorWrite :
    (lateWrite up (cycleAddr .half 0x1000FF#24) = none ∧ (Width.half ≠ .word)) ∧
    (lateWrite up (cycleAddr .word 0x3FF010#24) = none ∧
      up.anchor? = some 0x3FF000 ∧ ∀ off ∈ [0x000, 0x004, 0x008, 0x00C, 0x014],
        cycleAddr .word 0x3FF010#24 ≠ 0x3FF000 + off) ∧
    (lateWrite up (cycleAddr .word 0x3FF000#24) = none ∧ up.anchor? = some 0x3FF000 ∧
      (∀ off ∈ [0x004, 0x008, 0x00C, 0x014], cycleAddr .word 0x3FF000#24 ≠ 0x3FF000 + off) ∧
      (0 : BitVec 32) ≠ 1) ∧
    (lateWrite held (cycleAddr .byte 0x1000FF#24) = some 1 ∧ held.bpu.guard = .pass) ∧
    (lateWrite heldBlock (cycleAddr .byte 0x2000E0#24) = some 0x8E ∧
      heldBlock.bpu.guard = .block) := by decide +kernel

theorem witness_WatchedWords_cycles :
    up.anchor? = some 0x3FF000 ∧
    ∀ off ∈ [0x000, 0x004, 0x008, 0x00C, 0x014], lateWrite up (0x3FF000 + off) = none := by
  decide +kernel

/-- Band 1 is the window's last, the addresses its last byte, the last byte of band 0 and the first byte
after the window. -/
theorem witness_LateWrites_window :
    held.bpu.engagement = .engaged ∧ held.bpu.geometry = some geometry ∧
    geometryCheck geometry held.anchor = 0 ∧
    (geometry.imageBase ≤ 0x1000FF ∧
      0x1000FF < geometry.imageBase + geometry.bands * geometry.height * (geometry.dots / 8) ∧
      0 < held.bht.holdOf ((0x1000FF - geometry.imageBase) / (geometry.height * (geometry.dots / 8)))) ∧
    (0x10007F < geometry.imageBase + geometry.bands * geometry.height * (geometry.dots / 8) ∧
      held.bht.holdOf ((0x10007F - geometry.imageBase) / (geometry.height * (geometry.dots / 8))) = 0) ∧
    ¬ (0x100100 < geometry.imageBase + geometry.bands * geometry.height * (geometry.dots / 8)) ∧
    ¬ (geometry.ringBase ≤ 0x100100) := by decide +kernel

/-- Slot 14 holds the retire index FFFEH and slot 2 the last owned index 2; slot 3 is not owned. -/
theorem witness_LateWrites_ring :
    (∃ i : Idx, (i - held.rrd.retire).toNat < (held.rrd.producer - held.rrd.retire).toNat ∧
      i.toNat % geometry.slots = (0x2000E0 - geometry.ringBase) / 16) ∧
    (∃ i : Idx, (i - held.rrd.retire).toNat < (held.rrd.producer - held.rrd.retire).toNat ∧
      i.toNat % geometry.slots = (0x20002F - geometry.ringBase) / 16) ∧
    ¬ ∃ i : Idx, (i - held.rrd.retire).toNat < (held.rrd.producer - held.rrd.retire).toNat ∧
      i.toNat % geometry.slots = (0x200030 - geometry.ringBase) / 16 := by
  refine ⟨⟨0xFFFE, by decide +kernel⟩, ⟨2, by decide +kernel⟩, ?_⟩
  rintro ⟨i, h, k⟩
  have a : (i - 0xFFFE#16).toNat < 5 := h
  have b : i.toNat % 16 = 3 := k
  bv_omega

theorem witness_ControlUnconfigured :
    released.anchor? ≠ none ∧ released.bpu.engagement ≠ .engaging ∧
    released.lcu.engine = .unconfigured := by decide +kernel

/-- A state in which a control request is acted on by an engaged engine. -/
abbrev takesControl (s : State) : Prop :=
  s.anchor? ≠ none ∧ s.bpu.engagement ≠ .engaging ∧ s.lcu.engine ≠ .unconfigured

theorem witness_Pause :
    (takesControl up ∧ up.lcu.engine = .idle) ∧
    (takesControl (labelled .arming) ∧ (labelled .arming).lcu.engine = .arming ∧
      (labelled .arming).mtu.motion = .rest) ∧
    (takesControl printing ∧ printing.lcu.engine ≠ .idle ∧
      (printing.lcu.engine = .arming → printing.mtu.motion ≠ .rest)) := by decide +kernel

/-- FAULTED for these reasons. -/
def faulted (f : FaultSet) : State :=
  { up with lcu := { up.lcu with engine := .faulted, faults := f, pauseLatch := true } }

/-- `labelled` on continuous media. -/
def continuous (e : Engine) : State :=
  { labelled e with settings := some { settings with media := .continuous } }

theorem witness_Resume :
    (takesControl printing ∧ printing.lcu.engine ≠ .faulted ∧ printing.lcu.engine ≠ .holding .pause) ∧
    (let s := faulted { FaultSet.empty with headOpen := true, supply := true };
      takesControl s ∧ s.lcu.engine = .faulted ∧ (s.lcu.faults.thermalTrip ∨
        s.lcu.faults.thermSensor ∨ s.lcu.faults.headOpen ∨ s.lcu.faults.paperOut)) ∧
    (let s := faulted { FaultSet.empty with supply := true, gapMissing := true };
      takesControl s ∧ s.lcu.engine = .faulted ∧ ¬ (s.lcu.faults.thermalTrip ∨
        s.lcu.faults.thermSensor ∨ s.lcu.faults.headOpen ∨ s.lcu.faults.paperOut) ∧
      s.lcu.printing = none ∧ operationReady s = none) ∧
    (let s := inState (.holding .pause);
      takesControl s ∧ s.lcu.engine = .holding .pause ∧ s.lcu.printing = none ∧
      operationReady s = none) ∧
    (let s := continuous (.holding .pause);
      takesControl s ∧ s.lcu.engine = .holding .pause ∧ s.lcu.printing ≠ none ∧
      s.gapped = false ∧ s.lcu.restTof = none) := by decide +kernel

/-- HOLDING(PAUSE) on gapped media, with registration as given, a rest TOF `r` and the media position
`p`. -/
def resuming (polarity : Polarity) (valid : Bool) (r : Option Pos) (p : Pos) : State :=
  let s := labelled (.holding .pause)
  { s with
    lcu := { s.lcu with restTof := r, pauseLatch := true }
    msu := { s.msu with polarity := polarity, valid := valid }
    mtu := { s.mtu with position := p } }

/-- What the clause about a resumed label on any media supposes. -/
abbrev resumesLabel (s : State) : Prop :=
  takesControl s ∧ s.lcu.engine = .holding .pause ∧ s.lcu.printing ≠ none ∧ 1 < s.cfg.calLimit ∧
    s.msu.cal = none

theorem witness_Resume_calibrates :
    resumesLabel (resuming .unknown true (some 5) 9) ∧
    (resuming .unknown true (some 5) 9).gapped = true ∧
    (resuming .unknown true (some 5) 9).msu.polarity = .unknown := by decide +kernel

/-- A lost registration and an absent rest TOF. -/
theorem witness_Resume_seeks :
    ∀ s ∈ [resuming .gapHigh false (some 5) 9, resuming .gapLow true none 9],
      resumesLabel s ∧ s.gapped = true ∧ s.msu.polarity ≠ .unknown ∧
      (s.msu.valid = false ∨ s.lcu.restTof = none) := by decide +kernel

/-- The paper on the rest TOF and three lines past it, and on continuous media without one. -/
theorem witness_Resume_places :
    (∀ s ∈ [resuming .gapHigh true (some 5) 5, resuming .gapHigh true (some 5) 8],
      resumesLabel s ∧ s.gapped = true ∧ s.msu.polarity ≠ .unknown ∧ s.msu.valid = true ∧
      s.lcu.restTof = some 5) ∧
    linesAhead (5 : Pos) 5 = 0 ∧ 0 < linesAhead (8 : Pos) 5 ∧
    resumesLabel (continuous (.holding .pause)) ∧
    (continuous (.holding .pause)).gapped = false := by decide +kernel

/-- FAULTED for the supply alone with a label in PRINTING: RESUME takes it into ARMING. -/
def resumable : State :=
  { labelled .faulted with lcu := { (labelled .faulted).lcu with
      faults := { FaultSet.empty with supply := true }, restTof := some 0 } }

theorem witness_Resume_faulted :
    takesControl resumable ∧ resumable.lcu.engine = .faulted ∧
    ¬ (resumable.lcu.faults.thermalTrip ∨ resumable.lcu.faults.thermSensor ∨
      resumable.lcu.faults.headOpen ∨ resumable.lcu.faults.paperOut) ∧
    resumable.lcu.printing ≠ none ∧ 1 < resumable.cfg.calLimit := by decide +kernel

/-- A second label staged behind the first, segments of both in the stream, in this engine state. -/
def staged (e : Engine) : State :=
  { printing with
    lcu := { printing.lcu with engine := e, staged := some { context with label := 50, tag := 0x0302 } }
    rsu := { printing.rsu with queue := [.blankRun 3 2 40, .blankRun 5 1 50] }
    rrd := { printing.rrd with
      producer := 60, take := 52, walk := 52, retire := 40
      table := [entry 40 .label false, entry 41 .band false, entry 46 .endCopy false,
                entry 50 .label false] } }

theorem witness_CancelLabel_stays :
    (takesControl up ∧ up.lcu.printing = none) ∧
    ∀ e ∈ [Engine.presenting .atEnd, .presenting .stop, .feeding, .calibrating .item,
        .holding .pause, .faulted], takesControl (staged e) ∧
        (staged e).lcu.printing = some context ∧ (staged e).lcu.engine = e := by decide +kernel

/-- A calibration run in this phase, `n` lines counted. -/
def calRun (phase : CalPhase) (n : Nat) : CalRun :=
  { phase := phase, count := n, measured := none, savedPolarity := .gapHigh,
    savedCalibrated := true }

/-- `staged` with a calibration run under way. -/
def stagedRun (e : Engine) : State :=
  { staged e with msu := { (staged e).msu with cal := some (calRun .measuring 5) } }

theorem witness_CancelLabel_stops :
    (∀ e ∈ [Engine.printing, .seeking, .calibrating .arming], takesControl (staged e) ∧
      (staged e).lcu.printing = some context ∧ (staged e).lcu.engine = e ∧
      (staged e).mtu.stopping = none ∧ (staged e).mtu.latch = none ∧ (staged e).msu.cal = none) ∧
    (let s := stagedRun (.calibrating .arming);
      takesControl s ∧ s.lcu.printing = some context ∧ s.lcu.engine = .calibrating .arming ∧
      s.mtu.stopping = none ∧ s.mtu.latch = none ∧ s.msu.cal = some (calRun .measuring 5)) := by
  decide +kernel

/-- `staged` at rest with the pause latch as given, and with the second label or without. -/
def resting (e : Engine) (pause second : Bool) : State :=
  let s := staged e
  { s with
    mtu := { s.mtu with motion := .rest, timer := none }
    lcu := { s.lcu with pauseLatch := pause, staged := if second then s.lcu.staged else none } }

theorem witness_CancelLabel_chooses : ∀ e ∈ [Engine.arming, .stalled, .holding .thermal],
    ∀ pause second, takesControl (resting e pause second) ∧
      (resting e pause second).lcu.printing = some context ∧
      (resting e pause second).lcu.engine = e ∧ (resting e pause second).mtu.motion = .rest ∧
      (resting e pause second).lcu.pauseLatch = pause ∧
      ((resting e pause second).lcu.staged = none ↔ second = false) ∧
      1 < (resting e pause second).cfg.calLimit := by decide +kernel

/-- ARMING with one backward line to go, the label cancelled or still there. -/
def backOver (cancelled pause : Bool) : State :=
  let s := resting .arming pause false
  { s with
    mtu := { s.mtu with
      motion := .backward, dirForward := false, timer := some { period := 7000, elapsed := 7000 } }
    lcu := { s.lcu with
      printing := if cancelled then none else s.lcu.printing, armCancelled := cancelled } }

theorem witness_CancelLabel_backfeed :
    (takesControl (backOver false false) ∧ (backOver false false).lcu.printing = some context ∧
      (backOver false false).lcu.engine = .arming ∧
      (backOver false false).mtu.motion ≠ .rest) ∧
    ∀ pause, (backOver true pause).lcu.engine = .arming ∧
      (backOver true pause).lcu.armCancelled = true ∧
      (backOver true pause).mtu.motion = .backward ∧ (backOver true pause).mtu.timer ≠ none ∧
      (backOver true pause).mtu.backfeed = 0 ∧ (backOver true pause).lcu.pauseLatch = pause ∧
      (backOver true pause).lcu.printing = none ∧
      operationReady (backOver true pause) = none := by decide +kernel

/-- `staged` with no label STAGED, the walk OUTSIDE after the body, a FEED in the hold and a fetch. -/
def unstaged (e : Engine) : State :=
  let s := staged e
  { s with
    lcu := { s.lcu with staged := none }
    rrd := { s.rrd with
      hold := some (.feed 50 9), impliedClose := true
      fetch := some { index := 52, data := [6], doomed := false } } }

/-- With no label STAGED, and with the walk in the body of the STAGED label. -/
theorem witness_CancelLabel_walk :
    (takesControl (unstaged .faulted) ∧ (unstaged .faulted).lcu.printing = some context ∧
      (unstaged .faulted).lcu.engine = .faulted ∧ (unstaged .faulted).lcu.operation = none ∧
      (unstaged .faulted).lcu.staged = none) ∧
    (let s := staged .feeding;
      let w : WalkLabel := { walkLabel with index := 50, closing := none };
      let t := { s with rrd := { s.rrd with inside := true, label := some w } };
      takesControl t ∧ t.lcu.printing = some context ∧ t.lcu.engine = .feeding ∧
      t.lcu.operation = none ∧ t.lcu.staged ≠ none ∧ t.rrd.label = some w ∧ w.index ≠ context.label) := by decide +kernel

/-- What the statement on CANCEL_ALL supposes of every state. -/
abbrev cancelsAll (s : State) : Prop := takesControl s ∧ s.mtu.stopping = none ∧ s.mtu.latch = none

theorem witness_CancelAll :
    (∀ e ∈ [Engine.idle, .holding .pause, .faulted, .presenting .atEnd, .presenting .stop, .feeding,
      .printing, .seeking, .calibrating .item], cancelsAll (staged e) ∧
        (staged e).lcu.engine = e) ∧
    (cancelsAll (stagedRun (.calibrating .item)) ∧
      (stagedRun (.calibrating .item)).msu.cal = some (calRun .measuring 5)) ∧
    (∀ e ∈ [Engine.arming, .stalled, .holding .thermal], cancelsAll (resting e true true) ∧
      (resting e true true).lcu.engine = e ∧ (resting e true true).mtu.motion = .rest) ∧
    cancelsAll (backOver false false) ∧ (backOver false false).lcu.engine = .arming ∧
    (backOver false false).mtu.motion ≠ .rest := by decide +kernel

/-- `staged` with the first label's last copy ended before its body has closed, a FEED running, and the hold
of the BAND item at 41 in the table. -/
def holding : State :=
  let s := staged .feeding
  { s with
    lcu := { s.lcu with operation := some { index := 51, feed := some 9 } }
    rrd := { s.rrd with label := some { walkLabel with closing := none, ended := some (2, 0) } }
    bht := { entries := [{ hold := 0, tag := 0 }, { hold := 1, tag := 0x0301 }],
             release := [(41, 1)], free := 1, threshold := 1 } }

theorem witness_CancelAll_holds :
    (cancelsAll holding ∧
      (holding.bht.release.map fun r => r.1).Sublist (holding.rrd.table.map fun e => e.index)) ∧
    ∀ b, holding.bht.holdOf b = holding.bht.release.countP fun r => r.2 == b := by
  constructor
  · decide +kernel
  · intro b
    rcases b with _ | _ | b <;> rfl

theorem witness_Restart :
    (takesControl (staged .printing) ∧ (staged .printing).msu.cal = none) ∧
    takesControl (firing 1 true) ∧ takesControl (stagedRun (.calibrating .arming)) ∧
    (stagedRun (.calibrating .arming)).msu.cal = some (calRun .measuring 5) := by decide +kernel

theorem witness_StatusAndOtherCode :
    takesControl up ∧
    (released.anchor? ≠ none ∧ released.bpu.engagement ≠ .engaging) ∧
    ((0 : BitVec 32).toNat = 0 ∨ 6 < (0 : BitVec 32).toNat) ∧
    ((7 : BitVec 32).toNat = 0 ∨ 6 < (7 : BitVec 32).toNat) := by decide +kernel

/-- `up` with an event in each source and LABEL in service; FAULT is offered. -/
def attending : State :=
  let r : SourceRecord := { pending := true, inService := false, code := 7, arg := 0x1234, count := 255 }
  { up with asu := { up.asu with
      records := { PerSource.all r with label := { r with inService := true } }, offer := some .fault } }

/-- `attending` with RING in service instead, and the vector word on `n`. -/
def polled (n : Nat) : State :=
  let r : SourceRecord := { pending := true, inService := false, code := 7, arg := 0x1234, count := 255 }
  putWord { attending with asu := { attending.asu with
    records := { PerSource.all r with ring := { r with inService := true } } } } 0x3FF010 4 n

theorem witness_EventTaken :
    up.bpu.engagement = .engaged ∧ (raise .bands 1 2 up).asu.offer ≠ up.asu.offer ∧
    (raise .bands 1 2 up).asu.offer = some .bands ∧
    attending.bpu.engagement = .engaged ∧
    (raise .fault 1 2 attending).asu.offer = some .fault ∧
    (attending.asu.records.get .fault).count = 255 ∧
    ((raise .bands 1 2 attending).asu.offer = attending.asu.offer ∧
      (raise .bands 1 2 attending).asu.offer ≠ some .bands) ∧
    released.bpu.engagement ≠ .engaged := by decide +kernel

theorem witness_OfferRule : released.lcu.engine = .unconfigured ∧ offerOf attending = some .fault := by
  decide +kernel

theorem witness_MaskWordWrite :
    attending.anchor? ≠ none ∧ attending.bpu.engagement = .engaged ∧
    (after (.maskWordWrite 1) attending).asu.offer ≠ attending.asu.offer ∧
    (after (.maskWordWrite 0) attending).asu.offer = attending.asu.offer := by decide +kernel

/-- What holds of each of the five sources holds of every one. -/
theorem every_source {P : Source → Prop}
    (h : ∀ n ∈ [Source.fault, .media, .ring, .label, .bands], P n) (n : Source) : P n :=
  h n (by cases n <;> decide)

theorem witness_EndOfService_none :
    (released.anchor? ≠ none ∧ released.lcu.engine = .unconfigured) ∧ up.anchor? ≠ none ∧
    ∀ n, (up.asu.records.get n).inService = false :=
  ⟨by decide +kernel, by decide +kernel, every_source (by decide +kernel)⟩

theorem witness_EndOfService :
    (attending.anchor? ≠ none ∧ attending.lcu.engine ≠ .unconfigured ∧
      (attending.asu.records.get .label).inService = true ∧
      attending.bpu.engagement = .engaged) ∧
    ∀ m, m.priority < Source.label.priority → (attending.asu.records.get m).inService = false :=
  ⟨by decide +kernel, every_source (by decide +kernel)⟩

/-- The source the lowest three bits of the vector word on `n` name is pending and outranks every source in
service. -/
abbrev qualifies (n : Nat) (x : Source) : Prop :=
  (polled n).lcu.engine ≠ .unconfigured ∧ ((polled n).asu.records.get x).pending = true ∧
    ∀ m, ((polled n).asu.records.get m).inService = true → x.priority < m.priority

theorem witness_Acknowledge_served :
    ((polled 1).anchor? ≠ none ∧
      Source.media.priority = ((polled 1).mem.read ((polled 1).anchor + 0x10)).toNat % 8) ∧
    qualifies 1 .media :=
  ⟨by decide +kernel, by decide +kernel, by decide +kernel, every_source (by decide +kernel)⟩

/-- RING in service is not outranked by RING; 7 names no source. -/
theorem witness_Acknowledge_poll :
    (∀ n : Source, n.priority = ((polled 2).mem.read ((polled 2).anchor + 0x10)).toNat % 8 →
      ¬ qualifies 2 n) ∧
    ∀ n : Source, n.priority ≠ ((polled 7).mem.read ((polled 7).anchor + 0x10)).toNat % 8 := by
  refine ⟨fun n k q => ?_, every_source (by decide +kernel)⟩
  have ring : n = .ring :=
    every_source (P := fun x => x.priority =
      ((polled 2).mem.read ((polled 2).anchor + 0x10)).toNat % 8 → x = .ring) (by decide +kernel) n k
  exact absurd (q.2.2 .ring (by decide +kernel)) (by rw [ring]; decide)

/-- `attending` with these transfers waiting. -/
def awaitingPort (w : List Transfer) : State :=
  { attending with bpu := { attending.bpu with waiting := w } }

theorem witness_VectorWordWrite :
    let before : List Transfer := [.statusBody 2, .statusBody 3, .statusEven]
    let rest : List Transfer := [.outcome 0x20000C 1]
    let s := awaitingPort (before ++ .vector :: rest);
    s.bpu.waiting = before ++ .vector :: rest ∧ (∀ x ∈ before, x.isStatus = true) ∧
    (∀ x ∈ rest, x.isDescriptor = false ∧ x ≠ .vector) ∧ rowWaits s = false ∧
    (s.asu.offer = some .fault ∧ (s.asu.records.get .fault).code < 16 ∧
      (s.asu.records.get .fault).count < 256) ∧
    up.asu.offer = none := by decide +kernel

theorem witness_StatusRefresh :
    let rest : List Transfer := [.outcome 0x20000C 1]
    let s := awaitingPort (refreshTransfers ++ rest);
    s.bpu.waiting = .statusOdd :: .statusBody 0 :: .statusBody 1 :: .statusBody 2 ::
      .statusBody 3 :: .statusEven :: rest ∧
    (∀ x ∈ rest, x.isDescriptor = false ∧ x ≠ .vector) ∧ rowWaits s = false := by decide +kernel

theorem witness_TimerPeriods_status :
    released.asu.statusTimer = none ∧
    (up.asu.statusTimer ≠ none ∧ (up.lcu.engine = .idle ∨ up.lcu.engine = .unconfigured)) ∧
    (printing.asu.statusTimer ≠ none ∧ printing.lcu.engine ≠ .idle ∧
      printing.lcu.engine ≠ .unconfigured) := by decide +kernel

theorem witness_OutcomeWrite :
    (let s := awaitingPort [.outcome 0x20000C 0x12345678, .vector];
      s.bpu.waiting = .outcome 0x20000C 0x12345678 :: [.vector] ∧
      (∀ x ∈ [Transfer.vector], x.isDescriptor = false) ∧ rowWaits s = false) ∧
    (∀ x ∈ (awaitingPort [.vector]).bpu.waiting, x.isOutcome = false) := by decide +kernel

/-! ### The ring and the row supply -/

theorem witness_HoldTable :
    let t := held.bht;
    1 < t.entries.length ∧ 0 < t.entries.length ∧ t.release = (0xFFFE, 1) :: [] ∧
    t.holdOf 1 = 1 ∧ (∀ r ∈ t.release.head?, r.1 ≠ (0xFFFF : Idx)) := by decide +kernel

/-- What every statement about a fetch supposes. -/
abbrev fetchReady (s : State) (bytes : List Byte) (walk : Idx) : Prop :=
  s.rrd.fetch = some { index := walk, data := bytes, doomed := false } ∧
    Transfer.item ∉ s.bpu.waiting

/-- Band B − 1, row H − 1 on a first walk, and band 0, row 0 with no row count on a re-walk. -/
theorem witness_FetchBand :
    (let b : List Byte := [2, 0, 1, 0, 7, 1];
      let s := fetched b 41 41 true;
      fetchReady s b 41 ∧ s.rrd.inside = true ∧ s.rrd.label = some walkLabel ∧
      s.rrd.supplyCopy ≤ walkLabel.total ∧ s.lcu.printing ≠ none ∧ field 0 1 b = 2 ∧
      field 2 2 b < s.geo.bands ∧ field 4 1 b < s.geo.height ∧ s.rrd.walk = s.rrd.take) ∧
    (let b : List Byte := [2, 0, 0, 0, 0, 0];
      let s := fetched b 41 45 true;
      fetchReady s b 41 ∧ s.rrd.inside = true ∧ s.rrd.label = some walkLabel ∧
      s.rrd.supplyCopy ≤ walkLabel.total ∧ s.lcu.printing ≠ none ∧ field 0 1 b = 2 ∧
      field 2 2 b < s.geo.bands ∧ field 4 1 b < s.geo.height ∧ s.rrd.walk ≠ s.rrd.take) := by decide +kernel

/-- A REPEAT of 5 lines on a first walk and a BLANK of none on a re-walk. -/
theorem witness_FetchBand_runs :
    (let b : List Byte := [3, 0, 5, 0];
      let s := fetched b 41 41 true;
      fetchReady s b 41 ∧ s.rrd.inside = true ∧ s.rrd.label = some walkLabel ∧
      s.rrd.supplyCopy ≤ walkLabel.total ∧ s.lcu.printing ≠ none ∧ field 0 1 b = 3 ∧
      s.rrd.walk = s.rrd.take) ∧
    (let b : List Byte := [4, 0, 0, 0];
      let s := fetched b 41 45 true;
      fetchReady s b 41 ∧ s.rrd.inside = true ∧ s.rrd.label = some walkLabel ∧
      s.rrd.supplyCopy ≤ walkLabel.total ∧ s.lcu.printing ≠ none ∧ field 0 1 b = 4 ∧
      field 2 2 b = 0 ∧ s.rrd.walk ≠ s.rrd.take) := by decide +kernel

/-- R46's reason, as the statement writes it. -/
def refusal (s : State) (b : List Byte) : Nat :=
  let k := field 0 1 b
  if k = 0 ∨ 8 < k then 1
  else if (s.rrd.inside = true ∧ 6 ≤ k) ∨ (s.rrd.inside = false ∧ 2 ≤ k ∧ k ≤ 5) then 2
  else if k = 2 ∧ s.geo.bands ≤ field 2 2 b then 3
  else if k = 2 ∧ s.geo.height ≤ field 4 1 b then 4
  else 0

/-- Opcodes 9 and 5 outside a label, 6 inside one, band B and row H; the last on a re-walk. -/
theorem witness_FetchRefused :
    (let s := fetched [9] 41 41 false; fetchReady s [9] 41 ∧ refusal s [9] = 1 ∧
      (s.lcu.printing = none → s.lcu.staged = none) ∧ s.rrd.walk = s.rrd.take) ∧
    (let s := fetched [5] 41 41 false; fetchReady s [5] 41 ∧ refusal s [5] = 2) ∧
    (let s := fetched [6] 41 41 true; fetchReady s [6] 41 ∧ refusal s [6] = 2) ∧
    (let s := fetched [2, 0, 2, 0] 41 41 true; fetchReady s [2, 0, 2, 0] 41 ∧
      refusal s [2, 0, 2, 0] = 3) ∧
    (let s := fetched [2, 0, 1, 0, 8] 41 45 true; fetchReady s [2, 0, 1, 0, 8] 41 ∧
      refusal s [2, 0, 1, 0, 8] = 4 ∧ s.rrd.walk ≠ s.rrd.take) := by decide +kernel

theorem witness_FetchLabel :
    let b : List Byte := [1, 0, 0, 0, 3, 2, 1, 7, 1, 2];
    let s := fetched b 41 41 false;
    fetchReady s b 41 ∧ s.rrd.inside = false ∧ s.lcu.printing ≠ none ∧ field 0 1 b = 1 ∧
    s.rrd.walk = s.rrd.take ∧ s.rrd.impliedClose = false ∧
    { s with rrd := { s.rrd with impliedClose := true } }.rrd.impliedClose = true := by decide +kernel

/-- A LABEL item fetched on continuous media in engine state `e`, PRINTING empty. -/
def opening (e : Engine) : State :=
  let s := fetched [1, 0, 0, 0, 3, 2, 1, 7, 1, 2] 41 41 false
  { s with
    settings := some { settings with media := .continuous }
    lcu := { s.lcu with engine := e, printing := none } }

/-- PRINTING empty: in a presentation the label only moves up, in IDLE the part enters ARMING. -/
theorem witness_FetchLabel_moves_up :
    (∀ e ∈ [Engine.presenting .atEnd, .idle],
      fetchReady (opening e) [1, 0, 0, 0, 3, 2, 1, 7, 1, 2] 41 ∧ (opening e).rrd.inside = false ∧
      (opening e).lcu.printing = none ∧ (opening e).lcu.engine ≠ .unconfigured) ∧
    (opening (.presenting .atEnd)).lcu.engine ≠ .idle ∧ (opening .idle).lcu.engine = .idle ∧
    (opening .idle).lcu.pauseLatch = false ∧ (opening .idle).gapped = false ∧
    (opening .idle).lcu.restTof = none := by decide +kernel

/-- PRINTING empty in IDLE on gapped media. -/
theorem witness_FetchLabel_arms :
    let s := { opening .idle with settings := some settings };
    fetchReady s [1, 0, 0, 0, 3, 2, 1, 7, 1, 2] 41 ∧ s.rrd.inside = false ∧
    s.lcu.printing = none ∧ s.lcu.engine = .idle ∧ s.lcu.pauseLatch = false ∧
    1 < s.cfg.calLimit ∧ s.gapped = true := by decide +kernel

/-- The re-walk of the END item at index 46 for supply copy `n` of 2. -/
def ending (n : Nat) : State :=
  let s := fetched [5] 46 47 true
  { s with rrd := { s.rrd with supplyCopy := n } }

/-- The last supplies a copy past the copies total. -/
theorem witness_FetchEnd : ∀ n ∈ [1, 2, 3],
    fetchReady (ending n) [5] 46 ∧ (ending n).rrd.inside = true ∧
    (ending n).rrd.label = some walkLabel ∧
    (ending n).lcu.printing ≠ none ∧ field 0 1 [5] = 5 ∧ (ending n).rrd.walk ≠ (ending n).rrd.take ∧
    ((ending n).rrd.supplyCopy < walkLabel.total ↔ n = 1) := by decide +kernel

/-- The first walk of the item at index 46, END or LABEL, which closes copy `n` of 2. -/
def closing (bytes : List Byte) (n : Nat) : State :=
  let s := fetched bytes 46 46 true
  { s with
    rrd := { s.rrd with supplyCopy := n, label := some { walkLabel with closing := none } }
    lcu := { s.lcu with printing := some { context with closing := none } } }

theorem witness_FetchEnd_first : ∀ b ∈ [[(5 : Byte)], [1]], ∀ n ∈ [1, 2],
    fetchReady (closing b n) b 46 ∧ (closing b n).rrd.inside = true ∧
    (closing b n).rrd.label = some { walkLabel with closing := none } ∧
    (closing b n).lcu.printing ≠ none ∧ (field 0 1 b = 5 ∨ field 0 1 b = 1) ∧
    (closing b n).rrd.walk = (closing b n).rrd.take ∧
    ((closing b n).rrd.supplyCopy < walkLabel.total ↔ n = 1) := by decide +kernel

/-- The close of the body of a label whose last copy has ended, nothing left in the contexts. -/
theorem witness_FetchEnd_ended :
    let w : WalkLabel := { walkLabel with closing := none, ended := some (2, 0) };
    let c := closing [5] 2;
    let s := { c with
      rrd := { c.rrd with label := some w }, lcu := { c.lcu with printing := none } };
    fetchReady s [5] 46 ∧ s.rrd.inside = true ∧ s.rrd.label = some w ∧ w.ended = some (2, 0) ∧
    s.lcu.staged = none ∧ w.total ≤ s.rrd.supplyCopy := by decide +kernel

/-- Three COMPLETE items, the last silent, before one that is not; the release brings the free count to the
threshold. -/
def retiring (threshold : Nat) : State :=
  { up with
    rrd := { up.rrd with
      producer := 44, take := 44, walk := 44, retire := 40
      table := [entry 40 .label true, entry 41 .band true,
                { entry 42 .unknown true with silent := true }, entry 43 .feed false] }
    bht := { entries := [{ hold := 1, tag := 3 }, { hold := 0, tag := 0 }], release := [(41, 0)],
             free := 1, threshold := threshold }
    bpu := { up.bpu with waiting := refreshTransfers ++ [.outcome 16 0] } }

theorem witness_RetireAdvance :
    let run := [entry 40 .label true, entry 41 .band true,
      { entry 42 .unknown true with silent := true }];
    (retiring 2).rrd.table = run ++ [entry 43 .feed false] ∧ run ≠ [] ∧
    (∀ e ∈ run, e.complete = true ∧ e.index ≠ (retiring 2).rrd.walk) ∧
    (∀ e ∈ [entry 43 .feed false].head?, e.complete = false) ∧
    ((retiring 2).bht.free < (retiring 2).bht.threshold ∧
      (retiring 2).bht.threshold ≤ (settle (retiring 2)).bht.free) ∧
    ¬ ((retiring 1).bht.free < (retiring 1).bht.threshold) := by decide +kernel

/-- `retiring` with the walk rewound to the third item. -/
def rewound : State :=
  let s := retiring 1
  { s with rrd := { s.rrd with walk := 42 } }

theorem witness_RetireAdvance_rewound :
    rewound.rrd.table = [entry 40 .label true, entry 41 .band true] ++
      { entry 42 .unknown true with silent := true } :: [entry 43 .feed false] ∧
    (∀ e ∈ [entry 40 .label true, entry 41 .band true], e.complete = true ∧
      e.index ≠ rewound.rrd.walk) ∧
    { entry 42 .unknown true with silent := true }.index = rewound.rrd.walk := by decide +kernel

/-- R38: the retire index does not pass the walk index. -/
theorem test_retire_stops_at_walk : (settle rewound).rrd.retire = 42 := by decide +kernel

/-- A LABEL and a BAND item raise one event, a silent and a BAND item none. -/
theorem witness_RetireAdvance_events :
    [entry 40 .label true, entry 41 .band true].filterMap labelEvent =
      [(Code.labelRetired, 0x0301)] ∧
    [{ entry 42 .feed true with silent := true }, entry 41 .band true].filterMap labelEvent = [] ∧
    (outcomesOf geometry (retiring 2).bht [entry 40 .label true, entry 41 .band true]).length = 2 := by
  decide +kernel

theorem witness_OutcomeFields :
    let refused := { entry 40 .band true with result := some .refused, reason := 3 };
    refused.result = some .refused ∧ refused.reason < 256 ∧
    ((entry 41 .band true).result = some .done ∧ ItemResult.done ≠ .refused ∧
      held.bht.holdOf 1 < 256) ∧
    ((entry 41 .label true).byte13 < 256 ∧ (entry 41 .label true).half14 < 65536) := by
  decide +kernel

/-- `printing` with a held segment, a queue of `n` and this discard mark. -/
def handing (n : Nat) (discard : Option (Idx × Nat)) : State :=
  { printing with
    rrd := { printing.rrd with hold := some (.segment (.copyEnd 1 40)) }
    rsu := { printing.rsu with queue := List.replicate n (.blankRun 1 1 40), discard := discard } }

theorem witness_SegmentHandover :
    (handing 7 none).rrd.hold = some (.segment (.copyEnd 1 40)) ∧
    ((handing 7 none).rsu.discard ≠ some (40, 1) ∧ (handing 7 none).rsu.queue.length < 8) ∧
    ((handing 8 none).rsu.discard ≠ some (40, 1) ∧ 8 ≤ (handing 8 none).rsu.queue.length) ∧
    (handing 8 (some (40, 1))).rsu.discard = some (40, 1) := by decide +kernel

/-- A buffer of `n` slots, resting or filling, before two segments. -/
def stocked (n : Nat) (filling : Bool) : Rsu :=
  { Rsu.reset with
    buffer := List.replicate n (.endMark 1 40), filling := filling
    queue := [.rows 0 0 3 1 40, .blankRun 9 1 40] }

theorem witness_FillHysteresis :
    ((stocked 5 false).buffer.length ≤ 8 ∧ (stocked 5 false).filling = false ∧
      4 < (stocked 5 false).buffer.length) ∧
    ((stocked 8 true).buffer.length ≤ 8 ∧ (stocked 8 true).filling = true) ∧
    ((stocked 4 false).buffer.length ≤ 4 ∧
      ∀ x ∈ (stocked 4 false).queue, x.isEnd = false → 1 ≤ x.lines) := by decide +kernel

/-- `printing` with this line buffer and repeat image. -/
def buffered (b : List Slot) (i : Option RepeatImage) : State :=
  { printing with rsu := { Rsu.reset with buffer := b, repeatImage := i } }

/-- Behind a blank run, a row of whose 16 bytes 10 have been read. -/
def granting : State :=
  buffered [.run false 1 1 40, .row 1 7 1 40 (List.replicate 10 7) none, .endMark 1 40] none

theorem witness_FillHysteresis_idle :
    (granting.pending = [] ∧ granting.rsu.buffer =
      [.run false 1 1 40] ++ .row 1 7 1 40 (List.replicate 10 7) none :: [.endMark 1 40] ∧
      (List.replicate 10 (7 : Byte)).length < granting.geo.dots / 8) ∧
    ∀ x ∈ [Slot.run false 1 1 40], ∀ b r c l g, x = .row b r c l g none →
      granting.geo.dots / 8 ≤ g.length :=
  ⟨by decide +kernel, by simp⟩

/-- A FEED of 9 lines on a first walk, and a CALIBRATE and a SETTINGS item on a re-walk. -/
theorem witness_OperationHandover_fetch :
    (let s := fetched [6, 0, 9, 0] 41 41 false;
      fetchReady s [6, 0, 9, 0] 41 ∧ s.rrd.inside = false ∧ s.lcu.printing ≠ none ∧
      field 0 1 [6, 0, 9, 0] = 6 ∧ Held.feed s.rrd.walk (field 2 2 [6, 0, 9, 0]) = .feed 41 9 ∧
      s.rrd.walk = s.rrd.take) ∧
    (∀ b ∈ [[(7 : Byte)], [8]], fetchReady (fetched b 41 45 false) b 41 ∧
      (fetched b 41 45 false).rrd.inside = false ∧ (fetched b 41 45 false).lcu.printing ≠ none ∧
      (field 0 1 b = 7 ∨ field 0 1 b = 8)) := by decide +kernel

theorem witness_OperationHandover :
    (let s := { up with rrd := { up.rrd with hold := some (.feed 44 1) } };
      s.lcu.engine = .idle ∧ s.lcu.pauseLatch = false ∧ s.lcu.printing = none ∧
      s.lcu.staged = none ∧ s.lcu.operation = none ∧ s.msu.cal = none ∧
      s.rrd.hold = some (.feed 44 1) ∧ 0 < 1) ∧
    (let s := { up with
        settings := some { settings with media := .continuous }
        rrd := { up.rrd with hold := some (.calibrate 44) } };
      s.lcu.engine = .idle ∧ s.lcu.pauseLatch = false ∧ s.lcu.printing = none ∧
      s.lcu.staged = none ∧ s.lcu.operation = none ∧ s.msu.cal = none ∧
      s.rrd.hold = some (.calibrate 44) ∧ s.gapped = false) ∧
    (let s := { up with rrd := { up.rrd with hold := some (.calibrate 44) } };
      s.lcu.engine = .idle ∧ s.lcu.pauseLatch = false ∧ s.lcu.printing = none ∧
      s.lcu.staged = none ∧ s.lcu.operation = none ∧ s.msu.cal = none ∧
      s.rrd.hold = some (.calibrate 44) ∧ s.gapped = true ∧ 1 < s.cfg.calLimit) := by
  decide +kernel

/-- A settings re-read that has returned a block of zeros, the SETTINGS item the only one in the table. -/
def rereading (m : Motion) : State :=
  { up with
    mtu := { up.mtu with motion := m }
    rrd := { up.rrd with
      producer := 45, take := 45, walk := 45, retire := 44, hold := some (.settings 44)
      reread := some (List.replicate 256 0), table := [entry 44 .settings false] } }

theorem witness_SettingsReread :
    let s := rereading .rest;
    s.rrd.hold = some (.settings 44) ∧ s.rrd.reread = some (List.replicate 256 0) ∧
    (∀ x ∈ s.bpu.waiting, x.isReread = false) ∧
    firstClamped s.geo (List.replicate 256 0) ≠ 0 ∧ s.mtu.motion = .rest ∧
    ((rereading .forward).mtu.motion ≠ .rest ∧ (rereading .forward).htu.dwell = none) ∧
    s.cfg.sensorDistance ≠ (readSettings s.geo (List.replicate 256 0)).sensorDistance ∧
    s.rrd.table = [entry 44 .settings false] ∧ (entry 44 .settings false).index = 44 ∧
    (entry 44 .settings false).kind = .settings ∧ (entry 44 .settings false).silent = false ∧
    (entry 44 .settings false).result = none ∧ s.rrd.retire = 44 ∧ s.rrd.walk = 44 + 1 := by
  decide +kernel

/-- `rereading` at rest in VALID registration, its media settings those of the block to come, under the default
polarity `p`. -/
def rereadingAlike (p : Polarity) : State :=
  let s := rereading .rest
  { s with
    msu := { s.msu with polarity := p, valid := true }
    settings := some (readSettings s.geo (List.replicate 256 0)) }

/-- A re-read that changes the polarity alone, from GAP_HIGH to the UNKNOWN of a block of zeros, and one that
changes nothing. -/
theorem witness_SettingsReread_polarity :
    let c := readSettings geometry (List.replicate 256 0);
    c.polarity = .auto ∧ (rereadingAlike .gapHigh).msu.calibrated = false ∧
    ∀ p ∈ [Polarity.gapHigh, .unknown], (rereadingAlike p).rrd.hold = some (.settings 44) ∧
      (rereadingAlike p).msu.polarity = p ∧ (rereadingAlike p).msu.valid = true ∧
      (rereadingAlike p).htu.dwell = none ∧ (rereadingAlike p).cfg.media = c.media ∧
      (rereadingAlike p).cfg.sensorDistance = c.sensorDistance ∧
      (rereadingAlike p).cfg.guardLength = c.guardLength ∧
      (rereadingAlike p).cfg.tofAdjust = c.tofAdjust := by decide +kernel

/-- A block of zeros: 32 ramp periods follow a ramp count of 255, and field 1 is the first named. -/
theorem witness_SettingsReread_block :
    let b : List Byte := List.replicate 48 0 ++ 255 :: List.replicate 207 0;
    let c := readSettings geometry b;
    30 + 1 < c.rampCount ∧ c.periods[30]? = some 200 ∧ firstClamped geometry b = 1 ∧
    (1 : Nat) ≠ 0 := by decide +kernel

/-- `context` before its format record's bytes, darkness −16, cap 9 and the reprint flag, are taken. -/
def unread : Context :=
  { context with formatRead := false, formatData := [0xF0, 9, 3, 0, 0, 0, 0, 0] }

theorem witness_FormatRecordRead :
    let s := { (labelled .arming) with lcu := { (labelled .arming).lcu with printing := some unread } };
    let r := { (labelled .printing) with lcu := { (labelled .printing).lcu with staged := some unread } };
    unread.formatRead = false ∧ (Transfer.format unread.label ∉ s.bpu.waiting ∧
      s.lcu.printing = some unread) ∧
    (Transfer.format unread.label ∉ r.bpu.waiting ∧ r.lcu.staged = some unread ∧
      (∀ p ∈ r.lcu.printing, p.formatRead = true)) := by decide +kernel

/-- `printing` with two PENDING rows behind a run. -/
def pendingRows : State :=
  let b : List Slot := [.run true 1 1 40, .row 1 7 1 40 [7, 7, 7] none, .row 0 3 1 40 [] none]
  { printing with rsu := { Rsu.reset with buffer := b } }

theorem witness_RowFetchComplete :
    pendingRows.rsu.buffer =
      [.run true 1 1 40] ++ .row 1 7 1 40 [7, 7, 7] none :: [.row 0 3 1 40 [] none] ∧
    pendingRows.rsu.waiting = false ∧ 15 < 8 * [(0x80 : Byte), 1].length := by decide +kernel

theorem witness_RowFetchComplete_first : ∀ x ∈ [Slot.run true 1 1 40],
    ∀ b r c l g, x ≠ .row b r c l g none := by simp

/-- A PENDING head row that a line waits for, the supply in state `p`. -/
def awaited (p : Supply) : State :=
  let s := buffered [.row 1 7 1 40 [0xFF] none, .endMark 1 40] none
  { s with
    rsu := { s.rsu with waiting := true }
    hdu := { s.hdu with state := .awaiting }
    htu := { s.htu with supply := p } }

theorem witness_RowFetchComplete_waiting : ∀ p ∈ [Supply.on, .off],
    (awaited p).rsu.buffer = .row 1 7 1 40 [0xFF] none :: [.endMark 1 40] ∧
    (awaited p).rsu.waiting = true ∧ (awaited p).lcu.started = true ∧
    (awaited p).lcu.printing = some context ∧ (awaited p).hdu.state = .awaiting ∧
    (awaited p).mtu.stopping = none ∧ (awaited p).mtu.latch = none ∧
    (awaited p).htu.supply = p := by decide +kernel

/-- The row that was waited for fires. -/
theorem test_awaited_fires : (after .rowFetchComplete (awaited .on)).hdu.state = .active := by
  decide +kernel

/-! ### The line -/

/-- `printing` with the supply in state `p`. -/
def printingOn (p : Supply) : State := { printing with htu := { printing.htu with supply := p } }

/-- What both parts of the statement on a printed line suppose. -/
abbrev printsOn (s : State) : Prop :=
  s.lcu.engine = .printing ∧ s.lcu.started = true ∧ s.lcu.printing = some context ∧
    s.msu.cal = none ∧ s.lcu.seek = none ∧ s.mtu.timer ≠ none ∧ s.mtu.motion = .forward ∧
    s.hdu.state = .idle

theorem witness_PrintedLine : ∀ p ∈ [Supply.on, .settling],
    printsOn (printingOn p) ∧ planLine (printingOn p) = .line 1 ∧
    (printingOn p).msu.queue.head? = none ∧ (printingOn p).lcu.copyTof = some 5 ∧
    linesAhead ((printingOn p).mtu.position + 1) 5 < (printingOn p).cfg.calLimit ∧
    (printingOn p).gapped = true := by decide +kernel

theorem witness_PrintedLine_row : HeadGives printing halfRow [.run false 9 1 40, .endMark 1 40]
    (some { image := halfRow, copy := 1, label := 40 }) := .row 0 0 1 40 [] halfRow _ rfl

/-- `printing` with its head row PENDING, on gapped or continuous media. -/
def unfetched (media : MediaKind) : State :=
  { buffered [.row 1 7 1 40 [0xFF] none, .endMark 1 40] none with
    settings := some { settings with media := media } }

theorem witness_PrintedLine_pending : ∀ m ∈ [MediaKind.gapped, .continuous],
    printsOn (unfetched m) ∧ (unfetched m).rsu.buffer = .row 1 7 1 40 [0xFF] none :: [.endMark 1 40] ∧
    (planLine (unfetched m) = .line 0 ∨ planLine (unfetched m) = .line 1) ∧
    (unfetched m).msu.queue.head? = none ∧ (unfetched m).lcu.copyTof = some 5 ∧
    (unfetched m).mtu.position + 1 ≠ 5 + BitVec.ofNat 32 context.length ∧
    linesAhead ((unfetched m).mtu.position + 1) 5 < (unfetched m).cfg.calLimit := by decide +kernel

/-- R88: the line waits for its row. -/
theorem test_line_waits : (after .linePeriodExpiry (unfetched .gapped)).hdu.state = .awaiting := by
  decide +kernel

/-- The other rows of the delivery table: a run with its image, one with another copy's, a blank run, the END
slot and an empty buffer. -/
theorem witness_PrintedLine_heads :
    let i : RepeatImage := { image := halfRow, copy := 1, label := 40 };
    HeadGives (buffered [.run true 1 1 40, .endMark 1 40] (some i)) halfRow [.endMark 1 40] (some i) ∧
    HeadGives (buffered [.run true 2 2 40] (some i)) geometry.blankRow [.run true 1 2 40] (some i) ∧
    HeadGives (buffered [.run false 2 1 40] none) geometry.blankRow [.run false 1 1 40] none ∧
    HeadGives (buffered [.endMark 1 40] none) geometry.blankRow [.endMark 1 40] none ∧
    HeadGives (buffered [] none) geometry.blankRow [] none :=
  ⟨.repeats 1 { image := halfRow, copy := 1, label := 40 } [.endMark 1 40] rfl rfl,
    .repeatsNothing 2 2 40 [] rfl (fun j h k => by cases h; exact absurd k.1 (by decide)), .blank 2 1 40 [] rfl,
    .endMark 1 40 [] rfl, .none rfl⟩

/-- The copy's end at the next step: its END slot at the head or a blank run left over, its successor's rows
behind it or not, the pause latch as given, on gapped media or at its length of 50 on continuous media. -/
def finishing (left ready pause gapped : Bool) : State :=
  { printing with
    settings := some { settings with media := if gapped then .gapped else .continuous }
    lcu := { printing.lcu with pauseLatch := pause, copyTof := some 5 }
    mtu := { printing.mtu with position := 54 }
    msu := { printing.msu with queue := if gapped then [{ tof := 55, gap := 3, pitch := 50 }] else [] }
    rsu := { Rsu.reset with
      buffer := (if left then [.run false 3 1 40] else []) ++ [.endMark 1 40] ++
        (if ready then [.run false 6 2 40] else []) } }

theorem witness_PrintedLine_copy_end : ∀ left ready pause gapped : Bool,
    let s := finishing left ready pause gapped;
    printsOn s ∧ (planLine s = .line 0 ∨ planLine s = .line 1) ∧ s.lcu.copyTof = some 5 ∧
    (s.gapped = true → 1 ≤ ahead (s.mtu.position + 1) 5 ∧
      s.msu.queue.head?.map (fun e => e.tof) = some (s.mtu.position + 1)) ∧
    (s.gapped = false → s.mtu.position + 1 = (5 : Pos) + BitVec.ofNat 32 context.length) ∧
    0 < s.cfg.calLimit := by decide +kernel

theorem witness_PrintedLine_fires :
    (lineRecord printing.geo printing.cfg printing.seu.band context.darkness printing.seu.h1
      printing.seu.h2 halfRow (some (context.copy, context.label))).slices ≠ [] ∧
    printing.htu.supply = .on ∧ printing.msu.headOpen = false ∧
    (printingOn .settling).htu.supply ≠ .on := by decide +kernel

/-- `firing`, its line period at an end. -/
def late : State :=
  let s := firing 1 true
  { s with mtu := { s.mtu with timer := some { period := 10, elapsed := 10 } } }

/-- `printing` with nothing in the stream. -/
def dry : State :=
  { printing with
    rsu := Rsu.reset
    mtu := { printing.mtu with pendingTable := some settings.rampTable } }

/-- `printing` at ramp index 0 in the deceleration of a thermal hold. -/
def cooling : State :=
  { printing with
    mtu := { printing.mtu with source := .decelerate }
    htu := { printing.htu with grade := .hold } }

theorem witness_LineStretchedOrStalled_hold :
    cooling.mtu.timer ≠ none ∧ cooling.mtu.motion = .forward ∧
    cooling.lcu.printing = some context ∧ cooling.lcu.engine = .printing ∧
    cooling.hdu.state = .idle ∧ cooling.mtu.source = .decelerate ∧ cooling.mtu.ramp = 0 ∧
    cooling.htu.grade = .hold := by decide +kernel

theorem witness_LineStretchedOrStalled :
    (late.mtu.timer ≠ none ∧ late.mtu.motion = .forward ∧ late.lcu.printing = some context ∧
      late.hdu.state = .active ∧ (∀ line ∈ late.hdu.line, line.owner = some (1, context.label)) ∧
      late.hdu.line ≠ none ∧ planLine late = .line 1) ∧
    (dry.mtu.timer ≠ none ∧ dry.mtu.motion = .forward ∧ dry.lcu.printing = some context ∧
      dry.lcu.engine = .printing ∧ dry.hdu.state = .idle ∧ dry.mtu.source = .horizon ∧
      horizon dry = 0 ∧ dry.mtu.ramp = 0 ∧ dry.mtu.tailRunOn = false) := by decide +kernel

/-- `printing` at ramp index `i` under this planning source, with a stream or without. -/
def atRamp (i : Nat) (source : PlanSource) (stream tail : Bool) : State :=
  { printing with
    rsu := if stream then printing.rsu else Rsu.reset
    mtu := { printing.mtu with ramp := i, source := source, tailRunOn := tail } }

theorem witness_PlanBounded :
    planLine (atRamp 2 .horizon true false) = .line 2 ∧
    ((atRamp 0 .horizon true false).mtu.source ≠ .decelerate ∧
      1 ≤ amountAhead (atRamp 0 .horizon true false)) ∧
    ((atRamp 1 .horizon false false).mtu.source ≠ .decelerate ∧
      amountAhead (atRamp 1 .horizon false false) = 0 ∧ 0 < (atRamp 1 .horizon false false).mtu.ramp) ∧
    (amountAhead (atRamp 0 .horizon false true) = 0 ∧ (atRamp 0 .horizon false true).mtu.ramp = 0 ∧
      (atRamp 0 .horizon false true).mtu.tailRunOn = true) ∧
    (amountAhead (atRamp 0 .horizon false false) = 0 ∧
      (atRamp 0 .horizon false false).mtu.tailRunOn = false) ∧
    ((atRamp 1 .decelerate true false).mtu.source = .decelerate ∧
      0 < (atRamp 1 .decelerate true false).mtu.ramp) ∧
    (atRamp 0 .decelerate true false).mtu.ramp = 0 := by decide +kernel

theorem witness_PlanBounded_target :
    let s := atRamp 0 (.distance (.at 7)) true false;
    s.mtu.source = .distance (.at 7) ∧ amountAhead s = 0 ∧ s.mtu.ramp = 0 ∧
    s.mtu.tailRunOn = false := by decide +kernel

/-- The table falls; a line time of 4000 ticks allows entry 1, one of 4001 only entry 0. -/
theorem witness_PlanBounded_time :
    let periods := (printing.mtu.table.map fun t => t.periods).getD [];
    periods.Pairwise (fun p q => q ≤ p) ∧ periods[1]? = some 4000 ∧
    printing.mtu.ramps.timeCap 4000 = 1 ∧ printing.mtu.ramps.timeCap 4001 = 0 := by decide +kernel

/-- A started copy at position 7 with this stream, these queued TOFs and this media kind. -/
def streaming (b : List Slot) (tofs : List Pos) (media : MediaKind) : State :=
  { printing with
    settings := some { settings with media := media }
    msu := { printing.msu with queue := tofs.map fun p => { tof := p, gap := 3, pitch := 50 } }
    rsu := { Rsu.reset with buffer := b } }

/-- An open copy, a closed one, a closed one with an open one behind it and two closed ones. -/
theorem witness_PlanBounded_horizon :
    let a : Slot := .run false 9 1 40;
    let b : Slot := .run false 6 2 40;
    let e : Slot := .endMark 1 40;
    let f : Slot := .endMark 2 40;
    let open_ (l : List Slot) : Prop := ∀ x ∈ l.map Slot.element, x.isEnd = false;
    (streaming [a] [30] .gapped).rsu.stream = [a.element] ∧
    (streaming [a, e] [30] .gapped).rsu.stream = [a.element] ++ [e.element] ∧
    (streaming [a, e, b] [30, 80] .gapped).rsu.stream = [a.element] ++ e.element :: [b.element] ∧
    (streaming [a, e, b, f] [] .gapped).rsu.stream =
      [a.element] ++ e.element :: [b.element] ++ [f.element] ∧
    open_ [a] ∧ open_ [b] ∧ e.element.isEnd = true ∧ f.element.isEnd = true ∧
    (streaming [a] [30] .gapped).gapped = true ∧ (streaming [a] [] .continuous).gapped = false ∧
    (streaming [a] [] .continuous).lcu.started = true ∧
    (streaming [a] [] .continuous).lcu.copyTof = some 5 ∧
    (streaming [a] [] .continuous).lcu.printing = some context ∧
    a.element.label = context.label ∧ e.element.label = context.label := by decide +kernel

/-- R90, R91: on continuous media a closed copy of length 50 from TOF 5 counts 48 lines at position 7 and one
fewer at the next, whatever its rows; on gapped media the queued TOF is its end. -/
theorem test_horizon_continuous :
    let l : List Slot := [.run false 9 1 40, .endMark 1 40];
    horizon (streaming l [] .continuous) = 48 ∧
    horizon { streaming l [] .continuous with mtu := { printing.mtu with position := 8 } } = 47 ∧
    horizon (streaming l [30] .gapped) = 23 ∧ horizon (streaming l [] .gapped) = 18 := by
  decide +kernel

/-- The first copy ready to start, the paper at rest on its TOF. -/
def arming : State :=
  { printing with
    lcu := { printing.lcu with engine := .arming, started := false, restTof := some 5 }
    mtu := { up.mtu with position := 5 } }

/-- The first copy stalled at position 7, with its stream or without. -/
def stalled (stream : Bool) : State :=
  { printing with
    lcu := { printing.lcu with engine := .stalled }
    rsu := if stream then printing.rsu else Rsu.reset
    mtu := { up.mtu with position := 7 } }

/-- What every clause about the next step of a copy supposes. -/
abbrev stepsOn (s : State) : Prop :=
  s.lcu.printing = some context ∧ s.msu.cal = none ∧ s.lcu.seek = none ∧
  s.msu.queue.head? = none ∧ s.lcu.copyTof = some 5 ∧
  linesAhead (s.mtu.position + 1) 5 < s.cfg.calLimit ∧ s.gapped = true

theorem witness_CopyStarts_starts :
    stepsOn arming ∧ arming.lcu.engine = .arming ∧ arming.mtu.motion = .rest ∧
    arming.htu.supply = .on ∧ arming.msu.headOpen = false ∧
    (arming.htu.grade = .normal ∨ arming.htu.grade = .slow) ∧ context.formatRead = true ∧
    arming.rsu.holds context.label context.copy = true ∧ arming.cfg.startRows ≤ horizon arming := by decide +kernel

/-- The supply still settles. -/
theorem witness_CopyStarts_waits :
    let s := { arming with htu := { arming.htu with supply := .settling } };
    stepsOn s ∧ s.lcu.engine = .arming ∧ ¬ (s.htu.supply = .on) := by decide +kernel

theorem witness_CopyStarts_restarts :
    (stepsOn (stalled true) ∧ (stalled true).lcu.engine = .stalled ∧
      (stalled true).cfg.restartRows ≤ horizon (stalled true)) ∧
    (stepsOn (stalled false) ∧ (stalled false).lcu.engine = .stalled ∧
      ¬ ((stalled false).cfg.restartRows ≤ horizon (stalled false) ∨
        (1 ≤ horizon (stalled false) ∧ (stalled false).rsu.lastClosed = true))) := by decide +kernel

/-- ARMING with `k` backward lines to go, the last TOF passed at the media position 7. -/
def backing (k : Nat) : State :=
  { arming with
    msu := { arming.msu with passed := [{ tof := 7, gap := 3, pitch := 50 }] }
    mtu := { arming.mtu with
      motion := .backward, position := 7, backfeed := k, dirForward := false
      timer := some { period := 7000, elapsed := 7000 } } }

theorem witness_CopyStarts_backfeed : ∀ k ∈ [0, 2],
    stepsOn (backing k) ∧ (backing k).lcu.engine = .arming ∧ (backing k).mtu.motion = .backward ∧
    (backing k).mtu.timer ≠ none ∧ (backing k).mtu.backfeed = k ∧
    (backing k).msu.queue.length < 16 ∧ (backing k).lcu.pauseLatch = false ∧
    (backing k).lcu.armCancelled = false := by decide +kernel

/-- The shift of slice 1 of a line at its end, the burst counter idle. -/
def shifted : State :=
  let s := firing 1 true
  { s with hdu := { s.hdu with firing := none, shift := .shifting 1 128, strobes := strobesOff } }

/-- `firing 1 true` with the first ten dots of slice 2 in the head's shift register, over those of a cut line. -/
def tenIn : State :=
  let s := firing 1 true
  { s with hdu := { s.hdu with register := halfRow.drop 118 ++ List.replicate 30 true } }

theorem witness_ShiftComplete_register :
    tenIn.pending = [] ∧ tenIn.hdu.shift = .shifting 2 10 ∧ 10 + 2 ≤ tenIn.geo.dots ∧
    ∃ x, tenIn.hdu.slice 2 = some x ∧ x.dots.length = tenIn.geo.dots ∧
      tenIn.hdu.register.length ≤ tenIn.geo.dots ∧
      tenIn.hdu.register.take 10 = x.dots.drop (tenIn.geo.dots - 10) :=
  ⟨by decide +kernel, by decide +kernel, by decide +kernel, _, rfl, by decide +kernel⟩

/-- R121: of four dots the highest goes first, and each ends at its own stage. -/
theorem test_shift_order :
    serialOrder [true, true, false, false] = [false, false, true, true] ∧
    [false, false, true, true].foldl (clockIn 4) [false, true, false, true] =
      [true, true, false, false] := by decide

theorem witness_ShiftComplete :
    ((firing 1 true).hdu.shift = .shifting 2 10 ∧ (firing 1 true).hdu.firing ≠ none) ∧
    (shifted.hdu.shift = .shifting 1 128 ∧ shifted.hdu.firing = none ∧ shifted.hdu.slice 1 ≠ none ∧
      shifted.hdu.burst 1 0 ≠ none ∧ shifted.lcu.printing = some context ∧
      (∀ line ∈ shifted.hdu.line, line.owner = some (1, context.label)) ∧
      shifted.hdu.line ≠ none) ∧
    (let s := { shifted with lcu := { shifted.lcu with printing := none } };
      s.hdu.shift = .shifting 1 128 ∧ s.hdu.firing = none ∧ s.lcu.printing = none) ∧
    (let s := { shifted with hdu := { shifted.hdu with shift := .shifting 2 128 } };
      s.hdu.shift = .shifting 2 128 ∧ s.hdu.firing = none ∧ s.hdu.slice 2 ≠ none ∧
      s.hdu.burst 2 0 ≠ none) := by decide +kernel

/-- `firing` in the recovery gap of a first burst that another burst of the slice follows. -/
def twoBursts : State :=
  let s := firing 1 false
  { s with hdu := { s.hdu with
      bursts := [[{ groups := [0], dots := 64 }, { groups := [1], dots := 0 }], []] } }

theorem witness_Bursts :
    (∀ f ∈ (firing 1 true).hdu.firing, f.active = true) ∧ (firing 1 true).hdu.firing ≠ none ∧
    (∀ f ∈ twoBursts.hdu.firing, f.active = false ∧ twoBursts.hdu.slice f.slice ≠ none ∧
      twoBursts.hdu.burst f.slice (f.burst + 1) ≠ none) ∧ twoBursts.hdu.firing ≠ none ∧
    (∀ f ∈ (firing 1 false).hdu.firing, f.active = false ∧
      (firing 1 false).hdu.burst f.slice (f.burst + 1) = none ∧
      ((firing 1 false).hdu.slice (f.slice + 1)).isSome = true) ∧
    (firing 1 false).hdu.firing ≠ none ∧ (firing 1 false).hdu.shift = .shifting 2 10 ∧
    (∀ f ∈ (firing 2 false).hdu.firing, f.active = false ∧
      (firing 2 false).hdu.burst f.slice (f.burst + 1) = none ∧
      (firing 2 false).hdu.slice (f.slice + 1) = none) ∧
    (firing 2 false).hdu.firing ≠ none ∧ (firing 2 false).mtu.stopping = none ∧
    (firing 2 false).mtu.latch = none := by decide +kernel

/-- `firing` in its recovery gap with the next slice shifted. -/
def loaded : State :=
  let s := firing 1 false
  { s with hdu := { s.hdu with shift := .loaded 2 } }

theorem witness_Bursts_loaded :
    (∀ f ∈ loaded.hdu.firing, f.active = false ∧ 0 < f.slice ∧ loaded.hdu.shift = .loaded (f.slice + 1) ∧
      loaded.hdu.burst f.slice (f.burst + 1) = none ∧ loaded.hdu.slice (f.slice + 1) ≠ none ∧
      loaded.hdu.burst (f.slice + 1) 0 ≠ none) ∧ loaded.hdu.firing ≠ none := by decide +kernel

/-- The last slice in its recovery gap, a step or a stop waiting for the line end. -/
def deferred (latch : Option (Nat × Nat)) (stop : Option RestCause) : State :=
  let s := firing 2 false
  { s with mtu := { s.mtu with timer := none, latch := latch, stopping := stop } }

theorem witness_Bursts_deferred :
    let s := deferred (some (1, 4000)) none;
    let u := deferred none (some .horizonExhausted);
    (∀ f ∈ s.hdu.firing, f.active = false ∧ s.hdu.burst f.slice (f.burst + 1) = none ∧
      s.hdu.slice (f.slice + 1) = none) ∧ s.hdu.firing ≠ none ∧ u.hdu = s.hdu ∧
    stepsOn s ∧ s.mtu.stopping = none ∧ s.mtu.latch = some (1, 4000) ∧
    u.mtu.stopping = some .horizonExhausted ∧ u.lcu.engine = .printing ∧
    u.lcu.printing = some context ∧ u.mtu.source ≠ .decelerate := by decide +kernel

/-- 07 §7.4: the groups' counts are at most L; the line's time. -/
theorem witness_Bursts_packing :
    (∀ x ∈ [0, 0, 70, 80, 90, 60, 0, 0], x ≤ 256) ∧
    (packBursts 256 none 0 [0, 0, 70, 80, 90, 60, 0, 0]).length = 2 ∧
    LineRecord.empty.slices = [] := by decide +kernel

theorem witness_TimerPeriods_cool :
    { up with seu := { up.seu with restTimer := some 200 } }.seu.restTimer ≠ none ∧
    up.seu.restTimer = none := by decide +kernel

/-! ### Sensing, temperature and the head supply -/

/-- `sensing` with another sense mark. -/
def markedAt (m : Pos) : State :=
  let s := sensing .body true
  { s with msu := { s.msu with senseMark := m } }

/-- `sensing` with an unknown polarity. -/
def unknownPolarity : State :=
  let s := sensing .body true
  { s with msu := { s.msu with polarity := .unknown } }

/-- `sensing` whose run will be one line longer than the guard length asks for. -/
def longRun : State :=
  let s := sensing .body true
  { s with msu := { s.msu with run := some { high := true, first := 7, length := 2, reported := false } } }

/-- The line at 9 is sensed under a known polarity, no run in LEARNING, and its level run has length `n`. -/
abbrev senses (s : State) (high : Bool) (n : Nat) : Prop :=
  s.msu.sensing = some (9, 7000) ∧ 0 ≤ ahead 9 s.msu.senseMark ∧ s.msu.polarity = .gapHigh ∧
    (∀ r ∈ s.msu.cal, r.phase ≠ .learning) ∧ (nextRun s.msu.run high 9).length = n

/-- The line sensed may be the sense mark's own, and none before it. -/
theorem witness_LineSensing_taken :
    up.msu.sensing = none ∧
    ((markedAt 10).msu.sensing = some (9, 7000) ∧ ahead 9 (markedAt 10).msu.senseMark < 0) ∧
    (unknownPolarity.msu.sensing = some (9, 7000) ∧ 0 ≤ ahead 9 unknownPolarity.msu.senseMark ∧
      unknownPolarity.msu.cal = none ∧ unknownPolarity.msu.polarity = .unknown) ∧
    (senses longRun true 3 ∧ longRun.cfg.guardLength = 2 ∧ longRun.cfg.maxGap = 0 ∧
      longRun.cfg.maxPitch = 0) := by decide +kernel

/-- A run in LEARNING whose level has held for `n` lines. -/
def learning (n : Nat) : State :=
  let s := unknownPolarity
  { s with msu := { s.msu with
      cal := some (calRun .learning 9)
      run := some { high := true, first := 5, length := n, reported := false } } }

/-- The fourth line of a level settles the polarity, twice the guard length of 2. -/
theorem witness_LineSensing_learns : ∀ n ∈ [2, 3],
    (learning n).msu.sensing = some (9, 7000) ∧ 0 ≤ ahead 9 (learning n).msu.senseMark ∧
    (learning n).msu.cal = some (calRun .learning 9) ∧ (calRun .learning 9).phase = .learning ∧
    (nextRun (learning n).msu.run true 9).length = n + 1 ∧
    2 * (learning n).cfg.guardLength = 4 := by decide +kernel

theorem test_learned : (after (.lineSensing true true true) (learning 3)).msu.polarity = .gapLow := by
  decide +kernel

/-- From START, a gap and a body are confirmed; in BODY a gap. -/
theorem witness_LineSensing_opens :
    (∀ high, senses (sensing .start high) high 2 ∧ (sensing .start high).msu.phase = .start) ∧
    senses (sensing .body true) true 2 ∧ (sensing .body true).msu.phase = .body ∧
    up.gapped = true ∧ up.cfg.guardLength = 2 ∧ up.cfg.maxGap = 0 ∧ up.cfg.maxPitch = 0 := by
  decide +kernel

/-- A body confirmed after a gap: the hypotheses on what stood before it. -/
abbrev confirms (s : State) (pitch : Nat) : Prop :=
  senses s false 2 ∧ s.gapped = true ∧ s.cfg.guardLength = 2 ∧ s.msu.phase = .gap ∧
    s.msu.openGap = some { edge := 3, exact := true, pitch := pitch } ∧ s.cfg.maxPitch = 0 ∧
    (nextRun s.msu.run false 9).first + BitVec.ofNat 32 (s.cfg.sensorDistance + s.cfg.tofAdjust) = 28

/-- `sensing` in GAP with this pitch, calibrated pitch 60 and tolerance 2, and this run or seek. -/
def entering (pitch : Nat) (cal : Option CalRun) (seek : Option SeekRun) : State :=
  let s := sensing .gap false
  { s with
    msu := { s.msu with
      calPitch := 60, cal := cal, openGap := some { edge := 3, exact := true, pitch := pitch } }
    lcu := { s.lcu with seek := seek } }

/-- The top of form 28 lies one line ahead of the media position 27 and is reached at 28; a seek without a
target takes it. -/
theorem witness_LineSensing_joins :
    confirms (sensing .gap false) 0 ∧ (sensing .gap false).msu.cal = none ∧
    (1 ≤ ahead 28 27 ∧ ahead 28 28 < 1) ∧
    1 ≤ ahead 28 (entering 0 none none).mtu.position ∧
    (entering 0 none none).msu.queue.length < 16 ∧
    confirms (entering 62 none (some { start := 1, target := none })) 62 ∧
    (62 : Nat) ≤ 60 + settings.pitchTolerance ∧ 60 + settings.pitchTolerance < 63 ∧
    confirms (entering 63 none none) 63 := by decide +kernel

/-- MEASURING takes an entry with a pitch; one without is passed over. -/
theorem witness_LineSensing_measures : ∀ pitch ∈ [0, 1],
    confirms (entering pitch (some (calRun .measuring 9)) none) pitch ∧
    (calRun .measuring 9).phase = .measuring ∧
    (entering pitch (some (calRun .measuring 9)) none).msu.queue.length < 16 ∧
    (entering pitch (some (calRun .measuring 9)) none).lcu.seek = none := by decide +kernel

/-- The edge queue full, in engine state `e` with this motion and seek. -/
def overfull (e : Engine) (m : Motion) (seek : Option SeekRun) : State :=
  { printing with
    lcu := { printing.lcu with engine := e, pauseLatch := true, seek := seek }
    mtu := { printing.mtu with motion := m }
    msu := { (sensing .gap false).msu with
      queue := (List.range 16).map fun n =>
        { tof := BitVec.ofNat 32 (9 + n), gap := 3, pitch := 50 } } }

theorem witness_LineSensing_overflows :
    let seek : SeekRun := { start := 1, target := some 9 };
    let idle := overfull (.presenting .atEnd) .forward none;
    let seeks := overfull .seeking .forward (some seek);
    let prints := overfull .printing .forward none;
    let stalls := overfull .stalled .rest none;
    (∀ s ∈ [idle, seeks, prints, stalls], confirms s 0 ∧ 16 ≤ s.msu.queue.length ∧
      1 ≤ ahead 28 s.mtu.position) ∧
    linesAhead seeks.mtu.position seek.start < seeks.cfg.calLimit ∧
    prints.lcu.printing = some context ∧ prints.mtu.stopping = none ∧ prints.mtu.latch = none ∧
    stalls.lcu.printing = some context ∧ stalls.lcu.restTof = none := by decide +kernel

/-- A line of a copy whose level has held for `n` lines, max gap 3 and max pitch 5. -/
def levelled (high valid : Bool) (n : Nat) : State :=
  { printing with
    settings := some { settings with maxGap := 3, maxPitch := 5 }
    msu := { (sensing (if high then .gap else .body) high).msu with
      valid := valid, run := some { high := high, first := 5, length := n, reported := false } } }

theorem witness_LineSensing_paper_out : ∀ valid,
    senses (levelled true valid 2) true 3 ∧ (levelled true valid 2).cfg.guardLength = 2 ∧
    (levelled true valid 2).cfg.maxGap = 3 ∧ (levelled true valid 2).msu.cal = none ∧
    (levelled true valid 2).mtu.motion ≠ .rest ∧ (levelled true valid 2).lcu.engine = .printing ∧
    (levelled true valid 2).msu.valid = valid ∧
    (levelled true valid 2).lcu.printing = some context := by decide +kernel

theorem witness_LineSensing_gap_missing :
    let s := levelled false true 4;
    senses s false 5 ∧ s.cfg.guardLength = 2 ∧ s.gapped = true ∧ s.cfg.maxPitch = 5 ∧
    s.msu.run.map (fun r => r.reported) = some false ∧ s.msu.cal = none ∧
    s.mtu.motion ≠ .rest ∧ s.lcu.engine = .printing ∧ s.lcu.printing = some context := by
  decide +kernel

/-- A moving calibration run of item 44, or of ARMING, under this planning source. -/
def measuring (why : CalReason) (r : CalRun) (source : PlanSource) : State :=
  { up with
    lcu := { up.lcu with
      engine := .calibrating why
      operation := if why = .item then some { index := 44, feed := none } else none }
    msu := { up.msu with cal := some r }
    mtu := { up.mtu with
      motion := .forward, timer := some { period := 7000, elapsed := 7000 }, source := source
      position := 7, limitZero := true } }

/-- What every clause about a line of a calibration run supposes. -/
abbrev calibrates (s : State) (why : CalReason) (r : CalRun) : Prop :=
  s.lcu.engine = .calibrating why ∧ s.msu.cal = some r ∧ s.lcu.seek = none ∧ s.mtu.timer ≠ none ∧
    s.mtu.motion = .forward ∧ s.hdu.state = .idle

/-- The 999th line leaves the run going, the 1000th fails it unless it is FINISHING. -/
theorem witness_LineSensing_counts : ∀ why ∈ [CalReason.item, .arming],
    ∀ r ∈ [calRun .learning 998, calRun .measuring 999, calRun .finishing 999],
      calibrates (measuring why r (.distance .unbounded)) why r ∧
      planLine (measuring why r (.distance .unbounded)) = .line 0 ∧
      (measuring why r (.distance .unbounded)).msu.queue.head? = none ∧
      (measuring why r (.distance .unbounded)).cfg.calLimit = 1000 := by decide +kernel

theorem witness_LineSensing_calibrated :
    let e : Edge := { tof := 3, gap := 4, pitch := 60 };
    let r : CalRun := { calRun .finishing 70 with measured := some e };
    let s := measuring .item r (.distance (.at 7));
    calibrates s .item r ∧ planLine s = .stop .targetReached ∧ s.mtu.source ≠ .decelerate ∧
    r.measured = some e ∧ s.lcu.printing = none ∧ s.lcu.staged = none ∧ s.rrd.hold = none := by
  decide +kernel

/-- R162: the measured pitch becomes the calibrated one. -/
theorem test_calibrated :
    let r : CalRun := { calRun .finishing 70 with measured := some { tof := 3, gap := 4, pitch := 60 } };
    (after .linePeriodExpiry (measuring .item r (.distance (.at 7)))).msu.calPitch = 60 := by
  decide +kernel

/-- The switch after `n` agreeing samples at level `x` of a known state `closed`, in engine state `e`. -/
def switched (e : Engine) (headOpen x : Bool) (n : Nat) : State :=
  { inState e with msu := { up.msu with headOpen := headOpen, lastSample := some x, agree := n } }

theorem witness_HopenSample_samples :
    State.reset.bpu.resetLine = true ∧
    ((switched .idle false false 0).bpu.resetLine = false ∧
      (switched .idle false false 0).msu.switchKnown = true ∧
      false = (switched .idle false false 0).msu.headOpen) ∧
    ((switched .idle false true 1).bpu.resetLine = false ∧
      (true = (switched .idle false true 1).msu.headOpen → False) ∧
      (switched .idle false true 1).msu.lastSample = some true ∧
      (switched .idle false true 1).msu.agree + 1 < 3) ∧
    (let s := { released with msu := { released.msu with lastSample := some false, agree := 2 } };
      s.bpu.resetLine = false ∧ s.msu.switchKnown = false ∧ s.msu.lastSample = some false ∧
      s.msu.agree = 2) := by decide +kernel

theorem witness_HopenSample_changes :
    (let s := switched .faulted true false 2;
      s.bpu.resetLine = false ∧ s.msu.switchKnown = true ∧ s.msu.headOpen = true ∧
      s.msu.lastSample = some false ∧ s.msu.agree = 2 ∧ s.lcu.engine ≠ .unconfigured) ∧
    (let s := switched .idle false true 2;
      s.bpu.resetLine = false ∧ s.msu.switchKnown = true ∧ s.msu.headOpen = false ∧
      s.msu.lastSample = some true ∧ s.msu.agree = 2 ∧ s.hdu.state ≠ .active ∧
      s.lcu.engine = .idle) := by decide +kernel

/-- `printing` with this context, its paper moving, two agreeing samples of an open head taken. -/
def opened (c : Context) : State :=
  { printing with
    lcu := { printing.lcu with printing := some c, staged := some { context with label := 50 } }
    msu := { printing.msu with lastSample := some true, agree := 2 } }

/-- A copy that has not strobed, one that has with and without the permission, and a last copy spoiled. -/
theorem witness_HopenSample_spoils :
    ∀ c ∈ [context, { context with strobed := true, permission := true },
      { context with strobed := true }, { context with strobed := true, copy := 2 }],
    (opened c).bpu.resetLine = false ∧ (opened c).msu.switchKnown = true ∧
    (opened c).msu.headOpen = false ∧ (opened c).msu.lastSample = some true ∧
    (opened c).msu.agree = 2 ∧ (opened c).lcu.engine = .printing ∧
    (opened c).mtu.motion ≠ .rest ∧ (opened c).lcu.printing = some c ∧
    c.closing = some 46 := by decide +kernel

/-- UNCONFIGURED after a failed engage, the settings of the engage before it kept. -/
def unconfigured : State := { released with settings := some settings }

theorem witness_Conversions_unconfigured :
    released.settings = none ∧ unconfigured.settings ≠ none ∧
    unconfigured.lcu.engine = .unconfigured := by decide +kernel

theorem witness_Conversions :
    released.htu.schedule = none ∧ up.htu.schedule ≠ none ∧
    (up.lcu.engine ≠ .unconfigured ∧ up.settings ≠ none ∧ up.htu.sensorValid = true) ∧
    ((1 : Byte) ≠ 0 ∧ (1 : Byte) ≠ 255 ∧ (254 : Byte) ≠ 0 ∧ (254 : Byte) ≠ 255) ∧
    (settings.thetaSlow < settings.thetaHold ∧ settings.thetaHold < settings.thetaTrip) ∧
    Grade.rank .normal < (gradeReached settings 60).rank ∧
    (gradeReached settings 59).rank ≤ Grade.rank .slow := by decide +kernel

/-- In engine state `e` with this grade, the trip condition standing. -/
def heated (e : Engine) (g : Grade) (stream : Bool) : State :=
  { stalled stream with
    lcu := { (stalled stream).lcu with engine := e }
    htu := { (stalled stream).htu with grade := g, trip := true } }

/-- Codes 110, 76, 20 and 200 give 60, 71, 97 and 21. -/
theorem witness_Conversions_grades :
    nextGrade settings (thermistorTheta settings.thermistor 110) .normal = .slow ∧
    nextGrade settings (thermistorTheta settings.thermistor 76) .slow = .hold ∧
    nextGrade settings (thermistorTheta settings.thermistor 20) .hold = .trip ∧
    nextGrade settings (thermistorTheta settings.thermistor 200) .hold = .normal ∧
    (heated .printing .slow true).lcu.engine = .printing ∧
    (heated .stalled .normal true).lcu.engine = .stalled ∧
    (heated .idle .trip true).htu.trip = true := by decide +kernel

theorem witness_Conversions_leaves_hold :
    (let s := heated (.holding .thermal) .hold false;
      s.lcu.engine = .holding .thermal ∧ ¬ (s.cfg.restartRows ≤ horizon s ∨
        (1 ≤ horizon s ∧ s.rsu.lastClosed = true))) ∧
    (let s := heated (.holding .thermal) .hold true;
      s.lcu.engine = .holding .thermal ∧ s.cfg.restartRows ≤ horizon s ∧ stepsOn s) := by decide +kernel

theorem witness_SupplyEvents :
    (printingOn .settling).htu.supply = .settling ∧ up.htu.supply ≠ .settling ∧
    (labelled .idle).htu.supply = .on ∧ up.htu.supply ≠ .on ∧
    ((labelled .idle).htu.dwell ≠ none ∧ (labelled .idle).lcu.engine.dwells = true ∧
      (labelled .idle).cfg.dwellTime ≠ 0 ∧ (labelled .idle).hdu.state ≠ .active ∧
      (labelled .idle).mtu.stopping = none ∧ (labelled .idle).mtu.latch = none) ∧
    up.htu.dwell = none ∧ (labelled .printing).lcu.engine.dwells = false ∧
    (released.lcu.engine = .unconfigured ∧ printing.lcu.engine ≠ .unconfigured ∧
      printing.lcu.engine ≠ .faulted) := by decide +kernel

/-! ### Strobe energy and every step -/

theorem witness_Durations :
    settings.factors[15]? = some 112 ∧ (-15 : Int) ≤ -15 ∧ (15 : Int) ≤ 15 ∧
    (8191 ≤ 8191 ∧ 255 ≤ 255 ∧ ((8191 * 255 : Nat) * (32 + (15 : Int))).fdiv 4096 = 23967) ∧
    settings.f1 ≤ 128 ∧ settings.f2 ≤ 128 ∧ settings.f3 ≤ 128 := by decide +kernel

theorem witness_StrobeTime : settings.f1 ≤ 128 ∧ settings.f2 ≤ 128 ∧ settings.f3 ≤ 128 := by decide

/-- A line is fired in a state that meets the invariants, with two requests waiting. -/
def running : State := { printing with pending := [.linePeriodExpiry, .pause] }

theorem witness_StepKeepsMemoryForm :
    (Memory.wf (polled 1).mem = true ∧ Memory.wf running.mem = true) ∧
    ∃ t, step running = .next t := ⟨by decide +kernel, _, rfl⟩

theorem witness_StepKeepsStrobesSafe : StrobeSafe (firing 1 true) ∧ StrobeSafe running := by
  constructor <;> constructor <;> decide +kernel

theorem witness_StepKeepsOfferRight : OfferRight running ∧ OfferRight attending := by
  unfold OfferRight; decide +kernel

theorem witness_StepKeepsCounts_free : FreeCountRight held ∧ FreeCountRight running := by
  unfold FreeCountRight; decide +kernel

theorem witness_StepKeepsCounts : Bounded (handing 8 none) := by constructor <;> decide +kernel

/-- The byte before the word a processor write stores, with an outcome write waiting elsewhere. -/
theorem witness_MemoryFrame :
    ¬ cycleWrites (.processorWrite .word 0x100000#24 5) (awaitingPort [.outcome 0x20000C 1]) 0xFFFFF ∧
    ¬ partWrites (awaitingPort [.outcome 0x20000C 1]) 0xFFFFF ∧ up.pending = [] := by
  refine ⟨?_, ?_, by decide +kernel⟩
  · rintro ⟨k, hk, h⟩
    have a : k < 4 := hk
    have b : 0xFFFFF = (0x100000 + k) % 0x1000000 := h
    omega
  · rintro ⟨t, ht, h⟩
    have e : t = .outcome 0x20000C 1 := by
      have : t ∈ [Transfer.outcome 0x20000C 1] := ht
      simpa using this
    subst e
    obtain ⟨k, hk, h⟩ := h
    have b : 0xFFFFF = (0x20000C + k) % 0x1000000 := h
    omega

theorem witness_BusFrame_UnitFrame :
    (∃ t, exec .statusTimer up = .next t) ∧ (Instr.statusTimer ≠ .resetAssert) := ⟨⟨_, rfl⟩, by decide⟩

end Sys2Proof.Tests
end

namespace Sys2Proof.Machine

/-! ## Strobe energy: the durations of a line (R101, R104) -/

/-- R101: the raw duration, formed exactly and divided once. -/
def rawDuration (c : Settings) (k : Nat) (d : Int) : Int := ((c.eRef * k : Nat) * (32 + d)).fdiv 4096

theorem baseDuration_le_tMax (c : Settings) (band : Nat) (d : Int) : baseDuration c band d ≤ c.tMax :=
  Nat.min_le_right ..

/-- R101: on the darkness range of R61 the model's natural-number division is the rule's floor. -/
theorem baseDuration_eq_min_rawDuration {c : Settings} {band k : Nat} {d : Int}
    (hk : c.factors[band]? = some k) (hd : -15 ≤ d) :
    (baseDuration c band d : Int) = min (rawDuration c k d) c.tMax := by
  obtain ⟨n, hn⟩ : ∃ n : Nat, 32 + d = n := Int.eq_ofNat_of_zero_le (by omega)
  have hraw : rawDuration c k d = ((c.eRef * k * n / 4096 : Nat) : Int) := by
    rw [rawDuration, hn, Int.fdiv_eq_ediv_of_nonneg _ (by decide)]
    push_cast
    rfl
  simp only [baseDuration, hk, hn, hraw, Option.getD_some, Int.toNat_natCast, Nat.cast_min]

/-- R101: the largest raw duration, 8191 × 255 × 47 ÷ 4096. -/
theorem rawDuration_le {c : Settings} {k : Nat} {d : Int} (he : c.eRef ≤ 8191) (hk : k ≤ 255)
    (hlo : -15 ≤ d) (hhi : d ≤ 15) : rawDuration c k d ≤ 23967 := by
  have hprod : c.eRef * k ≤ 8191 * 255 := Nat.mul_le_mul he hk
  have hmul : ((c.eRef * k : Nat) : Int) * (32 + d) ≤ (8191 * 255 : Nat) * 47 :=
    mul_le_mul (by exact_mod_cast hprod) (by omega) (by omega) (by positivity)
  rw [rawDuration, Int.fdiv_eq_ediv_of_nonneg _ (by decide)]
  omega

/-- R112: a factor of 0 gives no pulse. -/
theorem baseDuration_of_factor_zero {c : Settings} {band : Nat} (d : Int)
    (hk : c.factors[band]? = some 0) : baseDuration c band d = 0 := by
  simp [baseDuration, hk]

/-- R101: darkness 0 and a factor of 128 give E_ref itself. -/
theorem rawDuration_neutral (c : Settings) : rawDuration c 128 0 = c.eRef := by
  rw [rawDuration, Int.fdiv_eq_ediv_of_nonneg _ (by decide)]
  omega

/-! A history fraction `f` in 128ths (R104). -/

theorem fraction_le {f : Nat} (t : Nat) (hf : f ≤ 128) : t * f / 128 ≤ t :=
  Nat.div_le_of_le_mul (by rw [Nat.mul_comm 128]; exact Nat.mul_le_mul_left t hf)

theorem fraction_full {f : Nat} (t : Nat) (hf : f = 128) : t * f / 128 = t := by
  rw [hf, Nat.mul_div_cancel t (by decide)]

/-- R104: no class lasts longer than the base duration. -/
theorem classDuration_le {c : Settings} (t : Nat) (h1 : c.f1 ≤ 128) (h2 : c.f2 ≤ 128)
    (h3 : c.f3 ≤ 128) : ∀ n, classDuration c t n ≤ t
  | 0 => Nat.le_refl t
  | 1 => fraction_le t h1
  | 2 => fraction_le t h2
  | _ + 3 => fraction_le t h3

/-- Settles O51, from R101's floor and ceiling and the 128ths of R104. -/
theorem durations : Obligations.Durations := by
  intro c band k d hk hlo hhi raw t
  have zeroFactor : k = 0 → t = 0 := fun h => baseDuration_of_factor_zero d (h ▸ hk)
  have neutral : d = 0 → k = 128 → raw = c.eRef := by
    rintro rfl rfl
    exact rawDuration_neutral c
  have noLapsed : c.f1 = 0 → classDuration c t 1 = 0 := fun h => by simp [classDuration, h]
  exact ⟨baseDuration_eq_min_rawDuration hk hlo, baseDuration_le_tMax c band d,
    fun he hf => rawDuration_le he hf hlo hhi, zeroFactor, neutral, rfl, rfl, rfl, rfl,
    fun h1 h2 h3 => classDuration_le t h1 h2 h3, fraction_full t, noLapsed, Nat.div_eq_of_lt,
    fraction_full t, Nat.div_eq_of_lt, fraction_full t, Nat.div_eq_of_lt⟩

/-! ## Strobe energy: the classes of a row (R103) -/

/-- R103: 1 where a history row records dot `k` as fired. -/
def firedAt (h : Dots) (k : Nat) : Nat := if h[k]? = some true then 1 else 0

/-- R103: the class of dot `k` by its history. -/
def classAt (h1 h2 : Dots) (k : Nat) : Nat := 2 * firedAt h1 k + firedAt h2 k

theorem firedAt_zero (h : Dots) : firedAt h 0 = (h.headD false).toNat := by
  cases h with
  | nil => rfl
  | cons dot h => cases dot <;> rfl

theorem firedAt_tail (h : Dots) (k : Nat) : firedAt h.tail k = firedAt h (k + 1) := by
  simp [firedAt]

theorem firedAt_le_one (h : Dots) (k : Nat) : firedAt h k ≤ 1 := by
  unfold firedAt
  split <;> decide

theorem classAt_le_three (h1 h2 : Dots) (k : Nat) : classAt h1 h2 k ≤ 3 := by
  have := firedAt_le_one h1 k
  have := firedAt_le_one h2 k
  unfold classAt
  omega

/-- R103: the on-dots, and they alone, have a class, which is that of their history. -/
theorem getElem?_classify (row h1 h2 : Dots) (k n : Nat) :
    (classify row h1 h2)[k]? = some (some n) ↔ row[k]? = some true ∧ n = classAt h1 h2 k := by
  induction row generalizing h1 h2 k with
  | nil => simp [classify]
  | cons on row ih =>
    cases k with
    | zero => cases on <;> simp [classify, classAt, firedAt_zero, eq_comm]
    | succ k =>
      simp only [classify, List.getElem?_cons_succ, ih, classAt, firedAt_tail]

theorem some_mem_classify (row h1 h2 : Dots) (n : Nat) :
    some n ∈ classify row h1 h2 ↔ ∃ k, row[k]? = some true ∧ n = classAt h1 h2 k := by
  simp only [List.mem_iff_getElem?, getElem?_classify]

/-- The dots that fire for at least `v`. -/
theorem getElem?_firingDots (classes : List (Option Nat)) (dur : Nat → Nat) (v k : Nat) :
    (firingDots classes dur v)[k]? = some true ↔
      ∃ n, classes[k]? = some (some n) ∧ v ≤ dur n := by
  rw [firingDots, List.getElem?_map]
  rcases classes[k]? with _ | _ | n <;> simp

theorem getElem?_firingDots_classify (row h1 h2 : Dots) (dur : Nat → Nat) (v k : Nat) :
    (firingDots (classify row h1 h2) dur v)[k]? = some true ↔
      row[k]? = some true ∧ v ≤ dur (classAt h1 h2 k) := by
  simp only [getElem?_firingDots, getElem?_classify, and_assoc, exists_and_left, exists_eq_left]

/-! ## Strobe energy: the slice values (R105) -/

theorem mem_insertValue (v w : Nat) (vs : List Nat) : w ∈ insertValue v vs ↔ w ∈ vs ∨ w = v := by
  have := Nat.lt_trichotomy w v
  simp only [insertValue, List.mem_append, List.mem_cons, List.mem_filter, decide_eq_true_eq]
  tauto

theorem insertValue_rising {vs : List Nat} (v : Nat) (h : vs.Pairwise (· < ·)) :
    (insertValue v vs).Pairwise (· < ·) := by
  rw [insertValue, List.pairwise_append, List.pairwise_cons]
  refine ⟨h.filter _, ⟨fun w hw => ?above, h.filter _⟩, fun u hu w hw => ?across⟩
  case above => simpa using (List.mem_filter.1 hw).2
  case across =>
    have hu : u < v := by simpa using (List.mem_filter.1 hu).2
    obtain rfl | hw := List.mem_cons.1 hw
    · exact hu
    · have hw : v < w := by simpa using (List.mem_filter.1 hw).2
      exact hu.trans hw

/-- R105: one class adds its duration to the values when it is present and lasts. -/
def addValue (classes : List (Option Nat)) (dur : Nat → Nat) (vs : List Nat) (c : Nat) : List Nat :=
  if classes.contains (some c) ∧ dur c ≠ 0 then insertValue (dur c) vs else vs

theorem sliceValues_eq_foldl (classes : List (Option Nat)) (dur : Nat → Nat) :
    sliceValues classes dur = [0, 1, 2, 3].foldl (addValue classes dur) [] := rfl

theorem mem_addValue (classes : List (Option Nat)) (dur : Nat → Nat) (vs : List Nat) (c v : Nat) :
    v ∈ addValue classes dur vs c ↔ v ∈ vs ∨ some c ∈ classes ∧ v ≠ 0 ∧ dur c = v := by
  unfold addValue
  split
  next h =>
    obtain ⟨hc, hd⟩ := h
    have hc : some c ∈ classes := by simpa using hc
    rw [mem_insertValue]
    grind
  next h =>
    rw [List.contains_iff_mem] at h
    grind

theorem addValue_rising {vs : List Nat} (classes : List (Option Nat)) (dur : Nat → Nat) (c : Nat)
    (h : vs.Pairwise (· < ·)) : (addValue classes dur vs c).Pairwise (· < ·) := by
  unfold addValue
  split
  · exact insertValue_rising _ h
  · exact h

theorem mem_foldl_addValue (classes : List (Option Nat)) (dur : Nat → Nat) (cs vs : List Nat) (v : Nat) :
    v ∈ cs.foldl (addValue classes dur) vs ↔
      v ∈ vs ∨ ∃ c ∈ cs, some c ∈ classes ∧ v ≠ 0 ∧ dur c = v := by
  induction cs generalizing vs with
  | nil => simp
  | cons c cs ih => simp only [List.foldl_cons, ih, mem_addValue, List.exists_mem_cons_iff, or_assoc]

theorem foldl_addValue_rising (classes : List (Option Nat)) (dur : Nat → Nat) (cs : List Nat)
    {vs : List Nat} (h : vs.Pairwise (· < ·)) :
    (cs.foldl (addValue classes dur) vs).Pairwise (· < ·) := by
  induction cs generalizing vs with
  | nil => exact h
  | cons c cs ih => exact ih (addValue_rising classes dur c h)

/-- R105: the values are the non-zero durations of the present classes. -/
theorem mem_sliceValues (classes : List (Option Nat)) (dur : Nat → Nat) (v : Nat) :
    v ∈ sliceValues classes dur ↔
      ∃ c ∈ [0, 1, 2, 3], some c ∈ classes ∧ v ≠ 0 ∧ dur c = v := by
  rw [sliceValues_eq_foldl, mem_foldl_addValue]
  simp only [List.not_mem_nil, false_or]

/-- R105: the values rise from v0 = 0. -/
theorem sliceValues_rising (classes : List (Option Nat)) (dur : Nat → Nat) :
    (0 :: sliceValues classes dur).Pairwise (· < ·) := by
  refine List.pairwise_cons.2 ⟨fun v hv => ?_, foldl_addValue_rising classes dur _ .nil⟩
  obtain ⟨c, -, -, hv, -⟩ := (mem_sliceValues classes dur v).1 hv
  exact Nat.pos_of_ne_zero hv

/-- R105: distinct values of four classes are at most four. -/
theorem length_sliceValues_le (classes : List (Option Nat)) (dur : Nat → Nat) :
    (sliceValues classes dur).length ≤ 4 := by
  have distinct : (sliceValues classes dur).Nodup :=
    (List.pairwise_cons.1 (sliceValues_rising classes dur)).2.imp Nat.ne_of_lt
  have ofClass : sliceValues classes dur ⊆ [0, 1, 2, 3].map dur := fun v hv => by
    obtain ⟨c, hc, -, -, rfl⟩ := (mem_sliceValues classes dur v).1 hv
    exact List.mem_map_of_mem hc
  exact (distinct.subperm ofClass).length_le

/-- R103, R105: the values of a row are the non-zero durations of its on-dots. -/
theorem mem_sliceValues_classify (row h1 h2 : Dots) (dur : Nat → Nat) (v : Nat) :
    v ∈ sliceValues (classify row h1 h2) dur ↔
      v ≠ 0 ∧ ∃ k, row[k]? = some true ∧ dur (classAt h1 h2 k) = v := by
  rw [mem_sliceValues]
  constructor
  · rintro ⟨c, -, hc, hv, hdur⟩
    obtain ⟨k, hk, rfl⟩ := (some_mem_classify row h1 h2 c).1 hc
    exact ⟨hv, k, hk, hdur⟩
  · rintro ⟨hv, k, hk, hdur⟩
    have hc := classAt_le_three h1 h2 k
    exact ⟨classAt h1 h2 k, by simp only [List.mem_cons]; omega,
      (some_mem_classify row h1 h2 _).2 ⟨k, hk, rfl⟩, hv, hdur⟩

/-! ## Strobe energy: the slices and what they strobe (R105) -/

theorem length_slicesFrom (g : Geometry) (classes : List (Option Nat)) (dur : Nat → Nat) (prev : Nat)
    (vs : List Nat) : (slicesFrom g classes dur prev vs).length = vs.length := by
  induction vs generalizing prev with
  | nil => rfl
  | cons v vs ih => simp [slicesFrom, ih]

/-- R105: slice `n` lasts the step from the value before its own, and fires the dots that reach its own. -/
theorem getElem?_slicesFrom {g : Geometry} {classes : List (Option Nat)} {dur : Nat → Nat}
    {prev : Nat} {vs : List Nat} {n v : Nat} {x : Slice} (rising : (prev :: vs).Pairwise (· < ·))
    (hx : (slicesFrom g classes dur prev vs)[n]? = some x) (hv : vs[n]? = some v) :
    ∃ p, (prev :: vs)[n]? = some p ∧ p < v ∧ x.duration = v - p ∧
      x.dots = firingDots classes dur v := by
  induction vs generalizing prev n with
  | nil => simp at hv
  | cons w vs ih =>
    obtain ⟨above, rising⟩ := List.pairwise_cons.1 rising
    cases n with
    | zero =>
      obtain rfl : w = v := by simpa using hv
      obtain rfl := Option.some.inj hx
      exact ⟨prev, rfl, above w List.mem_cons_self, rfl, rfl⟩
    | succ n => exact ih rising hx hv

/-- R105: a dot that fires in exactly the slices whose values reach up to `T`, itself one of the values or
not above the start, is strobed for `T` less the start. -/
theorem sum_strobeTime_slicesFrom {g : Geometry} {classes : List (Option Nat)} {dur : Nat → Nat}
    {prev : Nat} {vs : List Nat} {k T : Nat} (rising : (prev :: vs).Pairwise (· < ·))
    (fires : ∀ v ∈ vs, (firingDots classes dur v)[k]? = some true ↔ v ≤ T)
    (value : T ≤ prev ∨ T ∈ vs) :
    ((slicesFrom g classes dur prev vs).map fun x => x.strobeTime k).sum = T - prev := by
  induction vs generalizing prev with
  | nil =>
    obtain value | value := value
    · exact (Nat.sub_eq_zero_of_le value).symm
    · cases value
  | cons v vs ih =>
    obtain ⟨above, rising⟩ := List.pairwise_cons.1 rising
    obtain ⟨firesFirst, fires⟩ := List.forall_mem_cons.1 fires
    have hprev : prev < v := above v List.mem_cons_self
    have value' : T ≤ v ∨ T ∈ vs := by
      rcases value with value | value
      · exact .inl (by omega)
      · exact (List.mem_cons.1 value).imp_left Nat.le_of_eq
    have shortOrReaches : T ≤ prev ∨ v ≤ T := by
      refine value.imp_right fun value => ?_
      obtain rfl | value := List.mem_cons.1 value
      · exact Nat.le_refl T
      · exact Nat.le_of_lt ((List.pairwise_cons.1 rising).1 T value)
    rw [slicesFrom, List.map_cons, List.sum_cons, ih rising fires value', Slice.strobeTime]
    simp only [firesFirst]
    split <;> omega

/-- R105: what dot `k` of a row is due: its class duration when it is on, nothing when it is off. -/
def dueTime (dur : Nat → Nat) (row h1 h2 : Dots) (k : Nat) : Nat :=
  if row[k]? = some true then dur (classAt h1 h2 k) else 0

/-- R105: a line strobes each dot for exactly what it is due. -/
theorem strobeTime_lineRecord (g : Geometry) (c : Settings) (band : Nat) (d : Int) (h1 h2 row : Dots)
    (owner : Option (Nat × Idx)) (k : Nat) :
    (lineRecord g c band d h1 h2 row owner).strobeTime k =
      dueTime (classDuration c (baseDuration c band d)) row h1 h2 k := by
  let dur := classDuration c (baseDuration c band d)
  let vs := sliceValues (classify row h1 h2) dur
  have rising : (0 :: vs).Pairwise (· < ·) := sliceValues_rising _ _
  have fires : ∀ v ∈ vs, (firingDots (classify row h1 h2) dur v)[k]? = some true ↔
      v ≤ dueTime dur row h1 h2 k := fun v hv => by
    have hpos : 0 < v := (List.pairwise_cons.1 rising).1 v hv
    rw [getElem?_firingDots_classify, dueTime]
    split
    next on => exact and_iff_right on
    next off => exact iff_of_false (fun h => off h.1) (by omega)
  have value : dueTime dur row h1 h2 k ≤ 0 ∨ dueTime dur row h1 h2 k ∈ vs := by
    rw [Nat.le_zero, or_iff_not_imp_left]
    intro hdue
    have on : row[k]? = some true := by by_contra off; exact hdue (if_neg off)
    rw [dueTime, if_pos on] at hdue ⊢
    exact (mem_sliceValues_classify row h1 h2 dur _).2 ⟨hdue, k, on, rfl⟩
  exact sum_strobeTime_slicesFrom rising fires value

/-- Settles O52: the witness is the list of the row's slice values, and what a line strobes is
`strobeTime_lineRecord`. -/
theorem strobeTime : Obligations.StrobeTime := by
  intro g c band d h1 h2 row owner hf1 hf2 hf3 dur line fired classOf on
  let vs := sliceValues (classify row h1 h2) dur
  have rising : (0 :: vs).Pairwise (· < ·) := sliceValues_rising _ _
  have members : ∀ v, v ∈ vs ↔ v ≠ 0 ∧ ∃ k, on k ∧ dur (classOf k) = v :=
    mem_sliceValues_classify row h1 h2 dur
  have bounded : ∀ n, dur n ≤ baseDuration c band d := classDuration_le _ hf1 hf2 hf3
  have strobes : ∀ k, line.strobeTime k = dueTime dur row h1 h2 k :=
    strobeTime_lineRecord g c band d h1 h2 row owner
  refine ⟨vs, (List.pairwise_cons.1 rising).2, length_sliceValues_le _ _, fun v hv => ?values, members,
    length_slicesFrom .., fun n x v hx hv => ?slices, fun k hk => (strobes k).trans (if_pos hk),
    fun k hk => (strobes k).trans (if_neg hk), fun k => ?ceiling, fun k => ?pattern⟩
  case values =>
    obtain ⟨-, k, -, rfl⟩ := (members v).1 hv
    exact bounded _
  case slices =>
    obtain ⟨p, hp, hlt, hdur, hdots⟩ := getElem?_slicesFrom rising hx hv
    have before : (if n = 0 then 0 else (vs[n - 1]?).getD 0) = p := by
      cases n with
      | zero => exact Option.some.inj hp
      | succ n => exact congrArg (·.getD 0) hp
    rw [before, hdur, hdots]
    exact ⟨by omega, by omega, getElem?_firingDots_classify row h1 h2 dur v⟩
  case ceiling =>
    rw [strobes, dueTime]
    split
    · exact (bounded _).trans (baseDuration_le_tMax c band d)
    · exact Nat.zero_le _
  case pattern =>
    rw [Nat.ne_zero_iff_zero_lt]
    exact getElem?_firingDots_classify row h1 h2 dur 1 k

end Sys2Proof.Machine

/-! The proofs below are elaborated in order. In one text with the model's files, elaborating them side by side
would need more thread stacks than the check's memory limit leaves. -/

namespace Sys2Proof.Machine

set_option Elab.async false

/-! ## What the part's own work keeps -/

/-- From `s` to `t` the part has done work of its own: no processor cycle, grant, reset, engage, re-read or
sample is part of it. What only those change stands, and every invariant of `s` holds of `t`. -/
structure Inner (s t : State) : Prop where
  mem : t.mem = s.mem := by rfl
  pending : t.pending = s.pending := by rfl
  settings : t.settings = s.settings := by rfl
  prescaler : t.prescaler = s.prescaler := by rfl
  resetLine : t.bpu.resetLine = s.bpu.resetLine := by rfl
  straps : t.bpu.straps = s.bpu.straps := by rfl
  geometry : t.bpu.geometry = s.bpu.geometry := by rfl
  guard : t.bpu.guard = s.bpu.guard := by rfl
  engagement : t.bpu.engagement = s.bpu.engagement := by rfl
  producerLatch : t.bpu.latch = s.bpu.latch := by rfl
  producer : t.rrd.producer = s.rrd.producer := by rfl
  configured : t.configured = s.configured := by rfl
  masks : t.asu.masks = s.asu.masks := by rfl
  statusTimer : t.asu.statusTimer = s.asu.statusTimer := by rfl
  engageResult : t.asu.engageResult = s.asu.engageResult := by rfl
  offendingField : t.asu.offendingField = s.asu.offendingField := by rfl
  settingsResult : t.asu.settingsResult = s.asu.settingsResult := by rfl
  theta : t.htu.theta = s.htu.theta := by rfl
  grade : t.htu.grade = s.htu.grade := by rfl
  trip : t.htu.trip = s.htu.trip := by rfl
  sensorValid : t.htu.sensorValid = s.htu.sensorValid := by rfl
  schedule : t.htu.schedule = s.htu.schedule := by rfl
  band : t.seu.band = s.seu.band := by rfl
  fired : t.hdu.fired = s.hdu.fired := by rfl
  headLatch : t.hdu.latch = s.hdu.latch := by rfl
  register : t.hdu.register = s.hdu.register := by rfl
  headOpen : t.msu.headOpen = s.msu.headOpen := by rfl
  agree : t.msu.agree = s.msu.agree := by rfl
  lastSample : t.msu.lastSample = s.msu.lastSample := by rfl
  switchKnown : t.msu.switchKnown = s.msu.switchKnown := by rfl
  strobes : StrobeSafe s → StrobeSafe t := by
    exact fun h => ⟨h.strobes, h.firing, h.shift, h.allowed, h.unknown⟩
  offer : OfferRight s → OfferRight t := by exact fun h => h
  free : FreeCountRight s → FreeCountRight t := by exact fun h => h
  bounded : Bounded s → Bounded t := by
    exact fun h => ⟨h.queue, h.buffer, h.edges, h.passed, h.quiet⟩

theorem Inner.refl (s : State) : Inner s s := {}

theorem Inner.trans {s t u : State} (h : Inner s t) (k : Inner t u) : Inner s u where
  mem := k.mem.trans h.mem
  pending := k.pending.trans h.pending
  settings := k.settings.trans h.settings
  prescaler := k.prescaler.trans h.prescaler
  resetLine := k.resetLine.trans h.resetLine
  straps := k.straps.trans h.straps
  geometry := k.geometry.trans h.geometry
  guard := k.guard.trans h.guard
  engagement := k.engagement.trans h.engagement
  producerLatch := k.producerLatch.trans h.producerLatch
  producer := k.producer.trans h.producer
  configured := k.configured.trans h.configured
  masks := k.masks.trans h.masks
  statusTimer := k.statusTimer.trans h.statusTimer
  engageResult := k.engageResult.trans h.engageResult
  offendingField := k.offendingField.trans h.offendingField
  settingsResult := k.settingsResult.trans h.settingsResult
  theta := k.theta.trans h.theta
  grade := k.grade.trans h.grade
  trip := k.trip.trans h.trip
  sensorValid := k.sensorValid.trans h.sensorValid
  schedule := k.schedule.trans h.schedule
  band := k.band.trans h.band
  fired := k.fired.trans h.fired
  headLatch := k.headLatch.trans h.headLatch
  register := k.register.trans h.register
  headOpen := k.headOpen.trans h.headOpen
  agree := k.agree.trans h.agree
  lastSample := k.lastSample.trans h.lastSample
  switchKnown := k.switchKnown.trans h.switchKnown
  strobes := k.strobes ∘ h.strobes
  offer := k.offer ∘ h.offer
  free := k.free ∘ h.free
  bounded := k.bounded ∘ h.bounded

theorem Inner.after {s t u : State} (k : Inner t u) (h : Inner s t) : Inner s u := h.trans k

/-- The next piece of work may count on the part staying configured. -/
theorem Inner.afterConfigured {s t u : State} (k : t.configured = true → Inner t u)
    (hc : s.configured = true) (h : Inner s t) : Inner s u :=
  h.trans (k (h.configured.trans hc))

/-! ### Requests, flags and the fault set -/

theorem inner_request (x : Transfer) (s : State) : Inner s (s.request x) := {}

theorem inner_withdraw (p : Transfer → Bool) (s : State) : Inner s (s.withdraw p) := {}

theorem inner_requestVector (s : State) : Inner s (requestVector s) := by
  unfold requestVector
  split
  · exact .refl s
  · exact inner_request _ s

theorem inner_requestRefresh (s : State) : Inner s (requestRefresh s) := by
  unfold requestRefresh
  split
  · exact .refl s
  · exact {}

theorem inner_requestRefreshLast (s : State) : Inner s (requestRefreshLast s) := {}

theorem inner_clearDwell (s : State) : Inner s (clearDwell s) := {}

theorem inner_updatePrinting (f : Context → Context) (s : State) : Inner s (s.updatePrinting f) := {}

/-- An engaged state may follow another: whether the part is configured, and with it the offer, stands. -/
theorem inner_engine {s : State} {e : Engine} (hc : s.configured = true) (he : e ≠ .unconfigured) :
    Inner s { s with lcu.engine := e } where
  configured := hc.symm ▸ bne_iff_ne.2 he
  offer h := by
    have stands : State.configured { s with lcu.engine := e } = s.configured :=
      hc.symm ▸ bne_iff_ne.2 he
    exact h.trans (by unfold offerOf; rw [stands])

theorem inner_setEngine {s : State} {e : Engine} (hc : s.configured = true) (he : e ≠ .unconfigured) :
    Inner s (setEngine e s) := by
  unfold setEngine
  split
  · exact .refl s
  · refine (inner_engine hc he).trans (.trans ?_ (inner_requestRefresh _))
    split
    · exact inner_clearDwell _
    · exact .refl _

/-- The records may change before the offer is recomputed. -/
theorem inner_recomputeOffer (ev : Option Source) (r : PerSource SourceRecord) (s : State) :
    Inner s (recomputeOffer ev { s with asu.records := r }) := by
  have right : OfferRight (recomputeOffer ev { s with asu.records := r }) := recomputeOffer_right _ _
  revert right
  unfold recomputeOffer
  dsimp only
  split
  · unfold requestVector
    split <;> exact fun right => { offer := fun _ => right }
  · exact fun right => { offer := fun _ => right }

theorem inner_raise (n : Source) (code : Nat) (arg : BitVec 16) (s : State) :
    Inner s (raise n code arg s) := inner_recomputeOffer _ _ s

theorem inner_acknowledge (n : Nat) (s : State) : Inner s (acknowledge n s) := by
  unfold acknowledge
  split
  · exact .refl s
  · dsimp only
    split
    · exact inner_recomputeOffer _ _ s
    · exact .refl s

theorem inner_endService (s : State) : Inner s (endService s) := by
  unfold endService
  split
  · split
    · exact .refl s
    · exact inner_recomputeOffer _ _ s
  · exact .refl s

theorem inner_clearFault (r : FaultReason) (s : State) : Inner s (clearFault r s) := {}

/-! ### The hold table and the ring -/

theorem countP_modify {α : Type} (p : α → Bool) (f : α → α) (l : List α) (b : Nat) (x : α)
    (hx : l[b]? = some x) :
    (l.modify b f).countP p + (p x).toNat = l.countP p + (p (f x)).toNat := by
  induction l generalizing b with
  | nil => cases hx
  | cons y ys ih =>
    cases b with
    | zero =>
      cases hx
      simp only [List.modify_zero_cons, List.countP_cons]
      cases p x <;> cases p (f x) <;> simp
    | succ b =>
      have := ih b hx
      simp only [List.modify_succ_cons, List.countP_cons]
      omega

theorem Bht.holdOf_eq {t : Bht} {b : Nat} {e : BandEntry} (h : t.entries[b]? = some e) :
    t.holdOf b = e.hold := by simp [Bht.holdOf, h]

theorem Bht.accept_free (t : Bht) (i : Idx) (b : Nat) (tag : BitVec 16)
    (h : t.free = t.entries.countP fun e => e.hold == 0) :
    (t.accept i b tag).free = (t.accept i b tag).entries.countP fun e => e.hold == 0 := by
  simp only [Bht.accept]
  by_cases hb : b < t.entries.length
  case neg => rw [if_neg fun c => hb c.1, List.modify_eq_self (Nat.le_of_not_lt hb), h]
  case pos =>
    have hx := List.getElem?_eq_getElem hb
    have count := countP_modify (fun e : BandEntry => e.hold == 0)
      (fun e => { hold := e.hold + 1, tag := tag }) t.entries b _ hx
    rw [Bht.holdOf_eq hx]
    split
    next zero => simp [zero.2] at count; omega
    next held =>
      have busy : ((t.entries[b]).hold == 0) = false := beq_false_of_ne fun z => held ⟨hb, z⟩
      simp [busy] at count; omega

theorem Bht.releaseItem_free (t : Bht) (i : Idx)
    (h : t.free = t.entries.countP fun e => e.hold == 0) :
    (t.releaseItem i).free = (t.releaseItem i).entries.countP fun e => e.hold == 0 := by
  unfold Bht.releaseItem
  split
  case h_1 => exact h
  case h_2 j b rest _ =>
    split
    case isFalse => exact h
    case isTrue =>
      dsimp only
      by_cases hb : b < t.entries.length
      case neg => rw [if_neg fun c => hb c.1, List.modify_eq_self (Nat.le_of_not_lt hb), h]
      case pos =>
        have hx := List.getElem?_eq_getElem hb
        have count := countP_modify (fun e : BandEntry => e.hold == 0)
          (fun e => { e with hold := e.hold - 1 }) t.entries b _ hx
        rw [Bht.holdOf_eq hx]
        by_cases one : (t.entries[b]).hold = 1
        · simp [one] at count
          rw [if_pos ⟨hb, one⟩]; omega
        · rw [if_neg fun c => one c.2]
          have : ((t.entries[b]).hold - 1 == 0) = ((t.entries[b]).hold == 0) := by
            rw [Bool.eq_iff_iff, beq_iff_eq, beq_iff_eq]; omega
          rw [this] at count; omega

theorem inner_acceptBand (i : Idx) (b : Nat) (tag : BitVec 16) (s : State) :
    Inner s { s with bht := s.bht.accept i b tag } where
  free h := Bht.accept_free _ _ _ _ h

theorem inner_releaseItem (i : Idx) (s : State) : Inner s { s with bht := s.bht.releaseItem i } where
  free h := Bht.releaseItem_free _ _ h

theorem inner_judgeBandsFree (n : Nat) (s : State) : Inner s (judgeBandsFree n s) := by
  unfold judgeBandsFree
  split
  · exact inner_raise _ _ _ s
  · exact .refl s

theorem inner_completeItem (i : Idx) (r : ItemResult) (n : Nat) (s : State) :
    Inner s (completeItem i r n s) := {}

theorem inner_completeLabel (l k : Idx) (r : ItemResult) (g p : Nat) (s : State) :
    Inner s (completeLabel l k r g p s) := {}

theorem inner_raiseRetired (e : ItemEntry) (s : State) : Inner s (raiseRetired e s) := by
  unfold raiseRetired
  split
  · exact .refl s
  · split
    · exact inner_raise _ _ _ s
    · exact inner_raise _ _ _ s
    · exact inner_raise _ _ _ s
    · exact .refl s

theorem inner_retireItem (e : ItemEntry) (s : State) : Inner s (retireItem e s) := by
  unfold retireItem
  dsimp only
  refine (inner_releaseItem e.index s).trans ?_
  split
  · exact .refl _
  · exact (inner_request _ _).trans (inner_raiseRetired e _)

theorem inner_retireRun (run : List ItemEntry) : ∀ s : State, Inner s (retireRun run s) := by
  induction run with
  | nil => exact .refl
  | cons e rest ih => exact fun s => (inner_retireItem e s).trans (ih _)

theorem inner_endAdvance (n : Nat) (i : Idx) (s : State) : Inner s (endAdvance n i s) :=
  Inner.trans (t := { s with rrd.retire := i }) {}
    ((inner_judgeBandsFree n _).trans (inner_requestRefreshLast _))

theorem inner_retireAdvance (s : State) : Inner s (retireAdvance s) := by
  unfold retireAdvance
  split
  · exact .refl s
  next run _ =>
    dsimp only
    exact (inner_retireRun _ s).trans (.trans (t := { retireRun _ s with rrd.table := _ }) {}
      (inner_endAdvance _ _ _))

theorem inner_startReread (s : State) : Inner s (startReread s) := by
  unfold startReread
  split
  · exact {}
  · exact .refl s

theorem inner_requestFetch (s : State) : Inner s (requestFetch s) := by
  unfold requestFetch
  split
  · exact {}
  · exact .refl s

theorem inner_discardFetch (s : State) : Inner s (discardFetch s) := {}

theorem inner_discardHold (s : State) : Inner s (discardHold s) := {}

theorem inner_dropFormat (l : Idx) (s : State) : Inner s (dropFormat l s) := {}

/-! ### The stream -/

theorem Segment.takeSlot_left (x : Segment) : x.takeSlot.2.toList.length ≤ 1 :=
  Option.length_toList_le

/-- R82 to R84: taking elements grows the buffer up to its slots and never the queue. -/
theorem Rsu.takeUpTo_bounds (n : Nat) : ∀ r : Rsu, r.buffer.length ≤ Config.bufferSize →
    (Rsu.takeUpTo n r).buffer.length ≤ Config.bufferSize ∧
      (Rsu.takeUpTo n r).queue.length ≤ r.queue.length := by
  induction n with
  | zero => exact fun r h => ⟨h, Nat.le_refl _⟩
  | succ n ih =>
    intro r h
    unfold Rsu.takeUpTo
    split
    case isFalse => exact ⟨h, Nat.le_refl _⟩
    case isTrue room =>
      split
      case h_1 => exact ⟨h, Nat.le_refl _⟩
      case h_2 x rest hq =>
        have left := x.takeSlot_left
        obtain ⟨hb, hl⟩ := ih { r with buffer := r.buffer ++ [x.takeSlot.1],
                                       queue := x.takeSlot.2.toList ++ rest }
          (by simpa using Nat.succ_le_of_lt room)
        refine ⟨hb, hl.trans ?_⟩
        simp only [hq, List.length_append, List.length_cons]
        omega

theorem Rsu.fill_bounds (r : Rsu) (h : r.buffer.length ≤ Config.bufferSize) :
    r.fill.buffer.length ≤ Config.bufferSize ∧ r.fill.queue.length ≤ r.queue.length := by
  unfold Rsu.fill
  split
  · exact Rsu.takeUpTo_bounds _ r h
  · exact ⟨h, Nat.le_refl _⟩

/-- The stream changes within the bounds of its queue and buffer. -/
theorem inner_rsu {s : State} {r : Rsu} (hq : r.queue.length ≤ s.rsu.queue.length)
    (hb : r.buffer.length ≤ s.rsu.buffer.length) : Inner s { s with rsu := r } where
  bounded h := ⟨hq.trans h.queue, hb.trans h.buffer, h.edges, h.passed,
    fun e => List.eq_nil_of_length_eq_zero (Nat.le_zero.1 (hb.trans (by rw [h.quiet e]; rfl)))⟩

theorem inner_fillBuffer (s : State) : Inner s (fillBuffer s) := by
  unfold fillBuffer
  split
  case isFalse => exact .refl s
  case isTrue engaged =>
    exact {
      bounded := fun h => ⟨(Rsu.fill_bounds _ h.buffer).2.trans h.queue,
        (Rsu.fill_bounds _ h.buffer).1, h.edges, h.passed, fun e => absurd engaged e⟩ }

theorem inner_refreshForecast (s : State) : Inner s (refreshForecast s) := {}

theorem inner_updateTailRunOn (s : State) : Inner s (updateTailRunOn s) := {}

theorem inner_settle (s : State) : Inner s (settle s) :=
  (inner_retireAdvance s).trans <| (inner_fillBuffer _).trans <| (inner_startReread _).trans <|
    (inner_requestFetch _).trans <| (inner_updateTailRunOn _).trans (inner_refreshForecast _)

/-! ### The head, the history and the supply -/

theorem inner_takeLine (x : Line) (s : State) : Inner s (takeLine x s) := {}

/-- R120, R126: the head becomes ACTIVE only where firing is allowed. -/
theorem inner_takeRecord (s : State) : Inner s (takeRecord s) := by
  unfold takeRecord
  dsimp only
  split
  case isFalse => exact .refl s
  case isTrue awaits =>
    have inactive : s.hdu.state ≠ .active := by rw [awaits]; decide
    split
    case isTrue =>
      exact { strobes := fun h => ⟨fun _ => h.strobes inactive, fun _ => h.firing inactive,
        fun _ => h.shift inactive, (fun e => nomatch e), h.unknown⟩ }
    case isFalse fires =>
      have allowed : firingAllowed s = true := by
        by_contra closed
        exact fires (by simp [closed])
      rw [firingAllowed, Bool.and_eq_true, beq_iff_eq, Bool.not_eq_true'] at allowed
      exact { strobes := fun h => ⟨fun e => absurd rfl e, fun e => absurd rfl e,
        fun e => absurd rfl e, fun _ => allowed, h.unknown⟩ }

/-- R129: a cut head is safe whatever it did before. -/
theorem inner_cutLine (s : State) : Inner s (cutLine s) where
  strobes h := ⟨fun _ => rfl, fun _ => rfl, fun _ => rfl, (fun e => nomatch e), h.unknown⟩

theorem inner_endWait (s : State) : Inner s (endWait s) := by
  unfold endWait
  split
  · exact Inner.trans (t := { s with rsu.waiting := false }) {}
      ((inner_takeLine _ _).trans (inner_takeRecord _))
  · exact .refl s

theorem inner_flushStream (s : State) : Inner s (flushStream s) :=
  (inner_endWait s).trans (inner_rsu (Nat.zero_le _) (Nat.zero_le _))

theorem inner_flushLabel (l : Idx) (s : State) : Inner s (flushLabel l s) :=
  (inner_endWait s).trans (inner_rsu (List.length_filter_le _ _) (List.length_filter_le _ _))

theorem Rsu.headRow_bounds {r left : Rsu} {blank dots : Dots}
    (h : r.headRow blank = some (dots, left)) :
    left.queue = r.queue ∧ left.buffer.length ≤ r.buffer.length := by
  unfold Rsu.headRow at h
  split at h
  · cases h; exact ⟨rfl, Nat.le_refl _⟩
  next b _ c l _ image rest hb =>
    obtain ⟨i, -, h⟩ := Option.map_eq_some_iff.1 h
    cases h
    exact ⟨rfl, by simp [hb]⟩
  next rep n c l rest hb =>
    dsimp only at h
    cases h
    refine ⟨rfl, ?_⟩
    dsimp only
    split <;> simp [hb]
  · cases h; exact ⟨rfl, Nat.le_refl _⟩

theorem inner_deliverLine (s : State) : Inner s (deliverLine s) := by
  unfold deliverLine
  split
  · exact (inner_takeLine _ s).trans (inner_takeRecord _)
  · split
    · exact {}
    next dots r hr =>
      obtain ⟨hq, hb⟩ := Rsu.headRow_bounds hr
      exact (inner_rsu (r := { r with waiting := false }) (by simp [hq]) hb).trans <|
        (inner_takeLine _ _).trans <| (inner_takeRecord _).trans (inner_fillBuffer _)

theorem inner_clearHistory (s : State) : Inner s (clearHistory s) := {}

/-- R126: the supply leaves ON only with the line that is ACTIVE cut. -/
theorem inner_supplyOff (s : State) : Inner s (supplyOff s) := by
  unfold supplyOff
  extract_lets s1
  split
  · exact { strobes := fun h =>
      ⟨fun _ => rfl, fun _ => rfl, fun _ => rfl, (fun e => nomatch e), h.unknown⟩ }
  next idle =>
    exact { strobes := fun h => ⟨h.strobes, h.firing, h.shift, fun e => absurd e idle, h.unknown⟩ }

theorem inner_requestSupply (s : State) : Inner s (requestSupply s) := by
  unfold requestSupply
  split
  next off =>
    exact { strobes := fun h => ⟨h.strobes, h.firing, h.shift,
      fun e => absurd (off.symm.trans (h.allowed e).1) (by decide), h.unknown⟩ }
  · exact .refl s

theorem inner_requestConversion (s : State) : Inner s (requestConversion s) := {}

/-! ### The paper and the media -/

/-- R120: a line starts with the head cut, so outside ACTIVE. -/
theorem inner_beginLine (i p : Nat) (s : State) : Inner s (beginLine i p s) where
  strobes h := ⟨fun _ => rfl, fun _ => rfl, fun _ => rfl, (fun e => nomatch e), h.unknown⟩

theorem inner_advancePosition (s : State) : Inner s (advancePosition s) := {}

theorem inner_motionRest (s : State) : Inner s (motionRest s) := {}

theorem inner_orderDeceleration (s : State) : Inner s (orderDeceleration s) := {}

/-- The edge queue and the passed list change within their bounds; the switch stands. -/
theorem inner_msu {s : State} {m : Msu} (hq : s.msu.queue.length ≤ Config.edgeSize → m.queue.length ≤ Config.edgeSize)
    (hp : s.msu.passed.length ≤ Config.edgeSize → m.passed.length ≤ Config.edgeSize)
    (open_ : m.headOpen = s.msu.headOpen := by rfl) (agree : m.agree = s.msu.agree := by rfl)
    (last : m.lastSample = s.msu.lastSample := by rfl)
    (known : m.switchKnown = s.msu.switchKnown := by rfl) : Inner s { s with msu := m } where
  headOpen := open_
  agree := agree
  lastSample := last
  switchKnown := known
  strobes h := ⟨h.strobes, h.firing, h.shift, fun e => ⟨(h.allowed e).1, open_.trans (h.allowed e).2⟩,
    fun e => open_.trans (h.unknown (known.symm.trans e))⟩
  bounded h := ⟨h.queue, h.buffer, hq h.edges, hp h.passed, h.quiet⟩

theorem inner_reachTof (s : State) : Inner s (reachTof s) := by
  unfold reachTof
  split
  · exact .refl s
  next e rest hq =>
    split
    · exact inner_msu (fun h => by simp [hq] at h ⊢; omega) fun _ => List.length_take_le _ _
    · exact .refl s

theorem inner_overflowEdges (e : Edge) (s : State) : Inner s (overflowEdges e s) :=
  (inner_msu (fun _ => Nat.zero_le _) fun _ => Nat.zero_le _).trans (inner_raise _ _ _ _)

theorem inner_returnTof (before : Pos) (s : State) : Inner s (returnTof before s) := by
  unfold returnTof
  split
  · exact .refl s
  next e rest hp =>
    split
    · split
      next room => exact inner_msu (fun _ => room) fun h => by simp [hp] at h ⊢; omega
      · exact inner_overflowEdges e s
    · exact .refl s

theorem inner_raiseRegLost (was : Bool) (n : Nat) (s : State) : Inner s (raiseRegLost was n s) := by
  unfold raiseRegLost
  split
  · exact inner_raise _ _ _ s
  · exact .refl s

theorem inner_loseRegistration (n : Nat) (s : State) : Inner s (loseRegistration n s) :=
  (inner_msu (fun _ => Nat.zero_le _) fun _ => Nat.zero_le _).trans (inner_raiseRegLost _ _ _)

theorem inner_startCalibration (s : State) : Inner s (startCalibration s) := by
  unfold startCalibration
  exact .after (inner_loseRegistration 3 _) (inner_msu id id)

theorem inner_abandonCalibration (s : State) : Inner s (abandonCalibration s) := by
  unfold abandonCalibration Msu.dropCalibration
  split
  · exact inner_msu id id
  · exact inner_msu (fun _ => Nat.zero_le _) fun _ => Nat.zero_le _

theorem inner_finishCalibration (e : Edge) (s : State) : Inner s (finishCalibration e s) := by
  unfold finishCalibration
  exact .after (inner_requestRefresh _) <| .after (inner_raise _ _ _ _) (inner_msu id id)

theorem inner_joinEdge (e : Edge) (s : State) (room : s.msu.queue.length < Config.edgeSize) :
    Inner s (joinEdge e s) := by
  unfold joinEdge
  extract_lets _ s1 target _ s2
  have join : Inner s s1 := inner_msu (fun _ => by simpa using room) id
  have aimed : Inner s s2 := by
    refine join.trans ?_
    unfold s2
    split
    · exact {}
    · exact .refl s1
  split
  · exact aimed.trans (inner_raise _ _ _ _)
  · exact aimed

/-! ### The label -/

theorem inner_releaseCopy (s : State) : Inner s (releaseCopy s) := {}

theorem inner_endCourse (s : State) : Inner s (endCourse s) := {}

theorem inner_moveUp (s : State) : Inner s (moveUp s) := by
  unfold moveUp
  split
  · exact {}
  · exact .refl s

theorem inner_reportLabelEnd (c : Context) (s : State) : Inner s (reportLabelEnd c s) := by
  unfold reportLabelEnd
  dsimp only
  split
  · exact {}
  · split
    · exact inner_completeLabel _ _ _ _ _ s
    · exact .refl s

theorem inner_labelEnd (s : State) : Inner s (labelEnd s) := by
  unfold labelEnd
  split
  next c _ =>
    exact (inner_reportLabelEnd c s).trans
      (.trans (t := { reportLabelEnd c s with lcu.printing := none }) {} (inner_moveUp _))
  · exact .refl s

theorem inner_finishOperation (r : ItemResult) (s : State) : Inner s (finishOperation r s) := by
  unfold finishOperation
  split
  · exact Inner.trans (t := { s with lcu.operation := none }) {} (inner_completeItem _ _ _ _)
  · exact .refl s

theorem inner_spoilRewind (c : Context) (n : Nat) (s : State) : Inner s (spoilRewind c n s) := by
  unfold spoilRewind
  extract_lets dropped s1 s2 w
  have emptied : Inner s s2 := by
    refine .trans (t := dropped) ?_ {}
    unfold dropped
    split
    · exact inner_dropFormat _ s
    · exact .refl s
  refine emptied.trans ?_
  split
  · exact {}
  · split
    · exact {}
    · exact {}

theorem inner_spoilCopy (s : State) : Inner s (spoilCopy s) := by
  unfold spoilCopy
  split
  next c _ =>
    have flushed : Inner s (releaseCopy (flushStream (spoilRewind c.spoil.1 c.spoil.2
        { s with lcu.printing := some c.spoil.1 }))) :=
      .after (inner_releaseCopy _) <| .after (inner_flushStream _) <| .after (inner_spoilRewind _ _ _) {}
    dsimp only
    split
    · exact flushed.trans (inner_labelEnd _)
    · exact flushed
  · exact .refl s

/-! ### Faults -/

theorem inner_enterFault (r : FaultReason) (s : State) : Inner s (enterFault r s) := {}

theorem inner_endWork (s : State) : Inner s (endWork s) :=
  (inner_finishOperation _ s).trans (inner_abandonCalibration _)

theorem inner_faultStop (s : State) : Inner s (faultStop s) := by
  unfold faultStop
  extract_lets _ _ s1
  refine .after (inner_supplyOff _) <| .after (inner_cutLine _) ?_
  unfold s1
  split
  · exact {}
  · exact .refl s

theorem inner_takeFault (r : FaultReason) {s : State} (hc : s.configured = true) :
    Inner s (takeFault r s) := by
  unfold takeFault
  extract_lets s1 s2 s3
  have spoiled : Inner s1 s2 := by
    unfold s2
    split
    · exact inner_spoilCopy _
    · exact .refl _
  refine .after (inner_raise _ _ _ _) <| .afterConfigured (inner_setEngine · (by decide)) hc <|
    .after (inner_enterFault _ _) <| .after (inner_endCourse _) <| .after (inner_releaseCopy _) <|
    .after (inner_endWork _) <| spoiled.after (inner_faultStop s)

theorem configured_of_engine {s : State} {e : Engine} (h : s.lcu.engine = e)
    (he : e ≠ .unconfigured := by decide) : s.configured = true := bne_iff_ne.2 (h ▸ he)

theorem faultTaken_configured {r : FaultReason} {s : State} (h : faultTaken r s = true) :
    s.configured = true := by
  refine bne_iff_ne.2 fun e => ?_
  rw [faultTaken, e] at h
  exact Bool.false_ne_true h

theorem inner_reportFault (r : FaultReason) (s : State) : Inner s (reportFault r s) := by
  unfold reportFault
  split
  next taken =>
    split
    · split
      · exact .refl s
      · exact (inner_enterFault r s).trans (inner_raise _ _ _ _)
    · exact inner_takeFault r (faultTaken_configured taken)
  · exact .refl s

/-! ### The copy end and the steps -/

theorem inner_endCopyRows (c : Context) (s : State) : Inner s (endCopyRows c s) := by
  unfold endCopyRows
  extract_lets overlong s1 s2
  have ended : Inner s s2 :=
    .after (inner_rsu (List.length_filter_le _ _) (List.length_filter_le _ _)) (inner_endWait s)
  split
  · exact ended.trans (inner_raise _ _ _ _)
  · exact ended

theorem inner_continueCopy (s : State) : Inner s (continueCopy s) := {}

theorem inner_present {s : State} (hc : s.configured = true) : Inner s (present s) := by
  unfold present
  exact .afterConfigured (inner_setEngine · (by decide)) hc {}

theorem inner_copyEnd {s : State} (hc : s.configured = true) : Inner s (copyEnd s) := by
  unfold copyEnd
  split
  next c _ =>
    extract_lets s1 s2
    have next : Inner s s2 := by
      refine .trans (t := s1) (.after (inner_endCopyRows c _) (inner_updatePrinting _ s)) ?_
      unfold s2
      split
      · exact inner_labelEnd _
      · exact inner_updatePrinting _ _
    split
    · exact next.trans (inner_continueCopy _)
    · exact .afterConfigured inner_present hc next
  · exact .refl s

theorem inner_judgeCopyEnd (reached : Bool) (s : State) : Inner s (judgeCopyEnd reached s) := by
  unfold judgeCopyEnd
  split
  next at_ =>
    have printing : s.lcu.engine = .printing := by
      rw [atCopyEnd, Bool.and_assoc, Bool.and_eq_true, beq_iff_eq] at at_
      exact at_.1
    exact inner_copyEnd (configured_of_engine printing)
  · exact .refl s

theorem inner_judgeLimits (s : State) : Inner s (judgeLimits s) := by
  unfold judgeLimits
  split
  · exact inner_reportFault _ s
  · exact .refl s

theorem inner_failCalibration (r : CalRun) (s : State) : Inner s (failCalibration r s) := by
  unfold failCalibration
  extract_lets s1 s2 _ s3
  refine .after (inner_orderDeceleration _) (.trans (t := s2) ?_ ?_)
  · exact .after (inner_requestRefresh _) <| .after (inner_raise _ _ _ _) (inner_abandonCalibration s)
  · unfold s3
    split
    · exact {}
    · exact inner_finishOperation _ _

theorem inner_countCalibration (s : State) : Inner s (countCalibration s) := by
  unfold countCalibration
  split
  next r _ =>
    extract_lets _ s1
    have counted : Inner s s1 := {}
    split
    · exact counted.trans (inner_failCalibration r _)
    · exact counted
  · exact .refl s

theorem inner_forwardStep (i p : Nat) (s : State) : Inner s (forwardStep i p s) :=
  .after (inner_judgeLimits _) <| .after (inner_judgeCopyEnd _ _) <| .after (inner_countCalibration _) <|
    .after (inner_reachTof _) <| .after (inner_advancePosition _) <| .after (inner_deliverLine _) <|
      inner_beginLine i p s

theorem inner_startForward (s : State) : Inner s (startForward s) := inner_forwardStep _ _ s

theorem inner_backwardStep (s : State) : Inner s (backwardStep s) := by
  unfold backwardStep
  exact .after (inner_returnTof _ _) {}

theorem inner_startBackfeed (k : Nat) (s : State) : Inner s (startBackfeed k s) := by
  unfold startBackfeed
  split
  · exact .refl s
  · exact .after (inner_backwardStep _) {}

/-! ### Starts, the choice of the next state and rests -/

theorem inner_startSeek (s : State) : Inner s (startSeek s) := by
  unfold startSeek
  exact .after (inner_startForward _) {}

theorem inner_startToward (p : Pos) (s : State) : Inner s (startToward p s) := by
  unfold startToward
  exact .after (inner_startForward _) {}

theorem inner_enterSeeking {s : State} (hc : s.configured = true) : Inner s (enterSeeking s) :=
  (inner_setEngine hc (by decide)).trans (inner_startSeek _)

theorem inner_enterCalibrating (r : CalReason) {s : State} (hc : s.configured = true) :
    Inner s (enterCalibrating r s) := by
  unfold enterCalibrating
  extract_lets s1
  have started : Inner s s1 :=
    .after (inner_startCalibration _) (inner_setEngine hc (by cases r <;> decide))
  exact .after (inner_startForward _) (started.trans {})

theorem inner_enterFeeding (n : Nat) {s : State} (hc : s.configured = true) :
    Inner s (enterFeeding n s) := by
  unfold enterFeeding
  extract_lets s1
  have feeding : Inner s s1 := inner_setEngine hc (by decide)
  refine feeding.trans ?_
  split
  · exact .after (inner_startToward _ _) {}
  · split
    · exact inner_startSeek _
    · exact inner_startToward _ _

theorem inner_prepareCopy (p : Pos) (s : State) : Inner s (prepareCopy p s) := by
  unfold prepareCopy
  exact .after (inner_startBackfeed _ _) {}

theorem inner_examineMedia {s : State} (hc : s.configured = true) : Inner s (examineMedia s) := by
  unfold examineMedia
  split
  · split
    · exact inner_enterCalibrating _ hc
    · split
      · exact inner_prepareCopy _ s
      · exact inner_enterSeeking hc
  · exact inner_prepareCopy _ s

theorem inner_enterArming {s : State} (hc : s.configured = true) : Inner s (enterArming s) :=
  .afterConfigured inner_examineMedia hc <| .after (inner_requestConversion _) <|
    .after (inner_requestSupply _) (inner_setEngine hc (by decide))

theorem inner_takeOperation (o : Operation) {s : State} (hc : s.configured = true) :
    Inner s (takeOperation o s) := by
  unfold takeOperation
  extract_lets _ _ s1
  have taken : Inner s s1 := {}
  split
  · exact .afterConfigured (inner_enterFeeding _) hc taken
  · split
    · exact .afterConfigured (inner_enterCalibrating _) hc taken
    · exact .afterConfigured (inner_setEngine · (by decide)) hc <| .after (inner_finishOperation _ _) <|
        .afterConfigured (inner_setEngine · (by decide)) hc taken

theorem inner_chooseNext {s : State} (hc : s.configured = true) : Inner s (chooseNext s) := by
  unfold chooseNext
  extract_lets s1
  have released : Inner s s1 := .after (inner_endCourse _) (inner_releaseCopy s)
  split
  · exact .afterConfigured (inner_setEngine · (by decide)) hc released
  · split
    · exact .afterConfigured inner_enterArming hc released
    · split
      · exact .afterConfigured (inner_takeOperation _) hc released
      · exact .afterConfigured (inner_setEngine · (by decide)) hc released

theorem inner_startPrinting {s : State} (hc : s.configured = true) : Inner s (startPrinting s) := by
  unfold startPrinting
  exact .after (inner_startForward _) <| .afterConfigured (inner_setEngine · (by decide)) hc {}

theorem inner_startCopy {s : State} (hc : s.configured = true) : Inner s (startCopy s) := by
  unfold startCopy
  exact .afterConfigured inner_startPrinting hc {}

theorem inner_leaveThermalHold (s : State) : Inner s (leaveThermalHold s) := by
  unfold leaveThermalHold
  split
  next holds =>
    have hc := configured_of_engine holds.1
    split
    · exact inner_startPrinting hc
    · exact inner_setEngine hc (by decide)
  · exact .refl s

theorem inner_stall {s : State} (hc : s.configured = true) : Inner s (stall s) := by
  unfold stall
  exact .afterConfigured (inner_setEngine · (by decide)) hc {}

theorem inner_countThermalStop (s : State) : Inner s (countThermalStop s) := {}

theorem inner_endCalibrating {s : State} (hc : s.configured = true) :
    Inner s (endCalibrating s) := by
  unfold endCalibrating
  split
  next e _ =>
    extract_lets s1
    have done : Inner s s1 := .after (inner_finishOperation _ _) (inner_finishCalibration e s)
    exact .afterConfigured inner_chooseNext hc (done.trans {})
  · exact inner_chooseNext hc

theorem inner_endFeeding {s : State} (hc : s.configured = true) : Inner s (endFeeding s) := by
  unfold endFeeding
  extract_lets toTof _ s1
  refine .afterConfigured inner_chooseNext hc <| .after (inner_finishOperation _ _) ?_
  unfold s1
  split
  · exact {}
  · exact .refl s

theorem inner_restReached (d : Bool) (s : State) : Inner s (restReached d s) := by
  unfold restReached
  split
  next e =>
    have hc := configured_of_engine e
    split
    · exact .after (inner_leaveThermalHold _) (inner_setEngine hc (by decide))
    · exact inner_stall hc
  next e => exact .afterConfigured inner_chooseNext (configured_of_engine e) {}
  next e => exact inner_chooseNext (configured_of_engine e)
  next e => exact .afterConfigured inner_chooseNext (configured_of_engine e) {}
  next e => exact inner_endFeeding (configured_of_engine e)
  next r e => exact inner_endCalibrating (configured_of_engine e (by cases r <;> decide))
  next e =>
    split
    · exact inner_chooseNext (configured_of_engine e)
    · exact .refl s
  · exact .refl s

theorem inner_comeToRest (s : State) : Inner s (comeToRest s) :=
  (inner_motionRest s).trans (inner_restReached _ _)

theorem inner_lineEnded (s : State) : Inner s (lineEnded s) := by
  unfold lineEnded
  split
  · split
    · exact inner_comeToRest s
    · exact inner_forwardStep _ _ s
    · exact .refl s
  · exact .refl s

theorem inner_enterPresentingStop {s : State} (hc : s.configured = true) :
    Inner s (enterPresentingStop s) := by
  unfold enterPresentingStop
  extract_lets s1
  have presenting : Inner s s1 :=
    .afterConfigured (inner_setEngine · (by decide)) hc <| .after (inner_endCourse _) (inner_releaseCopy s)
  exact .after (inner_lineEnded _) <| .after (inner_cutLine _) <| .after (inner_orderDeceleration _)
    (presenting.trans {})

theorem configured_of_inCopy {s : State} (h : s.lcu.engine.inCopy = true) : s.configured = true := by
  refine bne_iff_ne.2 fun e => ?_
  rw [e] at h
  exact Bool.false_ne_true h

theorem inner_reportOverflow (s : State) : Inner s (reportOverflow s) := by
  unfold reportOverflow
  split
  next copy =>
    have hc := configured_of_inCopy (Bool.and_eq_true_iff.1 copy).2
    split
    · exact .afterConfigured inner_enterPresentingStop hc (inner_spoilCopy s)
    · exact .afterConfigured inner_chooseNext hc (inner_spoilCopy s)
  · split
    · exact .after (inner_judgeLimits _) {}
    · exact .refl s

theorem inner_giveSeekTarget (p : Pos) (s : State) : Inner s (giveSeekTarget p s) := by
  unfold giveSeekTarget
  split
  · split
    · exact {}
    · exact .refl s
  · exact .refl s

theorem inner_offerEdge (e : Edge) (s : State) : Inner s (offerEdge e s) := by
  unfold offerEdge
  split
  · exact .refl s
  · split
    next room => exact (inner_joinEdge e s room).trans (inner_giveSeekTarget _ _)
    · exact (inner_overflowEdges e s).trans (inner_reportOverflow _)

theorem inner_countStretch (s : State) : Inner s (countStretch s) := {}

theorem inner_planningPoint (s : State) : Inner s (planningPoint s) := by
  unfold planningPoint
  extract_lets expired
  split
  · split
    · exact .after (inner_forwardStep _ _ _) {}
    · exact .after (inner_countStretch _) {}
  · split
    · exact .after (inner_comeToRest _) {}
    · exact .after (inner_countStretch _) {}

theorem inner_linePeriodExpires (s : State) : Inner s (linePeriodExpires s) := by
  unfold linePeriodExpires
  split
  · exact inner_planningPoint s
  · unfold backfeedExpiry
    split
    · exact inner_backwardStep s
    · exact inner_comeToRest s
  · exact .refl s

/-! ### The ring's items -/

theorem inner_passItem (first : Bool) (reason : Nat) (b : List Byte) (s : State) :
    Inner s (passItem first reason b s) := by
  unfold passItem
  extract_lets i entry _ s1
  split
  · exact {}
  · exact {}

theorem inner_holdSegment (x : Segment) (s : State) : Inner s (holdSegment x s) := by
  unfold holdSegment
  split
  · split
    · exact .refl s
    · exact {}
  · exact .refl s

theorem inner_recordClosing (i : Idx) (s : State) : Inner s (recordClosing i s) := {}

theorem inner_closeBody (implied : Bool) (s : State) : Inner s (closeBody implied s) := by
  unfold closeBody
  extract_lets _ s1
  have closed : Inner s s1 := {}
  split
  · split
    · exact closed.trans (inner_completeLabel _ _ _ _ _ _)
    · exact closed
  · exact closed

theorem inner_closeCopy (implied : Bool) (i : Idx) (s : State) : Inner s (closeCopy implied i s) := by
  unfold closeCopy
  extract_lets l total s1
  have recorded : Inner s s1 := .after (inner_recordClosing _ _) (inner_holdSegment _ s)
  split
  · exact recorded.trans {}
  · exact recorded.trans (inner_closeBody _ _)

theorem inner_openLabel (first : Bool) (i : Idx) (b : List Byte) (s : State) :
    Inner s (openLabel first i b s) := by
  unfold openLabel
  extract_lets w _ _ s1 s2
  have opened : Inner s s2 := {}
  split
  · exact opened.trans (inner_raise _ _ _ _)
  · exact opened

theorem inner_acceptBandItem (first : Bool) (i : Idx) (b : List Byte) (s : State) :
    Inner s (acceptBand first i b s) := by
  unfold acceptBand
  extract_lets tag s1 top n
  refine .after (inner_holdSegment _ _) ?_
  unfold s1
  split
  · exact inner_acceptBand _ _ _ s
  · exact .refl s

theorem inner_runSegment (rep : Bool) (n : Nat) (s : State) : Inner s (runSegment rep n s) := by
  unfold runSegment
  split
  · exact .refl s
  · split
    · exact inner_holdSegment _ s
    · exact inner_holdSegment _ s

theorem inner_acceptItem (first : Bool) (i : Idx) (b : List Byte) (s : State) :
    Inner s (acceptItem first i b s) := by
  unfold acceptItem
  split
  · exact inner_openLabel _ _ _ s
  · exact inner_acceptBandItem _ _ _ s
  · exact inner_runSegment _ _ s
  · exact inner_runSegment _ _ s
  · exact inner_closeCopy _ _ s
  · exact {}
  · exact {}
  · exact {}
  · exact .refl s

theorem inner_parseItem (b : List Byte) (s : State) : Inner s (parseItem b s) := by
  unfold parseItem
  extract_lets i _ s0 first reason s1
  have fetched : Inner s s0 := {}
  split
  · exact .after (inner_closeCopy _ _ _) fetched
  · have passed : Inner s s1 := .after (inner_passItem _ _ _ _) fetched
    split
    · exact .after (inner_acceptItem _ _ _ _) passed
    · split
      · exact .after (inner_raise _ _ _ _) passed
      · exact passed

theorem inner_labelArrives (s : State) : Inner s (labelArrives s) := by
  unfold labelArrives
  extract_lets s1
  have moved : Inner s s1 := inner_moveUp s
  split
  next idle => exact .afterConfigured inner_chooseNext (configured_of_engine idle.1) moved
  · exact moved

theorem inner_rewindOutside (i : Idx) (s : State) : Inner s (rewindOutside i s) := {}

theorem inner_cancelInRing (c : Context) (s : State) : Inner s (cancelInRing c s) := by
  unfold cancelInRing
  extract_lets k s1
  have done : Inner s s1 := inner_completeLabel _ _ _ _ _ s
  split
  · exact done.trans (inner_rewindOutside _ _)
  · exact done

theorem inner_cancelCompletions (s : State) : Inner s (cancelCompletions s) := by
  unfold cancelCompletions
  extract_lets s1 s2
  have ended : Inner s s1 := by
    unfold s1
    split
    · split
      · exact inner_completeLabel _ _ _ _ _ s
      · exact .refl s
    · exact .refl s
  have cancelled : Inner s2 (match s.lcu.operation with
      | some o => completeItem o.index .cancelled 0 s2
      | none => s2) := by
    split
    · exact inner_completeItem _ _ _ _
    · exact .refl _
  refine ended.trans (.trans (t := s2) ?_ cancelled)
  unfold s2
  split
  · exact inner_completeLabel _ _ _ _ _ _
  · exact .refl _

theorem inner_cancelAllInRing (s : State) : Inner s (cancelAllInRing s) := by
  unfold cancelAllInRing
  extract_lets p keep s1 run s2 _ s3
  have emptied : Inner s s2 := .after (inner_discardHold _) <| .after (inner_retireRun _ _)
    (inner_cancelCompletions s)
  have outside : Inner s s3 := emptied.trans {}
  split
  · exact outside
  · exact outside.trans (inner_endAdvance _ _ _)

theorem inner_handSegment (s : State) : Inner s (handSegment s) := by
  unfold handSegment
  split
  · split
    · exact {}
    · split
      next room =>
        exact { bounded := fun h => ⟨by simpa using room, h.buffer, h.edges, h.passed, h.quiet⟩ }
      · exact .refl s
  · exact .refl s

theorem inner_handOperation (s : State) : Inner s (handOperation s) := by
  unfold handOperation
  split
  next idle => exact inner_chooseNext (configured_of_engine idle.1)
  · exact .refl s

/-! ### Control requests -/

theorem inner_refuseControl (arg : BitVec 16) (s : State) : Inner s (refuseControl arg s) :=
  inner_raise _ _ _ s

theorem inner_takePause (s : State) : Inner s (takePause s) := by
  unfold takePause
  split
  next hc =>
    extract_lets _ s1
    have latched : Inner s s1 := {}
    split
    · exact .afterConfigured (inner_setEngine · (by decide)) hc latched
    · split
      · exact latched
      · exact .afterConfigured (inner_setEngine · (by decide)) hc <| .after (inner_releaseCopy _) latched
    · exact latched
  · exact inner_refuseControl 1 s

theorem inner_takeResume (s : State) : Inner s (takeResume s) := by
  unfold takeResume
  extract_lets _ cleared
  have resumed : Inner s cleared := {}
  split
  · exact .refl s
  next e => exact .afterConfigured inner_chooseNext (configured_of_engine e) resumed
  next e =>
    split
    · exact .afterConfigured inner_chooseNext (configured_of_engine e) (resumed.trans {})
    · exact inner_refuseControl 2 s
  · exact resumed

theorem inner_engineAfterCancel {s : State} (hc : s.configured = true) :
    Inner s (engineAfterCancel s) := by
  unfold engineAfterCancel
  split
  · exact .afterConfigured inner_enterPresentingStop hc (inner_abandonCalibration s)
  · split
    · split
      · exact {}
      · exact inner_chooseNext hc
    · exact inner_chooseNext hc
    · exact inner_chooseNext hc
    · exact .refl s

theorem inner_takeCancelLabel (s : State) : Inner s (takeCancelLabel s) := by
  unfold takeCancelLabel
  split
  next hc =>
    split
    · exact .refl s
    · extract_lets s1
      have flushed : Inner s s1 := .after (inner_flushLabel _ _) <| .after (inner_cancelInRing _ _)
        (inner_dropFormat _ s)
      exact .afterConfigured inner_engineAfterCancel hc <| .after (inner_moveUp _) (flushed.trans {})
  · exact inner_refuseControl 3 s

theorem inner_engineAfterCancelAll {s : State} (hc : s.configured = true) :
    Inner s (engineAfterCancelAll s) := by
  unfold engineAfterCancelAll
  split
  · exact inner_enterPresentingStop hc
  · exact .afterConfigured inner_enterPresentingStop hc (inner_abandonCalibration s)
  · exact inner_engineAfterCancel hc

theorem inner_takeCancelAll (s : State) : Inner s (takeCancelAll s) := by
  unfold takeCancelAll
  split
  next hc =>
    extract_lets s1 s2
    have flushed : Inner s s2 := .after (inner_flushStream _) <| .after (inner_withdraw _ _) <|
      .after (inner_cancelAllInRing _) (inner_updatePrinting _ s)
    exact .afterConfigured inner_engineAfterCancelAll hc (flushed.trans {})
  · exact inner_refuseControl 4 s

/-- A unit of an engaged part goes back to its RESTART state before the flags and the engine state do. -/
def restartUnits (s : State) : State :=
  let s1 := flushStream (supplyOff (cutLine (emergencyStop s)))
  let s2 := clearHistory (abandonCalibration (s1.withdraw Transfer.withdrawnByRestart))
  { s2 with seu.record := LineRecord.empty, rrd := s2.rrd.restarted, bht := s2.bht.cleared,
            lcu := s2.lcu.restarted }

theorem restartPart_eq (s : State) :
    restartPart s =
      setEngine (restState (restartUnits s).lcu.faults) (restartFlags (restartUnits s)) := rfl

theorem restState_ne (f : FaultSet) : restState f ≠ .unconfigured := by
  unfold restState
  split <;> decide

theorem inner_bhtCleared (s : State) : Inner s { s with bht := s.bht.cleared } where
  free _ := by simp [FreeCountRight, Bht.cleared, List.countP_replicate]

theorem inner_restartFlags (s : State) : Inner s (restartFlags s) := inner_recomputeOffer _ _ s

theorem inner_restartUnits (s : State) : Inner s (restartUnits s) := by
  unfold restartUnits
  extract_lets s1 s2
  have done : Inner s s2 := .after (inner_clearHistory _) <| .after (inner_abandonCalibration _) <|
    .after (inner_withdraw _ _) <| .after (inner_flushStream _) <| .after (inner_supplyOff _) <|
    .after (inner_cutLine _) (inner_motionRest s)
  exact done.trans ((inner_bhtCleared s2).trans {})

theorem inner_restartPart {s : State} (hc : s.configured = true) : Inner s (restartPart s) :=
  .afterConfigured (inner_setEngine · (restState_ne _)) hc <| .after (inner_restartFlags _)
    (inner_restartUnits s)

theorem inner_takeRestart (s : State) : Inner s (takeRestart s) := by
  unfold takeRestart
  split
  next hc => exact inner_restartPart hc
  · exact .refl s

theorem inner_takeStatus (s : State) : Inner s (takeStatus s) := by
  unfold takeStatus
  split
  · exact inner_requestRefresh s
  · exact .refl s

theorem inner_takeControl (v : BitVec 32) (s : State) : Inner s (takeControl v s) := by
  unfold takeControl
  split
  · exact (inner_takePause s).trans (inner_settle _)
  · exact (inner_takeResume s).trans (inner_settle _)
  · exact (inner_takeCancelLabel s).trans (inner_settle _)
  · exact (inner_takeCancelAll s).trans (inner_settle _)
  · exact (inner_takeRestart s).trans (inner_settle _)
  · exact inner_takeStatus s
  · exact inner_refuseControl _ s

/-! ### The line's commands -/

theorem inner_compareA (s : State) : Inner s (compareA s) := by
  unfold compareA
  split
  next f hf =>
    split
    · refine { strobes := fun h => ?_ }
      have active : s.hdu.state = .active := by
        by_contra e
        simp [h.firing e] at hf
      exact ⟨fun e => absurd active e, fun e => absurd active e, fun e => absurd active e,
        fun _ => h.allowed active, h.unknown⟩
    · exact .refl s
  · exact .refl s

theorem inner_endLine (s : State) : Inner s (endLine s) :=
  .after (inner_lineEnded _) (inner_cutLine s)

theorem inner_coolDown (s : State) : Inner s (coolDown s) := {}

theorem inner_deliverWaiting (s : State) : Inner s (deliverWaiting s) := by
  unfold deliverWaiting
  split
  · exact .after (inner_lineEnded _) (inner_deliverLine s)
  · exact .refl s

@[simp] theorem completeRowIn_length (g : Geometry) (m : Memory) (l : List Slot) :
    (completeRowIn g m l).length = l.length := by
  induction l with
  | nil => rfl
  | cons x rest ih =>
    unfold completeRowIn
    split
    · contradiction
    next h => cases h; rfl
    next h => cases h; simp [ih]

@[simp] theorem grantRowIn_length (g : Geometry) (m : Memory) (l : List Slot) :
    (grantRowIn g m l).length = l.length := by
  induction l with
  | nil => rfl
  | cons x rest ih =>
    unfold grantRowIn
    split
    · contradiction
    next h =>
      cases h
      split
      · rfl
      · simp [ih]
    next h => cases h; simp [ih]

theorem inner_completeRow (s : State) : Inner s (completeRow s) := by
  unfold completeRow
  split
  · exact .after (inner_deliverWaiting _) (inner_rsu (Nat.le_refl _) (by simp))
  · exact .refl s

/-! ### Sensing, the supply and the timers -/

theorem inner_trackLine (gap : Bool) (run : LevelRun) (s : State) : Inner s (trackLine gap run s) := by
  unfold trackLine
  split
  · extract_lets s1
    have confirmed : Inner s s1 := by
      have h : (s.msu.confirm gap run.first).queue = s.msu.queue ∧
          (s.msu.confirm gap run.first).passed = s.msu.passed ∧
          (s.msu.confirm gap run.first).headOpen = s.msu.headOpen ∧
          (s.msu.confirm gap run.first).agree = s.msu.agree ∧
          (s.msu.confirm gap run.first).lastSample = s.msu.lastSample ∧
          (s.msu.confirm gap run.first).switchKnown = s.msu.switchKnown := by
        unfold Msu.confirm
        split <;> exact ⟨rfl, rfl, rfl, rfl, rfl, rfl⟩
      obtain ⟨hq, hp, ho, ha, hl, hk⟩ := h
      exact inner_msu (hq ▸ id) (hp ▸ id) ho ha hl hk
    split
    · exact confirmed.trans (inner_offerEdge _ _)
    · exact confirmed
  · exact .refl s

theorem inner_checkPaperOut (gap : Bool) (run : LevelRun) (s : State) :
    Inner s (checkPaperOut gap run s) := by
  unfold checkPaperOut
  split
  · exact .after (inner_reportFault _ _) (inner_loseRegistration 1 s)
  · exact .refl s

theorem inner_checkGapMissing (gap : Bool) (run : LevelRun) (s : State) :
    Inner s (checkGapMissing gap run s) := by
  unfold checkGapMissing
  split
  · exact .after (inner_reportFault _ _) (inner_msu id id)
  · exact .refl s

theorem inner_classedLine (gap high : Bool) (p : Pos) (s : State) :
    Inner s (classedLine gap high p s) := by
  unfold classedLine
  extract_lets run _ s1
  have tracked : Inner s s1 := .after (inner_trackLine _ _ _) (inner_msu id id)
  exact .after (inner_checkGapMissing _ _ _) <| .after (inner_checkPaperOut _ _ _) tracked

theorem inner_learn (r : CalRun) (run : LevelRun) (n : Nat) (s : State) :
    Inner s { s with msu := s.msu.learn r run n } := by
  unfold Msu.learn
  split
  · exact inner_msu id id
  · exact inner_msu id id

theorem inner_senseLine (high : Bool) (p : Pos) (s : State) : Inner s (senseLine high p s) := by
  unfold senseLine
  split
  · split
    · exact inner_learn _ _ _ s
    · split
      · exact inner_classedLine _ _ _ s
      · exact .refl s
  · split
    · exact inner_classedLine _ _ _ s
    · exact .refl s

theorem inner_senseForward (a b c : Bool) (s : State) : Inner s (senseForward a b c s) := by
  unfold senseForward
  split
  next p _ _ =>
    extract_lets _ s1
    have taken : Inner s s1 := inner_msu id id
    split
    · exact .after (inner_senseLine _ _ _) (taken.trans (inner_msu id id))
    · exact taken
  · exact .refl s

theorem inner_cutActive (s : State) : Inner s (cutActive s) := by
  unfold cutActive
  split
  · exact inner_cutLine s
  · exact .refl s

theorem inner_dwellOff (s : State) : Inner s (dwellOff s) :=
  .after (inner_lineEnded _) (inner_supplyOff s)

theorem inner_settleExpires (psgd : Bool) (s : State) : Inner s (settleExpires psgd s) := by
  unfold settleExpires
  split
  next settling =>
    split
    · exact { strobes := fun h => ⟨h.strobes, h.firing, h.shift,
        fun e => ⟨rfl, (h.allowed e).2⟩, h.unknown⟩ }
    · exact .after (inner_reportFault _ _) (inner_supplyOff s)
  · exact .refl s

theorem inner_psgdFalls (s : State) : Inner s (psgdFalls s) := by
  unfold psgdFalls
  split
  · exact .after (inner_reportFault _ _) (inner_supplyOff s)
  · exact .refl s

theorem inner_judgeTimers (s : State) : Inner s (judgeTimers s) := by
  unfold judgeTimers
  extract_lets s1
  have cooled : Inner s s1 := by
    unfold s1
    split
    · exact inner_coolDown s
    · exact .refl s
  split
  · exact cooled.trans (inner_dwellOff _)
  · exact cooled

theorem inner_takeRamps (t : RampTable) (s : State) : Inner s (takeRamps t s) := by
  unfold takeRamps
  split
  · exact {}
  · exact {}

theorem inner_judgeMedia (old new : Settings) (before : Polarity) (s : State) :
    Inner s (judgeMedia old new before s) := by
  unfold judgeMedia
  split
  · exact inner_loseRegistration 2 s
  · exact .refl s

theorem inner_reportClamped (n : Nat) (s : State) : Inner s (reportClamped n s) := by
  unfold reportClamped
  split
  · exact .refl s
  · exact inner_raise _ _ _ s

theorem inner_enterHold (s : State) : Inner s (enterHold s) := by
  unfold enterHold
  split
  · exact .after (inner_orderDeceleration _) (inner_countThermalStop s)
  next e =>
    exact .afterConfigured (inner_setEngine · (by decide)) (configured_of_engine e)
      (inner_countThermalStop s)
  · exact .refl s

/-! ## What the port serves -/

/-- From `s` to `t` the port has made grants or carried a processor cycle: apart from memory, which they may
write, the part has only worked on its own. -/
def Served (s t : State) : Prop := Inner { s with mem := t.mem } t

/-- The head's safety reads the line in progress, the supply and the switch alone. -/
theorem StrobeSafe.congr {s t : State} (h : StrobeSafe s) (state : t.hdu.state = s.hdu.state := by rfl)
    (strobes : t.hdu.strobes = s.hdu.strobes := by rfl) (firing : t.hdu.firing = s.hdu.firing := by rfl)
    (shift : t.hdu.shift = s.hdu.shift := by rfl) (supply : t.htu.supply = s.htu.supply := by rfl)
    (open_ : t.msu.headOpen = s.msu.headOpen := by rfl)
    (known : t.msu.switchKnown = s.msu.switchKnown := by rfl) : StrobeSafe t := by
  refine ⟨state ▸ strobes ▸ h.strobes, state ▸ firing ▸ h.firing, state ▸ shift ▸ h.shift, ?_,
    known ▸ open_ ▸ h.unknown⟩
  rw [state, supply, open_]
  exact h.allowed

/-- The bounds read the stream, the media queues and the engagement alone. -/
theorem Bounded.congr {s t : State} (h : Bounded s) (rsu : t.rsu = s.rsu := by rfl)
    (queue : t.msu.queue = s.msu.queue := by rfl) (passed : t.msu.passed = s.msu.passed := by rfl)
    (engagement : t.bpu.engagement = s.bpu.engagement := by rfl) : Bounded t :=
  ⟨rsu ▸ h.queue, rsu ▸ h.buffer, queue ▸ h.edges, passed ▸ h.passed,
    rsu ▸ engagement ▸ h.quiet⟩

theorem Inner.withMem {s t : State} (h : Inner s t) (m : Memory) :
    Inner { s with mem := m } { t with mem := m } :=
  { h with mem := rfl, strobes := fun x => (h.strobes x.congr).congr
           bounded := fun x => (h.bounded x.congr).congr }

theorem Inner.served {s t : State} (h : Inner s t) : Served s t := h.withMem t.mem

theorem Served.trans {s t u : State} (h : Served s t) (k : Served t u) : Served s u :=
  (Inner.withMem h u.mem).trans k

theorem served_store (a : Nat) (b : List Byte) (s : State) : Served s (s.store a b) := Inner.refl _

theorem served_performTransfer (x : Transfer) (s : State) : Served s (performTransfer x s) := by
  cases x <;> exact Inner.mk

theorem inner_grantRow (s : State) : Inner s (grantRow s) := by
  unfold grantRow
  exact inner_rsu (Nat.le_refl _) (by simp)

theorem served_grantRow (s : State) : Served s (grantRow s) := (inner_grantRow s).served

theorem served_grantNext (s : State) : Served s (grantNext s) := by
  unfold grantNext
  split
  · exact served_grantRow s
  · split
    · exact .trans (t := { s with bpu.waiting := s.bpu.waiting.erase _ }) (Inner.mk)
        (served_performTransfer _ _)
    · exact Inner.refl s

theorem served_grantAll (p : Transfer → Bool) (s : State) : Served s (grantAll p s) :=
  grantAll_keeps (Served s) (fun _ h => h.trans (served_grantNext _)) p s (Inner.refl s)

theorem served_grantOne (p : Transfer → Bool) (s : State) : Served s (grantOne p s) :=
  grantOne_keeps (Served s) (fun _ h => h.trans (served_grantNext _)) p s (Inner.refl s)

theorem served_grantUrgent (n : Nat) : ∀ s : State, Served s (grantUrgent n s) := by
  induction n with
  | zero => exact fun s => Inner.refl s
  | succ n ih =>
    intro s
    unfold grantUrgent
    split
    · exact (served_grantRow s).trans (ih _)
    · exact Inner.refl s

theorem inner_serveUrgent (s : State) : Inner s (serveUrgent s) := by
  have served : Served s (serveUrgent s) := served_grantUrgent rowFuel s
  rwa [Served, serveUrgent_mem] at served

theorem served_requested (s : State) (off : Nat) (v : BitVec 32) : Served s (requested s off v) :=
  (inner_serveUrgent s).served.trans (served_store _ _ _)

/-! ## What every command keeps of the invariants -/

/-- Each invariant of `s` holds of `t`. -/
structure Keeps (s t : State) : Prop where
  form : Memory.wf s.mem = true → Memory.wf t.mem = true := by exact id
  strobes : StrobeSafe s → StrobeSafe t := by exact fun h => h.congr
  offer : OfferRight s → OfferRight t := by exact id
  free : FreeCountRight s → FreeCountRight t := by exact id
  bounded : Bounded s → Bounded t := by exact fun h => h.congr

theorem Keeps.refl (s : State) : Keeps s s := {}

theorem Keeps.trans {s t u : State} (h : Keeps s t) (k : Keeps t u) : Keeps s u where
  form := k.form ∘ h.form
  strobes := k.strobes ∘ h.strobes
  offer := k.offer ∘ h.offer
  free := k.free ∘ h.free
  bounded := k.bounded ∘ h.bounded

theorem Keeps.after {s t u : State} (k : Keeps t u) (h : Keeps s t) : Keeps s u := h.trans k

theorem Inner.keeps {s t : State} (h : Inner s t) : Keeps s t where
  form := h.mem ▸ id
  strobes := h.strobes
  offer := h.offer
  free := h.free
  bounded := h.bounded

theorem Served.keeps {s t : State} (h : Served s t)
    (form : Memory.wf s.mem = true → Memory.wf t.mem = true) : Keeps s t where
  form := form
  strobes x := Inner.strobes h x.congr
  offer x := Inner.offer h x
  free x := Inner.free h x
  bounded x := Inner.bounded h x.congr

/-! ### The port and the processor's cycles -/

theorem keeps_grantNext (s : State) : Keeps s (grantNext s) :=
  (served_grantNext s).keeps (grantNext_wf s)

theorem keeps_grantAll (p : Transfer → Bool) (s : State) : Keeps s (grantAll p s) :=
  grantAll_keeps (Keeps s) (fun _ h => h.trans (keeps_grantNext _)) p s (.refl s)

theorem keeps_grantOne (p : Transfer → Bool) (s : State) : Keeps s (grantOne p s) :=
  grantOne_keeps (Keeps s) (fun _ h => h.trans (keeps_grantNext _)) p s (.refl s)

theorem keeps_store (a : Nat) (b : List Byte) (s : State) : Keeps s (s.store a b) :=
  (served_store a b s).keeps fun h => State.store_wf h a b

theorem keeps_requested (s : State) (off : Nat) (v : BitVec 32) : Keeps s (requested s off v) :=
  (inner_serveUrgent s).keeps.trans (keeps_store _ _ _)

theorem keeps_setMasks (v : BitVec 32) (s : State) : Keeps s (setMasks v s) where
  form := by rw [setMasks_mem]; exact id
  strobes h := h.congr (by rw [setMasks_hdu]) (by rw [setMasks_hdu]) (by rw [setMasks_hdu])
    (by rw [setMasks_hdu]) (by rw [setMasks_htu]) (by rw [setMasks_msu]) (by rw [setMasks_msu])
  offer _ := recomputeOffer_right _ _
  free := by rw [FreeCountRight, FreeCountRight, setMasks_bht]; exact id
  bounded h := h.congr (setMasks_rsu v s) (by rw [setMasks_msu]) (by rw [setMasks_msu])
    (setMasks_bpu_engagement v s)

/-- R39: beyond the ring's producer index, and the producer latch while ENGAGING, a producer value is the
part's own work. -/
theorem inner_takeProducer (v : Idx) (s : State) :
    Inner { s with rrd.producer := (takeProducer v s).rrd.producer } (takeProducer v s) := by
  unfold takeProducer
  extract_lets doom
  split
  · exact { strobes := fun h => h.congr, bounded := fun h => h.congr }
  · rw [raise_rrd]
    exact inner_raise _ _ _ s

theorem keeps_takeProducer (v : Idx) (s : State) : Keeps s (takeProducer v s) :=
  Keeps.trans (t := { s with rrd.producer := (takeProducer v s).rrd.producer }) {}
    (inner_takeProducer v s).keeps

theorem keeps_takeProducerWord (v : BitVec 32) (s : State) : Keeps s (takeProducerWord v s) := by
  unfold takeProducerWord
  split
  · exact .refl s
  · exact keeps_takeProducer _ s
  · split
    · exact .refl s
    · exact {}

/-! ### Engage -/

/-- The engine state changes at a RESTART with nothing pending, so the offer follows it. -/
theorem Inner.withEngine {s t : State} (h : Inner s t) (e : Engine)
    (right : OfferRight { t with lcu.engine := e }) :
    Inner { s with lcu.engine := e } { t with lcu.engine := e } :=
  { h with configured := rfl, offer := fun _ => right
           strobes := fun x => (h.strobes x.congr).congr
           bounded := fun x => (h.bounded x.congr).congr }

theorem inner_setEngine_from (e : Engine) (s : State) :
    Inner { s with lcu.engine := e } (setEngine e s) := by
  unfold setEngine
  split
  next same => subst same; exact .refl s
  · refine .after (inner_requestRefresh _) ?_
    split
    · exact inner_clearDwell _
    · exact .refl _

theorem offerOf_none {s : State} (h : ∀ n, (s.asu.records.get n).pending = false) :
    offerOf s = none := by
  unfold offerOf
  split
  · rw [List.find?_eq_none]
    intro n _
    simp [Asu.eligible, h n]
  · rfl

theorem restartFlags_pending_none (s : State) (n : Source) :
    ((restartFlags s).asu.records.get n).pending = false := by
  unfold restartFlags
  rw [recomputeOffer_asu]
  cases n <;> rfl

theorem restartPart_right (s : State) (e : Engine) :
    OfferRight { restartFlags (restartUnits s) with lcu.engine := e } := by
  have none_pending := restartFlags_pending_none (restartUnits s)
  have offered : (restartFlags (restartUnits s)).asu.offer = offerOf (restartFlags (restartUnits s)) := 
    (recomputeOffer_right none _)
  rw [offerOf_none none_pending] at offered
  exact offered.trans (offerOf_none (s := { restartFlags (restartUnits s) with lcu.engine := e })
    none_pending).symm

/-- R81: RESTART, also from a state that no engage has configured. -/
theorem inner_restartPart_from (s : State) :
    Inner { s with lcu.engine := restState (restartUnits s).lcu.faults } (restartPart s) := by
  rw [restartPart_eq]
  exact .after (inner_setEngine_from _ _) <|
    (Inner.after (inner_restartFlags _) (inner_restartUnits s)).withEngine _ (restartPart_right s _)

theorem restartPart_offerRight (s : State) : OfferRight (restartPart s) := by
  rw [restartPart_eq]
  exact (inner_setEngine_from _ _).offer (restartPart_right s _)

@[simp] theorem restartPart_rsu (s : State) : (restartPart s).rsu = Rsu.flushed := by
  rw [restartPart_eq, setEngine_rsu, restartFlags_rsu]
  rfl

/-- R23: ENGAGING begins with the line buffer empty. -/
theorem inner_beginEngage {s t : State} (h : Inner s t) (empty : t.rsu.buffer = []) :
    Inner { s with bpu.engagement := .engaging } (beginEngage t) :=
  { h with engagement := rfl
           strobes := fun x => (h.strobes x.congr).congr
           bounded := fun x =>
             have y : Bounded t :=
               h.bounded ⟨x.queue, x.buffer, x.edges, x.passed, fun _ => x.quiet nofun⟩
             ⟨y.queue, y.buffer, y.edges, y.passed, fun _ => empty⟩ }

theorem keeps_beginEngage (s : State) (empty : Bounded s → s.rsu.buffer = []) :
    Keeps s (beginEngage s) where
  bounded h := ⟨h.queue, h.buffer, h.edges, h.passed, fun _ => empty h⟩

theorem keeps_restartPart (s : State) : Keeps s (restartPart s) where
  form := (inner_restartPart_from s).mem ▸ id
  strobes h := (inner_restartPart_from s).strobes h.congr
  offer _ := restartPart_offerRight s
  free h := (inner_restartPart_from s).free h
  bounded h := (inner_restartPart_from s).bounded h.congr

theorem keeps_takeEngage (s : State) : Keeps s (takeEngage s) := by
  unfold takeEngage
  split
  next e => exact keeps_beginEngage s fun h => h.quiet (by rw [e]; decide)
  · exact .refl s
  · exact (keeps_restartPart s).trans (keeps_beginEngage _ fun _ => by rw [restartPart_rsu]; rfl)

theorem keeps_actOn (off : Nat) (v : BitVec 32) (s : State) : Keeps s (actOn off v s) := by
  unfold actOn
  split
  · split
    · exact (keeps_takeEngage s).trans (inner_settle _).keeps
    · exact .refl s
  · split
    · exact .refl s
    · exact (inner_takeControl v s).keeps
  · exact (keeps_takeProducerWord v s).trans (inner_settle _).keeps
  · exact keeps_setMasks v s
  · exact (inner_endService s).keeps
  · exact .refl s

theorem keeps_requestWrite (off : Nat) (v : BitVec 32) (s : State) : Keeps s (requestWrite off v s) := by
  unfold requestWrite
  split
  · exact ((inner_serveUrgent s).keeps.trans (keeps_store _ _ _)).trans (keeps_actOn _ _ _)
  · exact .refl s

theorem keeps_carryWrite (w : Width) (a : Addr) (data : BitVec 32) (s : State) :
    Keeps s (carryWrite w a data s) := by
  unfold carryWrite
  extract_lets at_ bytes
  split
  · unfold lateCycle
    split
    · exact (keeps_store _ _ s).trans (inner_raise _ _ _ _).keeps
    · exact (inner_raise _ _ _ s).keeps
  · refine .trans (keeps_store at_ bytes s) ?_
    unfold watchCycle
    split
    · split
      · exact keeps_actOn _ _ _
      · exact .refl _
    · exact .refl _

/-! ### The end of an engage and the settings -/

theorem keeps_refuseEngage (n : Nat) (s : State) (engaging : s.bpu.engagement = .engaging) :
    Keeps s (refuseEngage n s) := by
  unfold refuseEngage
  extract_lets s1 _ _ _ s2
  have h : Inner { s2 with lcu.engine := .unconfigured } (requestRefresh (setEngine .unconfigured s2)) :=
    .after (inner_requestRefresh _) (inner_setEngine_from _ s2)
  have quiet : s.bpu.engagement ≠ .engaged := by rw [engaging]; decide
  exact {
    form := h.mem ▸ id
    strobes := fun x => h.strobes x.congr
    offer := fun _ => h.offer rfl
    free := fun _ => h.free rfl
    bounded := fun x => h.bounded ⟨x.queue, x.buffer, x.edges, x.passed, fun _ => x.quiet quiet⟩ }

theorem keeps_completeGeometry (s : State) : Keeps s (completeGeometry s) := by
  unfold completeGeometry
  split
  next awaits =>
    have engaging : s.bpu.engagement = .engaging := by
      rw [awaitsGeometry, Bool.and_eq_true, beq_iff_eq] at awaits
      exact awaits.1
    refine .trans (keeps_grantAll Transfer.isGeometry s) ?_
    unfold checkGeometry
    extract_lets g n
    split
    · exact {}
    · exact keeps_refuseEngage _ _ ((grantAll_bpu_engagement _ s).trans engaging)
  · exact .refl s

theorem keeps_reportClamped (n : Nat) (s : State) : Keeps s (reportClamped n s) :=
  (inner_reportClamped n s).keeps

theorem keeps_succeedEngage (g : Geometry) (s : State) : Keeps s (succeedEngage g s) := by
  unfold succeedEngage
  extract_lets c n p s1 s2 s3
  let e := restState s1.lcu.faults
  have base : Keeps s (requestVector (recomputeOffer none (setEngine e s1))) := by
    have h : Inner { s1 with lcu.engine := e } (setEngine e s1) := inner_setEngine_from e s1
    have offered : Inner (setEngine e s1) (recomputeOffer none (setEngine e s1)) := inner_recomputeOffer _ _ _
    have asked := inner_requestVector (recomputeOffer none (setEngine e s1))
    have all := (h.trans offered).trans asked
    exact {
      form := all.mem ▸ id
      strobes := fun x => all.strobes x.congr
      offer := fun _ => asked.offer (recomputeOffer_right _ _)
      free := fun _ => all.free (by simp [FreeCountRight, s1, putSettings, engageUnits, Bht.engaged, List.countP_replicate])
      bounded := fun x => all.bounded ⟨x.queue, x.buffer, Nat.zero_le _, Nat.zero_le _,
        fun c => absurd rfl c⟩ }
  have reported : Keeps s s3 := base.trans (keeps_reportClamped n _)
  split
  · exact reported.trans (keeps_takeProducer _ _)
  · exact reported

theorem keeps_completeEngage (s : State) : Keeps s (completeEngage s) := by
  unfold completeEngage
  split
  · split
    · exact (keeps_grantAll _ s).trans (keeps_succeedEngage _ _)
    · exact .refl s
  · exact .refl s

/-- R53, R160: from the settings put into effect, a re-read is the part's own work. -/
theorem inner_applyReread (i : Idx) (bytes : List Byte) (s : State) :
    Inner (putSettings (readSettings s.geo bytes) (firstClamped s.geo bytes) s)
      (applyReread i bytes s) := by
  unfold applyReread
  extract_lets c n s1 s2 s3
  have ramps : Inner (putSettings c n s) s1 := .after (inner_takeRamps _ _) (inner_reportClamped _ _)
  have done : Inner (putSettings c n s) s3 := .after (inner_completeItem _ _ _ _) <|
    .after (inner_judgeMedia _ _ _ _) ramps
  exact .after (inner_judgeTimers _) (done.trans {})

theorem keeps_putSettings (c : Settings) (n : Nat) (s : State) : Keeps s (putSettings c n s) := {}

theorem keeps_completeReread (s : State) : Keeps s (completeReread s) := by
  unfold completeReread
  split
  · exact ((keeps_grantAll _ s).trans (keeps_putSettings _ _ _)).trans (inner_applyReread _ _ _).keeps
  · exact .refl s

theorem served_completeFetch (s : State) : Served s (completeFetch s) := by
  unfold completeFetch
  extract_lets s1
  have granted : Served s s1 := served_grantAll _ s
  split
  · split
    · exact granted.trans (Inner.served {})
    · exact granted.trans (Inner.after (inner_labelArrives _) (inner_parseItem _ _)).served
  · exact Inner.refl s

theorem served_completeFormat (s : State) : Served s (completeFormat s) := by
  unfold completeFormat
  split
  · exact (served_grantAll _ s).trans (Inner.served {})
  · exact (served_grantAll _ s).trans (Inner.served {})
  · exact Inner.refl s

/-! ### The head's bursts -/

@[simp] theorem Hdu.beginBurst_state (h : Hdu) (n b : Nat) : (h.beginBurst n b).state = h.state := by
  unfold Hdu.beginBurst
  split <;> rfl

@[simp] theorem Hdu.beginBurst_fired (h : Hdu) (n b : Nat) : (h.beginBurst n b).fired = h.fired := by
  unfold Hdu.beginBurst
  split <;> rfl

@[simp] theorem Hdu.beginBurst_latch (h : Hdu) (n b : Nat) : (h.beginBurst n b).latch = h.latch := by
  unfold Hdu.beginBurst
  split <;> rfl

@[simp] theorem Hdu.beginBurst_register (h : Hdu) (n b : Nat) :
    (h.beginBurst n b).register = h.register := by
  unfold Hdu.beginBurst
  split <;> rfl

/-- The burst counter, the strobes and the shift of an ACTIVE head may change. -/
theorem Inner.activeHead {s t : State} {h : Hdu} (k : Inner s t)
    (active : StrobeSafe s → t.hdu.state = .active) (state : h.state = t.hdu.state)
    (fired : h.fired = t.hdu.fired) (latch : h.latch = t.hdu.latch)
    (register : h.register = t.hdu.register) : Inner s { t with hdu := h } :=
  { k with
    fired := fired.trans k.fired
    headLatch := latch.trans k.headLatch
    register := register.trans k.register
    strobes := fun x =>
      have now : h.state = .active := state.trans (active x)
      have y := k.strobes x
      ⟨fun e => absurd now e, fun e => absurd now e, fun e => absurd now e,
        fun _ => y.allowed (active x), y.unknown⟩
    bounded := fun x => (k.bounded x).congr }

/-- Work that keeps the latch and the total may start from others. -/
theorem Inner.withFired {s t : State} (h : Inner s t) (l : Option Dots) (n : BitVec 32) :
    Inner { s with hdu := { s.hdu with latch := l, fired := n } }
      { t with hdu := { t.hdu with latch := l, fired := n } } :=
  { h with fired := rfl, headLatch := rfl
           strobes := fun x => (h.strobes x.congr).congr
           bounded := fun x => (h.bounded x.congr).congr }

/-- Work that keeps the latch and the total is work from the state with its own latch and total. -/
theorem Inner.fromFired {s t : State} (h : Inner s t) :
    Inner { s with hdu := { s.hdu with latch := t.hdu.latch, fired := t.hdu.fired } } t := by
  rw [h.headLatch, h.fired]
  exact h

theorem inner_reportFired (s : State) :
    Inner { s with hdu.fired := s.hdu.fired + 1 } (reportFired s) := {}

/-- R125: a latched slice changes the latch and the total of fired lines of an ACTIVE head; what else it does
is the part's own work. -/
theorem Inner.latchSlice {r s : State} (k : Inner r s) (n : Nat)
    (active : StrobeSafe r → s.hdu.state = .active) :
    Inner { r with hdu := { r.hdu with latch := (latchSlice n s).hdu.latch
                                       fired := (latchSlice n s).hdu.fired } } (latchSlice n s) := by
  unfold Machine.latchSlice
  split
  · exact k.fromFired
  next x _ =>
    dsimp only
    split
    · exact .after (inner_reportFired _) <|
        (k.withFired _ _).activeHead (fun h => active h.congr) (by simp) rfl rfl (by simp)
    · exact (k.withFired _ _).activeHead (fun h => active h.congr) (by simp) rfl rfl (by simp)

theorem active_of_firing {s : State} {f : Firing} (hf : s.hdu.firing = some f) (h : StrobeSafe s) :
    s.hdu.state = .active := by
  by_contra e
  rw [h.firing e] at hf
  exact nomatch hf

theorem active_of_shifting {s : State} (hf : s.hdu.shift ≠ .idle) (h : StrobeSafe s) :
    s.hdu.state = .active := by
  by_contra e
  exact hf (h.shift e)

theorem inner_completeShift (s : State) :
    Inner { s with hdu := { s.hdu with latch := (completeShift s).hdu.latch
                                       fired := (completeShift s).hdu.fired
                                       register := (completeShift s).hdu.register } }
      (completeShift s) := by
  unfold completeShift
  split
  next n _ hs =>
    have active : StrobeSafe s → s.hdu.state = .active := active_of_shifting (by rw [hs]; nofun)
    dsimp only
    split
    · have latched := (Inner.refl (shiftRest s)).latchSlice n fun h => active h.congr
      rw [latched.register]
      exact .trans {
        strobes := fun h => h.congr
        bounded := fun h => h.congr } latched
    · exact (Inner.refl _).activeHead (fun h => active h.congr) rfl rfl rfl rfl
  · exact .refl s

theorem inner_endSlice (n : Nat) (s : State) (active : StrobeSafe s → s.hdu.state = .active) :
    Inner { s with hdu := { s.hdu with latch := (endSlice n s).hdu.latch
                                       fired := (endSlice n s).hdu.fired } } (endSlice n s) := by
  have ended : Inner s { s with hdu.firing := none } := (Inner.refl s).activeHead active rfl rfl rfl rfl
  unfold endSlice
  dsimp only
  split
  · exact (ended.trans (inner_endLine _)).fromFired
  · split
    · exact ended.latchSlice (n + 1) active
    · exact ended.fromFired

theorem inner_compareB (s : State) :
    Inner { s with hdu := { s.hdu with latch := (compareB s).hdu.latch
                                       fired := (compareB s).hdu.fired } } (compareB s) := by
  unfold compareB
  split
  next f hf =>
    have active := active_of_firing hf
    split
    · exact .refl s
    · split
      · exact ((Inner.refl s).activeHead active (by simp) (by simp) (by simp) (by simp)).fromFired
      · exact inner_endSlice _ s active
  · exact .refl s

/-! ### The switch, the converter and the clocks -/

/-- R164: what a sample of the switch can do to the switch's registers. -/
theorem Msu.sampleSwitch_cases (m : Msu) (x : Bool) :
    (m.sampleSwitch x).1 = { m with
      headOpen := (m.sampleSwitch x).1.headOpen, agree := (m.sampleSwitch x).1.agree
      lastSample := (m.sampleSwitch x).1.lastSample
      switchKnown := (m.sampleSwitch x).1.switchKnown } ∧
    ((m.sampleSwitch x).2 = true → (m.sampleSwitch x).1.switchKnown = true) ∧
    ((m.sampleSwitch x).2 = false →
      (m.sampleSwitch x).1.headOpen = m.headOpen ∧
        (m.sampleSwitch x).1.switchKnown = m.switchKnown ∨
      m.switchKnown = false ∧ (m.sampleSwitch x).1.switchKnown = true) := by
  unfold Msu.sampleSwitch
  split
  next new =>
    have unknown : m.switchKnown = false := by simpa using new
    split
    · exact ⟨rfl, nofun, fun _ => .inr ⟨unknown, rfl⟩⟩
    · exact ⟨rfl, nofun, fun _ => .inl ⟨rfl, rfl⟩⟩
  next old =>
    have known : m.switchKnown = true := by simpa using old
    split
    · exact ⟨rfl, nofun, fun _ => .inl ⟨rfl, rfl⟩⟩
    · split
      · exact ⟨rfl, fun _ => known, nofun⟩
      · exact ⟨rfl, nofun, fun _ => .inl ⟨rfl, rfl⟩⟩

theorem inner_headOpens (s : State) : Inner s (headOpens s) := by
  unfold headOpens
  extract_lets s1
  have opened : Inner s s1 := inner_msu (fun _ => Nat.zero_le _) fun _ => Nat.zero_le _
  split
  · exact opened.trans (inner_reportFault _ _)
  · exact opened.trans (inner_raise _ _ _ _)

/-- R126, R165: an opening is the part's own work once the ACTIVE line has been cut. -/
theorem inner_headChanged_open {s : State} (h : s.msu.headOpen = true) :
    Inner (cutActive s) (headChanged s) := by
  unfold headChanged
  rw [if_pos h]
  extract_lets s1
  have noted : Inner (cutActive s) s1 := {}
  split
  · exact noted.trans (inner_headOpens _)
  · exact noted

theorem inner_headChanged (s : State) : Inner s (headChanged s) := by
  by_cases h : s.msu.headOpen = true
  case pos => exact (inner_cutActive s).trans (inner_headChanged_open h)
  case neg =>
    unfold headChanged
    rw [if_neg h]
    extract_lets s1
    have cleared : Inner s s1 := by
      show Inner s (clearAtClosing s)
      unfold clearAtClosing
      extract_lets s2
      have first : Inner s s2 := inner_clearFault _ s
      split
      · exact first.trans (inner_clearFault _ _)
      · exact first
    split
    · exact cleared.trans (inner_raise _ _ _ _)
    · exact cleared

theorem inner_sampleHead (x : Bool) (s : State) :
    Inner { s with msu := (s.msu.sampleSwitch x).1 } (sampleHead x s) := by
  unfold sampleHead
  dsimp only
  split
  · exact inner_headChanged _
  · exact .refl _

/-- R126: an opened head is safe with its ACTIVE line cut. -/
theorem cutActive_safe {s t : State} (h : StrobeSafe s) (hdu : t.hdu = s.hdu)
    (open_ : t.msu.headOpen = true) : StrobeSafe (cutActive t) := by
  unfold cutActive
  split
  · exact ⟨fun _ => rfl, fun _ => rfl, fun _ => rfl, (fun e => nomatch e), fun _ => open_⟩
  next idle =>
    exact ⟨hdu ▸ h.strobes, hdu ▸ h.firing, hdu ▸ h.shift, fun e => absurd e idle, fun _ => open_⟩

theorem keeps_sampleHead (x : Bool) (s : State) : Keeps s (sampleHead x s) := by
  have work := inner_sampleHead x s
  obtain ⟨same, known, quiet⟩ := s.msu.sampleSwitch_cases x
  have sameQueue : (s.msu.sampleSwitch x).1.queue = s.msu.queue := by rw [same]
  have samePassed : (s.msu.sampleSwitch x).1.passed = s.msu.passed := by rw [same]
  refine { form := work.mem ▸ id, strobes := fun h => ?_, offer := work.offer, free := work.free,
           bounded := fun h => work.bounded (h.congr (queue := sameQueue) (passed := samePassed)) }
  by_cases changed : (s.msu.sampleSwitch x).2 = true
  case neg =>
    refine work.strobes ?_
    obtain ⟨sameOpen, sameKnown⟩ | ⟨new, nowKnown⟩ := quiet (by simpa using changed)
    · exact h.congr (open_ := sameOpen) (known := sameKnown)
    · have still : s.hdu.state ≠ .active := fun e =>
        Bool.noConfusion ((h.unknown new).symm.trans (h.allowed e).2)
      exact ⟨h.strobes, h.firing, h.shift, fun e => absurd e still,
        fun e => absurd (nowKnown.symm.trans e) (by decide)⟩
  case pos =>
    have step : sampleHead x s = headChanged { s with msu := (s.msu.sampleSwitch x).1 } := by
      unfold sampleHead
      dsimp only
      rw [if_pos changed]
    by_cases opened : (s.msu.sampleSwitch x).1.headOpen = true
    · rw [step]
      exact (inner_headChanged_open opened).strobes (cutActive_safe h rfl opened)
    · refine work.strobes ⟨h.strobes, h.firing, h.shift, fun e => ⟨(h.allowed e).1, by simpa using opened⟩,
        fun e => absurd ((known changed).symm.trans e) (by decide)⟩

/-- R171 to R174: apart from what a sample sets in the temperature unit and the band, `t` follows from `s` by
the part's own work; supply and schedule stand. -/
def SampleWork (s t : State) : Prop :=
  ∃ (h : Htu) (b : Nat), h.supply = s.htu.supply ∧ h.schedule = s.htu.schedule ∧
    Inner { s with htu := h, seu.band := b } t

theorem Inner.sampleWork {s t : State} (h : Inner s t) : SampleWork s t :=
  ⟨s.htu, s.seu.band, rfl, rfl, h⟩

theorem sampleWork_gradeChanged (old : Grade) (s : State) : SampleWork s (gradeChanged old s) := by
  unfold gradeChanged
  split
  · split
    · exact (Inner.refl s).sampleWork
    · exact ⟨{ s.htu with trip := true }, s.seu.band, rfl, rfl, inner_reportFault _ _⟩
  · split
    · exact (inner_enterHold s).sampleWork
    · exact (Inner.refl s).sampleWork
  · unfold belowHold
    dsimp only
    split
    · exact ⟨{ s.htu with trip := false }, s.seu.band, rfl, rfl,
        .after (inner_leaveThermalHold _) (inner_clearFault _ _)⟩
    · exact (inner_leaveThermalHold s).sampleWork

theorem sampleWork_validSample (code : Byte) (s : State) : SampleWork s (validSample code s) := by
  unfold validSample
  extract_lets theta s1
  have graded : ∀ (h : Htu) (b : Nat), Inner { s with htu := h, seu.band := b }
      { s1 with htu := h, seu.band := b } := fun h b => by
    unfold s1
    split
    · exact {}
    · exact {}
  have stands : s1.htu.supply = s.htu.supply ∧ s1.htu.schedule = s.htu.schedule := by
    unfold s1
    split <;> exact ⟨rfl, rfl⟩
  obtain ⟨h, b, supply, schedule, work⟩ := sampleWork_gradeChanged s.htu.grade
    { s1 with htu.grade := nextGrade s.cfg theta s.htu.grade }
  exact ⟨h, b, supply.trans stands.1, schedule.trans stands.2, (graded h b).trans work⟩

theorem sampleWork_invalidSample (s : State) : SampleWork s (invalidSample s) := by
  unfold invalidSample
  split
  · exact ⟨{ s.htu with sensorValid := false }, s.seu.band, rfl, rfl, inner_reportFault _ _⟩
  · exact (Inner.refl s).sampleWork

theorem sampleWork_takeSample (code : Byte) (s : State) : SampleWork s (takeSample code s) := by
  unfold takeSample
  extract_lets _ s1
  have counted : ∀ {t}, SampleWork s1 t → SampleWork s t := fun h => h
  split
  · split
    · exact counted (sampleWork_invalidSample _)
    · exact counted (sampleWork_validSample _ _)
  · exact counted (Inner.refl _).sampleWork

theorem SampleWork.keeps {s t : State} (h : SampleWork s t) : Keeps s t := by
  obtain ⟨h, b, supply, -, work⟩ := h
  exact { form := work.mem ▸ id, strobes := fun x => work.strobes (x.congr (supply := supply))
          offer := work.offer, free := work.free, bounded := fun x => work.bounded x.congr }

theorem keeps_periodicRequest (s : State) : Keeps s (periodicRequest s) := by
  unfold periodicRequest
  split
  · exact {}
  · exact .refl s

theorem inner_statusPeriod (s : State) :
    Inner { s with asu.statusTimer := (statusPeriod s).asu.statusTimer } (statusPeriod s) := by
  unfold statusPeriod
  split
  · dsimp only
    split
    · exact .refl _
    · rw [requestRefresh_asu]
      exact inner_requestRefresh _
  · exact .refl s

theorem keeps_statusPeriod (s : State) : Keeps s (statusPeriod s) :=
  Keeps.trans (t := { s with asu.statusTimer := (statusPeriod s).asu.statusTimer }) {}
    (inner_statusPeriod s).keeps

theorem keeps_completeShift (s : State) : Keeps s (completeShift s) :=
  Keeps.after (inner_completeShift s).keeps {}

theorem keeps_compareB (s : State) : Keeps s (compareB s) :=
  Keeps.after (inner_compareB s).keeps {}

/-- R121, R123: an idle head stays idle through a tick. -/
theorem keeps_tickHead (s : State) :
    Keeps s { s with mtu.timer := s.mtu.timer.map LineTimer.tick, hdu := s.hdu.tick s.geo.dots } where
  strobes h := ⟨h.strobes, fun e => by simp [Hdu.tick, h.firing e],
    fun e => by simp [Hdu.tick, h.shift e, Shift.tick], h.allowed, h.unknown⟩

theorem keeps_tick (s : State) : Keeps s (tick s) := by
  unfold tick
  dsimp only
  split
  · exact (keeps_tickHead s).trans {}
  · exact (keeps_tickHead s).trans {}

theorem keeps_idle (s : State) : Keeps s (idle s) := (keeps_grantNext s).trans (keeps_tick _)

/-! ### Reset -/

/-- Settles O53: the invariants at reset. -/
theorem resetInvariants : Obligations.ResetInvariants := by
  refine ⟨rfl, ⟨fun _ => rfl, fun _ => rfl, fun _ => rfl, nofun, fun _ => rfl⟩, rfl, rfl, ?_⟩
  exact ⟨Nat.zero_le _, Nat.zero_le _, Nat.zero_le _, Nat.zero_le _, fun _ => rfl⟩

theorem keeps_resetKeeping (s : State) : Keeps s (resetKeeping s) := by
  obtain ⟨-, strobes, offer, free, bounded⟩ := resetInvariants
  exact { strobes := fun _ => strobes.congr, offer := fun _ => offer, free := fun _ => free
          bounded := fun _ => bounded.congr }

theorem keeps_releaseReset (x y : Bool) (s : State) : Keeps s (releaseReset x y s) := by
  unfold releaseReset
  split
  · exact {}
  · exact .refl s

/-! ## Every command and every step -/

theorem keeps_controlWrite (v : BitVec 32) (s : State) : Keeps s (controlWrite v s) :=
  keeps_requestWrite 4 v s

/-- A command that is judged and then settled, or leaves the state. -/
theorem inner_settledIf {p : Prop} [Decidable p] {s t : State} (h : p → Inner s t) :
    Inner s (if p then settle t else s) := by
  split
  next holds => exact (h holds).trans (inner_settle t)
  · exact .refl s

theorem inner_copyStart (s : State) :
    Inner s (if copyStartReady s then settle (startCopy s) else s) := by
  refine inner_settledIf fun ready => inner_startCopy (configured_of_engine (e := .arming) ?_)
  simp only [copyStartReady, Bool.and_eq_true, beq_iff_eq] at ready
  exact ready.1.1.1.1.1.1

theorem inner_stallRestart (s : State) :
    Inner s (if stallRestartReady s then settle (startPrinting s) else s) := by
  refine inner_settledIf fun ready => inner_startPrinting (configured_of_engine (e := .stalled) ?_)
  rw [stallRestartReady, Bool.and_eq_true, beq_iff_eq] at ready
  exact ready.1

theorem inner_coolTimeExpiry (s : State) :
    Inner s (if s.seu.restTimer.isSome then settle (coolDown s) else s) :=
  inner_settledIf fun _ => inner_coolDown s

theorem inner_dwellExpiry (s : State) : Inner s (if dwellRuns s then settle (dwellOff s) else s) :=
  inner_settledIf fun _ => inner_dwellOff s

theorem keeps_settle (s : State) : Keeps s (settle s) := (inner_settle s).keeps

theorem inner_readVector (s : State) : Inner s (readVector s) := by
  unfold readVector
  split
  · exact (inner_serveUrgent s).trans (inner_acknowledge _ _)
  · exact .refl s

theorem completeFetch_wf {s : State} (h : Memory.wf s.mem = true) :
    Memory.wf (completeFetch s).mem = true := by
  have granted := (keeps_grantAll (fun t => t == .item) s).form h
  unfold completeFetch
  dsimp only
  split
  · split
    · exact granted
    · rw [(Inner.after (inner_labelArrives _) (inner_parseItem _ _)).mem]
      exact granted
  · exact h

theorem completeFormat_wf {s : State} (h : Memory.wf s.mem = true) :
    Memory.wf (completeFormat s).mem = true := by
  unfold completeFormat
  split
  · exact (keeps_grantAll _ s).form h
  · exact (keeps_grantAll _ s).form h
  · exact h

/-- Every command keeps every invariant. -/
theorem exec_keeps (c : Instr) {s t : State} (h : exec c s = .next t) : Keeps s t := by
  cases c <;> obtain rfl := Host.Outcome.next.inj h
  case resetAssert => exact keeps_resetKeeping s
  case resetRelease => exact keeps_releaseReset _ _ s
  case engage => exact keeps_requestWrite _ _ s
  case geometryCheck => exact (keeps_completeGeometry s).trans (keeps_settle _)
  case engageSuccess => exact (keeps_completeEngage s).trans (keeps_settle _)
  case pause => exact keeps_controlWrite _ s
  case resume => exact keeps_controlWrite _ s
  case cancelLabel => exact keeps_controlWrite _ s
  case cancelAll => exact keeps_controlWrite _ s
  case restart => exact keeps_controlWrite _ s
  case status => exact keeps_controlWrite _ s
  case otherControlCode => exact keeps_controlWrite _ s
  case producerWrite => exact keeps_requestWrite _ _ s
  case maskWordWrite => exact keeps_requestWrite _ _ s
  case endOfService => exact keeps_requestWrite _ _ s
  case acknowledge => exact (inner_readVector s).keeps
  case processorWrite => exact (inner_serveUrgent s).keeps.trans (keeps_carryWrite _ _ _ _)
  case itemFetchComplete =>
    exact ((served_completeFetch s).keeps completeFetch_wf).trans (keeps_settle _)
  case segmentHandover => exact (inner_handSegment s).keeps.trans (keeps_settle _)
  case operationHandover => exact (inner_handOperation s).keeps.trans (keeps_settle _)
  case settingsRereadComplete => exact (keeps_completeReread s).trans (keeps_settle _)
  case formatRecordRead =>
    exact ((served_completeFormat s).keeps completeFormat_wf).trans (keeps_settle _)
  case rowFetchComplete => exact (inner_completeRow s).keeps.trans (keeps_settle _)
  case outcomeWrite => exact keeps_grantOne _ s
  case vectorWordWrite => exact keeps_grantAll _ s
  case statusRefresh => exact keeps_grantOne _ s
  case statusTimer => exact keeps_statusPeriod s
  case linePeriodExpiry => exact (inner_linePeriodExpires s).keeps.trans (keeps_settle _)
  case copyStart => exact (inner_copyStart s).keeps
  case stallRestart => exact (inner_stallRestart s).keeps
  case shiftComplete => exact keeps_completeShift s
  case burstCompareA => exact (inner_compareA s).keeps
  case burstCompareB => exact (keeps_compareB s).trans (keeps_settle _)
  case coolTimeExpiry => exact (inner_coolTimeExpiry s).keeps
  case lineSensing => exact (inner_senseForward _ _ _ s).keeps.trans (keeps_settle _)
  case hopenSample =>
    split
    · exact .refl s
    · exact (keeps_sampleHead _ s).trans (keeps_settle _)
  case periodicConversion => exact keeps_periodicRequest s
  case conversionSample => exact (sampleWork_takeSample _ s).keeps.trans (keeps_settle _)
  case settleExpiry => exact (inner_settleExpires _ s).keeps.trans (keeps_settle _)
  case psgdFall => exact (inner_psgdFalls s).keeps.trans (keeps_settle _)
  case dwellExpiry => exact (inner_dwellExpiry s).keeps

/-- Every step keeps every invariant, whether it runs a command or idles. -/
theorem step_keeps {s t : State} (h : step s = .next t) : Keeps s t := by
  cases hp : s.pending with
  | nil =>
    rw [step_nil hp] at h
    cases h
    exact keeps_idle s
  | cons c rest =>
    rw [step_cons hp] at h
    exact Keeps.after (exec_keeps c h) {}

/-- Settles O54: every step keeps every invariant (`step_keeps`). -/
theorem stepKeepsMemoryForm : Obligations.StepKeepsMemoryForm :=
  fun _ _ form h => (step_keeps h).form form

/-- Settles O55. -/
theorem stepKeepsStrobesSafe : Obligations.StepKeepsStrobesSafe :=
  fun _ _ safe h => (step_keeps h).strobes safe

/-- Settles O56. -/
theorem stepKeepsOfferRight : Obligations.StepKeepsOfferRight :=
  fun _ _ right h => (step_keeps h).offer right

/-- Settles O57. -/
theorem stepKeepsCounts : Obligations.StepKeepsCounts :=
  ⟨fun _ _ free h => (step_keeps h).free free, fun _ _ bounded h => (step_keeps h).bounded bounded⟩

/-! ## Which commands change which registers -/

/-- The registers that only named commands change. -/
structure Registers where
  pending : List Instr
  settings : Option Settings
  prescaler : Nat
  resetLine : Bool
  straps : Option (BitVec 2)
  geometry : Option Geometry
  guard : GuardMode
  engagement : Engagement
  producerLatch : Option Idx
  producer : Idx
  masks : PerSource Bool
  statusTimer : Option Nat
  engageResult : EngageResult
  offendingField : Nat
  settingsResult : Nat
  theta : Int
  grade : Grade
  trip : Bool
  sensorValid : Bool
  schedule : Option Nat
  band : Nat
  fired : BitVec 32
  headLatch : Option Dots
  register : Dots
  headOpen : Bool
  agree : Nat
  lastSample : Option Bool
  switchKnown : Bool

def State.registers (s : State) : Registers :=
  { pending := s.pending, settings := s.settings, prescaler := s.prescaler
    resetLine := s.bpu.resetLine, straps := s.bpu.straps, geometry := s.bpu.geometry
    guard := s.bpu.guard, engagement := s.bpu.engagement, producerLatch := s.bpu.latch
    producer := s.rrd.producer, masks := s.asu.masks, statusTimer := s.asu.statusTimer
    engageResult := s.asu.engageResult, offendingField := s.asu.offendingField
    settingsResult := s.asu.settingsResult, theta := s.htu.theta, grade := s.htu.grade
    trip := s.htu.trip, sensorValid := s.htu.sensorValid, schedule := s.htu.schedule
    band := s.seu.band, fired := s.hdu.fired, headLatch := s.hdu.latch
    register := s.hdu.register, headOpen := s.msu.headOpen, agree := s.msu.agree
    lastSample := s.msu.lastSample, switchKnown := s.msu.switchKnown }

theorem Inner.registers {s t : State} (h : Inner s t) : t.registers = s.registers := by
  simp only [State.registers, Registers.mk.injEq]
  exact ⟨h.pending, h.settings, h.prescaler, h.resetLine, h.straps, h.geometry, h.guard, h.engagement,
    h.producerLatch, h.producer, h.masks, h.statusTimer, h.engageResult, h.offendingField,
    h.settingsResult, h.theta, h.grade, h.trip, h.sensorValid, h.schedule, h.band, h.fired, h.headLatch,
    h.register, h.headOpen, h.agree, h.lastSample, h.switchKnown⟩

theorem Served.registers {s t : State} (h : Served s t) : t.registers = s.registers :=
  Inner.registers (s := { s with mem := t.mem }) h

@[simp] theorem settle_registers (s : State) : (settle s).registers = s.registers :=
  (inner_settle s).registers

@[simp] theorem grantAll_registers (p : Transfer → Bool) (s : State) :
    (grantAll p s).registers = s.registers := (served_grantAll p s).registers

@[simp] theorem requested_registers (s : State) (off : Nat) (v : BitVec 32) :
    (requested s off v).registers = s.registers := (served_requested s off v).registers

/-! ### Requests -/

/-- R23: an engage request changes the engagement alone. -/
theorem takeEngage_registers (s : State) :
    ∃ e, (takeEngage s).registers = { s.registers with engagement := e } := by
  unfold takeEngage
  split
  · exact ⟨.engaging, rfl⟩
  · exact ⟨s.bpu.engagement, rfl⟩
  · refine ⟨.engaging, ?_⟩
    have kept : (restartPart s).registers = s.registers := (inner_restartPart_from s).registers
    rw [← kept]
    rfl

/-- R21, R39: a producer word changes the latch and the producer index alone. -/
theorem takeProducerWord_registers (v : BitVec 32) (s : State) :
    ∃ l p, (takeProducerWord v s).registers =
      { s.registers with producerLatch := l, producer := p } := by
  unfold takeProducerWord
  extract_lets i
  split
  · exact ⟨s.bpu.latch, s.rrd.producer, rfl⟩
  · exact ⟨s.bpu.latch, _, (inner_takeProducer i s).registers⟩
  · split
    · exact ⟨s.bpu.latch, s.rrd.producer, rfl⟩
    · exact ⟨some i, s.rrd.producer, rfl⟩

theorem setMasks_registers (v : BitVec 32) (s : State) :
    (setMasks v s).registers = { s.registers with masks := masksOf v } := by
  simp [State.registers, setMasks]

/-- R20: what a watched word can change. -/
theorem actOn_registers (off : Nat) (v : BitVec 32) (s : State) :
    ∃ e l p m, (actOn off v s).registers =
      { s.registers with engagement := e, producerLatch := l, producer := p, masks := m } := by
  have same : ∃ e l p m, s.registers =
      { s.registers with engagement := e, producerLatch := l, producer := p, masks := m } :=
    ⟨_, _, _, _, rfl⟩
  unfold actOn
  split
  · split
    · obtain ⟨e, h⟩ := takeEngage_registers s
      exact ⟨e, _, _, _, (settle_registers _).trans h⟩
    · exact same
  · split
    · exact same
    · rwa [(inner_takeControl v s).registers]
  · obtain ⟨l, p, h⟩ := takeProducerWord_registers v s
    exact ⟨_, l, p, _, (settle_registers _).trans h⟩
  · exact ⟨_, _, _, _, setMasks_registers v s⟩
  · rwa [(inner_endService s).registers]
  · exact same

theorem carryWrite_registers (w : Width) (a : Addr) (data : BitVec 32) (s : State) :
    ∃ e l p m, (carryWrite w a data s).registers =
      { s.registers with engagement := e, producerLatch := l, producer := p, masks := m } := by
  have same : ∀ t, Served s t → ∃ e l p m, t.registers =
      { s.registers with engagement := e, producerLatch := l, producer := p, masks := m } :=
    fun t h => ⟨_, _, _, _, h.registers⟩
  unfold carryWrite
  extract_lets at_ bytes
  split
  · unfold lateCycle
    split
    · exact same _ ((served_store _ _ s).trans (inner_raise _ _ _ _).served)
    · exact same _ (inner_raise _ _ _ s).served
  · unfold watchCycle
    split
    · split
      · exact actOn_registers _ _ _
      · exact same _ (served_store _ _ s)
    · exact same _ (served_store _ _ s)

theorem served_controlWrite (v : BitVec 32) (s : State) : Served s (controlWrite v s) := by
  by_cases h : s.anchor? = none
  · rw [controlWrite, requestWrite_none h]
    exact Inner.refl s
  · rw [controlWrite, requestWrite_eq h]
    refine (served_requested s 4 v).trans (Inner.served ?_)
    rw [actOn]
    split
    · exact .refl _
    · exact inner_takeControl _ _

theorem served_endOfService (v : BitVec 32) (s : State) : Served s (requestWrite 0x014 v s) := by
  by_cases h : s.anchor? = none
  · rw [requestWrite_none h]
    exact Inner.refl s
  · rw [requestWrite_eq h]
    exact (served_requested s 0x014 v).trans (inner_endService _).served

/-! ### The end of an engage, samples and timers -/

/-- R26: what a refused engage writes into the registers. -/
theorem refuseEngage_registers (n : Nat) (s : State) : (refuseEngage n s).registers =
    { s.registers with engagement := .notEngaged, geometry := none, producerLatch := none, schedule := none
                       statusTimer := none, engageResult := .refused, offendingField := n } := by
  unfold refuseEngage
  extract_lets s1 _ _ _ s2
  exact (Inner.after (inner_requestRefresh _) (inner_setEngine_from .unconfigured s2)).registers

theorem checkGeometry_registers (s : State) : ∃ e g l n x r o, (checkGeometry s).registers =
    { s.registers with engagement := e, geometry := g, producerLatch := l, schedule := n
                       statusTimer := x, engageResult := r, offendingField := o } := by
  unfold checkGeometry
  extract_lets g n
  split
  · exact ⟨s.bpu.engagement, s.bpu.geometry, s.bpu.latch, s.htu.schedule, s.asu.statusTimer,
      s.asu.engageResult, s.asu.offendingField, rfl⟩
  · exact ⟨_, _, _, _, _, _, _, refuseEngage_registers n s⟩

theorem completeGeometry_registers (s : State) : ∃ e g l n x r o, (completeGeometry s).registers =
    { s.registers with engagement := e, geometry := g, producerLatch := l, schedule := n
                       statusTimer := x, engageResult := r, offendingField := o } := by
  have same : ∃ e g l n x r o, s.registers =
      { s.registers with engagement := e, geometry := g, producerLatch := l, schedule := n
                         statusTimer := x, engageResult := r, offendingField := o } :=
    ⟨_, _, _, _, _, _, _, rfl⟩
  unfold completeGeometry
  split
  · rw [← grantAll_registers Transfer.isGeometry s]
    exact checkGeometry_registers _
  · exact same

theorem succeedEngage_registers (g : Geometry) (s : State) :
    ∃ e q l p c u f n x r o m, (succeedEngage g s).registers =
      { s.registers with
        engagement := e, geometry := q, producerLatch := l, producer := p, settings := c, guard := u
        fired := f, schedule := n, statusTimer := x, engageResult := r, offendingField := o
        settingsResult := m } := by
  unfold succeedEngage
  extract_lets c n p s1 s2 s3
  have units : s3.registers = s1.registers :=
    (Inner.after (inner_reportClamped n _) <| .after (inner_requestVector _) <|
      .after (inner_recomputeOffer none _ _) (inner_setEngine_from _ s1)).registers
  have put : s1.registers = { s.registers with
      engagement := .engaged, geometry := some g, producerLatch := none, producer := p, settings := some c
      guard := c.guard, fired := 0, schedule := some 10, statusTimer := some 0, engageResult := .success
      offendingField := 0, settingsResult := n } := rfl
  split
  next v _ =>
    have taken : (takeProducer v s3).registers =
        { s3.registers with producer := (takeProducer v s3).rrd.producer } :=
      (inner_takeProducer v s3).registers
    exact ⟨_, _, _, _, _, _, _, _, _, _, _, _, taken.trans (by rw [units, put])⟩
  · exact ⟨_, _, _, _, _, _, _, _, _, _, _, _, units.trans put⟩

theorem completeEngage_registers (s : State) :
    ∃ e q l p c u f n x r o m, (completeEngage s).registers =
      { s.registers with
        engagement := e, geometry := q, producerLatch := l, producer := p, settings := c, guard := u
        fired := f, schedule := n, statusTimer := x, engageResult := r, offendingField := o
        settingsResult := m } := by
  unfold completeEngage
  split
  · split
    · rw [← grantAll_registers Transfer.isEngageRead s]
      exact succeedEngage_registers _ _
    · exact ⟨_, _, _, _, _, _, _, _, _, _, _, _, rfl⟩
  · exact ⟨_, _, _, _, _, _, _, _, _, _, _, _, rfl⟩

theorem completeReread_registers (s : State) : ∃ c u m, (completeReread s).registers =
    { s.registers with settings := c, guard := u, settingsResult := m } := by
  unfold completeReread
  split
  · rw [← grantAll_registers Transfer.isReread s]
    exact ⟨_, _, _, (inner_applyReread _ _ _).registers⟩
  · exact ⟨_, _, _, rfl⟩

theorem sampleHead_registers (x : Bool) (s : State) : ∃ o a l k, (sampleHead x s).registers =
    { s.registers with headOpen := o, agree := a, lastSample := l, switchKnown := k } :=
  ⟨_, _, _, _, (inner_sampleHead x s).registers⟩

theorem takeSample_registers (code : Byte) (s : State) : ∃ x g p v b, (takeSample code s).registers =
    { s.registers with theta := x, grade := g, trip := p, sensorValid := v, band := b } := by
  obtain ⟨h, b, -, schedule, work⟩ := sampleWork_takeSample code s
  refine ⟨h.theta, h.grade, h.trip, h.sensorValid, b, work.registers.trans ?_⟩
  rw [State.registers, schedule]
  rfl

theorem periodicRequest_registers (s : State) : ∃ n, (periodicRequest s).registers =
    { s.registers with schedule := n } := by
  unfold periodicRequest
  split
  · exact ⟨_, rfl⟩
  · exact ⟨_, rfl⟩

/-! ### Every command -/

/-- What a command other than RESET_ASSERT can do to the registers: a write of the processor can be a request
(R20), and a few commands own registers; every other command keeps them all. -/
def Changes : Instr → Registers → Registers → Prop
  | .resetRelease _ _, a, b => ∃ l x, b = { a with resetLine := l, straps := x }
  | .engage, a, b => ∃ e, b = { a with engagement := e }
  | .producerWrite _, a, b => ∃ l p, b = { a with producerLatch := l, producer := p }
  | .maskWordWrite _, a, b => ∃ m, b = { a with masks := m }
  | .processorWrite _ _ _, a, b => ∃ e l p m,
      b = { a with engagement := e, producerLatch := l, producer := p, masks := m }
  | .geometryCheck, a, b => ∃ e g l n x r o,
      b = { a with engagement := e, geometry := g, producerLatch := l, schedule := n, statusTimer := x
                   engageResult := r, offendingField := o }
  | .engageSuccess, a, b => ∃ e q l p c u f n x r o m,
      b = { a with engagement := e, geometry := q, producerLatch := l, producer := p, settings := c, guard := u
                   fired := f, schedule := n, statusTimer := x, engageResult := r, offendingField := o
                   settingsResult := m }
  | .settingsRereadComplete, a, b => ∃ c u m, b = { a with settings := c, guard := u, settingsResult := m }
  | .statusTimer, a, b => ∃ x, b = { a with statusTimer := x }
  | .shiftComplete, a, b => ∃ f l r, b = { a with fired := f, headLatch := l, register := r }
  | .burstCompareB, a, b => ∃ f l, b = { a with fired := f, headLatch := l }
  | .hopenSample _, a, b => ∃ o g l k,
      b = { a with headOpen := o, agree := g, lastSample := l, switchKnown := k }
  | .periodicConversion, a, b => ∃ n, b = { a with schedule := n }
  | .conversionSample _, a, b => ∃ x g p v n,
      b = { a with theta := x, grade := g, trip := p, sensorValid := v, band := n }
  | .resetAssert, _, _ => True
  | _, a, b => b = a

theorem releaseReset_registers (x y : Bool) (s : State) : ∃ l z, (releaseReset x y s).registers =
    { s.registers with resetLine := l, straps := z } := by
  unfold releaseReset
  split
  · exact ⟨_, _, rfl⟩
  · exact ⟨_, _, rfl⟩

/-- Of the watched words only the control word has more than one command. -/
theorem requestWrite_cases {p : State → State → Prop} {off : Nat} {v : BitVec 32} (s : State)
    (same : p s s) (act : p s (actOn off v (requested s off v))) : p s (requestWrite off v s) := by
  by_cases h : s.anchor? = none
  · rwa [requestWrite_none h]
  · rwa [requestWrite_eq h]

theorem engage_registers (s : State) : ∃ e, (requestWrite 0x000 1 s).registers =
    { s.registers with engagement := e } := by
  refine requestWrite_cases (p := fun a b => ∃ e, b.registers = { a.registers with engagement := e }) s
    ⟨_, rfl⟩ ?_
  rw [actOn, if_pos rfl, settle_registers, ← requested_registers s 0 1]
  exact takeEngage_registers _

theorem producerWrite_registers (v : BitVec 32) (s : State) :
    ∃ l p, (requestWrite 0x008 v s).registers = { s.registers with producerLatch := l, producer := p } := by
  refine requestWrite_cases (p := fun a b => ∃ l p, b.registers =
    { a.registers with producerLatch := l, producer := p }) s ⟨_, _, rfl⟩ ?_
  rw [actOn, settle_registers, ← requested_registers s 8 v]
  exact takeProducerWord_registers v _

theorem maskWordWrite_registers (v : BitVec 32) (s : State) :
    ∃ m, (requestWrite 0x00C v s).registers = { s.registers with masks := m } := by
  refine requestWrite_cases (p := fun a b => ∃ m, b.registers = { a.registers with masks := m }) s ⟨_, rfl⟩ ?_
  rw [actOn, ← requested_registers s 12 v]
  exact ⟨_, setMasks_registers v _⟩

/-- R182: the status timer's command touches its own register alone. -/
theorem statusPeriod_registers (s : State) : ∃ x, (statusPeriod s).registers =
    { s.registers with statusTimer := x } :=
  ⟨_, (inner_statusPeriod s).registers⟩

/-- What settles after a command leaves the registers. -/
theorem Changes.settled {c : Instr} {a : Registers} {t : State} (h : Changes c a t.registers) :
    Changes c a (settle t).registers := by rwa [settle_registers]

/-- Every command but a reset changes at most the registers `Changes` names for it. -/
theorem exec_changes {c : Instr} {s t : State} (h : exec c s = .next t) :
    Changes c s.registers t.registers := by
  cases c <;> obtain rfl := Host.Outcome.next.inj h
  case resetAssert => trivial
  case resetRelease => exact releaseReset_registers _ _ s
  case engage => exact engage_registers s
  case geometryCheck => exact Changes.settled (c := .geometryCheck) (completeGeometry_registers s)
  case engageSuccess => exact Changes.settled (c := .engageSuccess) (completeEngage_registers s)
  case pause => exact (served_controlWrite _ s).registers
  case resume => exact (served_controlWrite _ s).registers
  case cancelLabel => exact (served_controlWrite _ s).registers
  case cancelAll => exact (served_controlWrite _ s).registers
  case restart => exact (served_controlWrite _ s).registers
  case status => exact (served_controlWrite _ s).registers
  case otherControlCode => exact (served_controlWrite _ s).registers
  case producerWrite => exact producerWrite_registers _ s
  case maskWordWrite => exact maskWordWrite_registers _ s
  case endOfService => exact (served_endOfService _ s).registers
  case acknowledge => exact (inner_readVector s).registers
  case processorWrite =>
    rw [← (inner_serveUrgent s).registers]
    exact carryWrite_registers _ _ _ _
  case itemFetchComplete => exact (settle_registers _).trans (served_completeFetch s).registers
  case segmentHandover => exact (settle_registers _).trans (inner_handSegment s).registers
  case operationHandover => exact (settle_registers _).trans (inner_handOperation s).registers
  case settingsRereadComplete => exact Changes.settled (c := .settingsRereadComplete) (completeReread_registers s)
  case formatRecordRead => exact (settle_registers _).trans (served_completeFormat s).registers
  case rowFetchComplete => exact (settle_registers _).trans (inner_completeRow s).registers
  case outcomeWrite => exact (served_grantOne _ s).registers
  case vectorWordWrite => exact (served_grantAll _ s).registers
  case statusRefresh => exact (served_grantOne _ s).registers
  case statusTimer => exact statusPeriod_registers s
  case linePeriodExpiry => exact (settle_registers _).trans (inner_linePeriodExpires s).registers
  case copyStart => exact (inner_copyStart s).registers
  case stallRestart => exact (inner_stallRestart s).registers
  case shiftComplete => exact ⟨_, _, _, (inner_completeShift s).registers⟩
  case burstCompareA => exact (inner_compareA s).registers
  case burstCompareB => exact ⟨_, _, (settle_registers _).trans (inner_compareB s).registers⟩
  case coolTimeExpiry => exact (inner_coolTimeExpiry s).registers
  case lineSensing => exact (settle_registers _).trans (inner_senseForward _ _ _ s).registers
  case hopenSample x =>
    split
    · exact ⟨_, _, _, _, rfl⟩
    · exact Changes.settled (c := (.hopenSample x)) (sampleHead_registers x s)
  case periodicConversion => exact periodicRequest_registers s
  case conversionSample code => exact Changes.settled (c := (.conversionSample code)) (takeSample_registers code s)
  case settleExpiry => exact (settle_registers _).trans (inner_settleExpires _ s).registers
  case psgdFall => exact (settle_registers _).trans (inner_psgdFalls s).registers
  case dwellExpiry => exact (inner_dwellExpiry s).registers

/-- Which commands can change a register (R19, R23 to R26, R29, R36, R39 and R118 to R182), read off `Changes`. -/
structure Frame (c : Instr) (a b : Registers) : Prop where
  pending : b.pending = a.pending := by rfl
  prescaler : b.prescaler = a.prescaler := by rfl
  straps : (∀ x y, c ≠ .resetRelease x y) → b.resetLine = a.resetLine ∧ b.straps = a.straps := by
    exact fun _ => ⟨rfl, rfl⟩
  geometry : c ∉ [.resetAssert, .geometryCheck, .engageSuccess] → b.geometry = a.geometry := by
    exact fun _ => rfl
  settings : c ∉ [.resetAssert, .engageSuccess, .settingsRereadComplete] →
    b.settings = a.settings ∧ b.guard = a.guard := by exact fun _ => ⟨rfl, rfl⟩
  engagement : c ∉ [.resetAssert, .engage, .geometryCheck, .engageSuccess] →
    (¬ ∃ w x d, c = .processorWrite w x d) → b.engagement = a.engagement := by exact fun _ _ => rfl
  producerLatch : c ∉ [.resetAssert, .geometryCheck, .engageSuccess] → (∀ v, c ≠ .producerWrite v) →
    (¬ ∃ w x d, c = .processorWrite w x d) → b.producerLatch = a.producerLatch := by exact fun _ _ _ => rfl
  producer : c ∉ [.resetAssert, .engageSuccess] → (∀ v, c ≠ .producerWrite v) →
    (¬ ∃ w x d, c = .processorWrite w x d) → b.producer = a.producer := by exact fun _ _ _ => rfl
  masks : (∀ v, c ≠ .maskWordWrite v) → (∀ w x d, c ≠ .processorWrite w x d) → b.masks = a.masks := by
    exact fun _ _ => rfl
  thermal : (∀ x, c ≠ .conversionSample x) → b.theta = a.theta ∧ b.grade = a.grade ∧ b.trip = a.trip ∧
    b.sensorValid = a.sensorValid ∧ b.band = a.band := by exact fun _ => ⟨rfl, rfl, rfl, rfl, rfl⟩
  fired : c ∉ [.engageSuccess, .shiftComplete, .burstCompareB] → b.fired = a.fired := by exact fun _ => rfl
  headLatch : c ∉ [.shiftComplete, .burstCompareB] → b.headLatch = a.headLatch := by exact fun _ => rfl
  register : c ≠ .shiftComplete → b.register = a.register := by exact fun _ => rfl
  switch : (∀ x, c ≠ .hopenSample x) → b.headOpen = a.headOpen ∧ b.agree = a.agree ∧
    b.lastSample = a.lastSample ∧ b.switchKnown = a.switchKnown := by exact fun _ => ⟨rfl, rfl, rfl, rfl⟩
  schedule : c ∉ [.geometryCheck, .engageSuccess, .periodicConversion] → b.schedule = a.schedule := by
    exact fun _ => rfl
  statusTimer : c ∉ [.geometryCheck, .engageSuccess, .statusTimer] → b.statusTimer = a.statusTimer := by
    exact fun _ => rfl
  result : c ∉ [.geometryCheck, .engageSuccess] →
    b.engageResult = a.engageResult ∧ b.offendingField = a.offendingField := by exact fun _ => ⟨rfl, rfl⟩
  settingsResult : c ∉ [.engageSuccess, .settingsRereadComplete] →
    b.settingsResult = a.settingsResult := by exact fun _ => rfl

theorem Changes.frame {c : Instr} {a b : Registers} (h : Changes c a b) (live : c ≠ .resetAssert) :
    Frame c a b := by
  cases c
  case resetAssert => exact absurd rfl live
  case resetRelease =>
    obtain ⟨l, x, rfl⟩ := h
    exact { straps := fun n => absurd rfl (n _ _) }
  case engage =>
    obtain ⟨e, rfl⟩ := h
    exact { engagement := fun n => absurd (by simp) n }
  case producerWrite =>
    obtain ⟨l, p, rfl⟩ := h
    exact { producerLatch := fun _ n => absurd rfl (n _), producer := fun _ n => absurd rfl (n _) }
  case maskWordWrite =>
    obtain ⟨m, rfl⟩ := h
    exact { masks := fun n => absurd rfl (n _) }
  case processorWrite =>
    obtain ⟨e, l, p, m, rfl⟩ := h
    exact { engagement := fun _ n => absurd ⟨_, _, _, rfl⟩ n
            producerLatch := fun _ _ n => absurd ⟨_, _, _, rfl⟩ n
            producer := fun _ _ n => absurd ⟨_, _, _, rfl⟩ n
            masks := fun _ n => absurd rfl (n _ _ _) }
  case geometryCheck =>
    obtain ⟨e, g, l, n, x, r, o, rfl⟩ := h
    exact { geometry := fun n => absurd (by simp) n
            engagement := fun n => absurd (by simp) n
            producerLatch := fun n => absurd (by simp) n
            schedule := fun n => absurd (by simp) n
            statusTimer := fun n => absurd (by simp) n
            result := fun n => absurd (by simp) n }
  case engageSuccess =>
    obtain ⟨e, q, l, p, c, u, f, n, x, r, o, m, rfl⟩ := h
    exact { geometry := fun n => absurd (by simp) n
            settings := fun n => absurd (by simp) n
            engagement := fun n => absurd (by simp) n
            producerLatch := fun n => absurd (by simp) n
            producer := fun n => absurd (by simp) n
            fired := fun n => absurd (by simp) n
            schedule := fun n => absurd (by simp) n
            statusTimer := fun n => absurd (by simp) n
            result := fun n => absurd (by simp) n
            settingsResult := fun n => absurd (by simp) n }
  case settingsRereadComplete =>
    obtain ⟨c, u, m, rfl⟩ := h
    exact { settings := fun n => absurd (by simp) n, settingsResult := fun n => absurd (by simp) n }
  case statusTimer =>
    obtain ⟨x, rfl⟩ := h
    exact { statusTimer := fun n => absurd (by simp) n }
  case shiftComplete =>
    obtain ⟨f, l, r, rfl⟩ := h
    exact { fired := fun n => absurd (by simp) n, headLatch := fun n => absurd (by simp) n
            register := fun n => absurd rfl n }
  case burstCompareB =>
    obtain ⟨f, l, rfl⟩ := h
    exact { fired := fun n => absurd (by simp) n, headLatch := fun n => absurd (by simp) n }
  case hopenSample =>
    obtain ⟨o, g, l, k, rfl⟩ := h
    exact { switch := fun n => absurd rfl (n _) }
  case periodicConversion =>
    obtain ⟨n, rfl⟩ := h
    exact { schedule := fun n => absurd (by simp) n }
  case conversionSample =>
    obtain ⟨x, g, p, v, n, rfl⟩ := h
    exact { thermal := fun n => absurd rfl (n _) }
  all_goals
    cases h
    exact {}

/-- Settles O59: `Frame`, and at a reset only the queue stands. -/
theorem busFrame : Obligations.BusFrame := by
  intro c s t h
  by_cases live : c = .resetAssert
  case pos =>
    subst live
    obtain rfl := Host.Outcome.next.inj h
    refine ⟨rfl, absurd rfl, absurd rfl, ?_, ?_, ?_, ?_, ?_⟩ <;> exact fun n => absurd (by simp) n
  case neg =>
    have f := (exec_changes h).frame live
    exact ⟨f.pending, fun _ => f.prescaler, fun _ => f.straps, f.geometry, f.settings, f.engagement,
      f.producerLatch, f.producer⟩

/-- Settles O60. -/
theorem unitFrame : Obligations.UnitFrame := by
  intro c s t h live
  have f := (exec_changes h).frame live
  exact ⟨f.masks, f.thermal, f.fired, f.headLatch, f.register, f.switch, f.schedule, f.statusTimer,
    f.result, f.settingsResult⟩

/-! ## What a step does to memory -/

/-- From `s` to `t` the port has made grants alone: none but the waiting transfers of `s` have been performed. -/
structure Granted (s t : State) : Prop where
  anchor : t.anchor = s.anchor
  waiting : ∀ x ∈ t.bpu.waiting, x ∈ s.bpu.waiting
  read : ∀ a, ¬ partWrites s a → t.mem.read a = s.mem.read a

theorem Granted.refl (s : State) : Granted s s := ⟨rfl, fun _ h => h, fun _ _ => rfl⟩

theorem anchor?_congr {s t : State} (h : t.bpu.straps = s.bpu.straps) : t.anchor? = s.anchor? := by
  unfold State.anchor?
  rw [h]

theorem anchor_congr {s t : State} (h : t.bpu.straps = s.bpu.straps) : t.anchor = s.anchor := by
  unfold State.anchor
  rw [anchor?_congr h]

theorem granted_grantNext {s t : State} (h : Granted s t) : Granted s (grantNext t) := by
  unfold grantNext
  split
  · exact ⟨h.anchor, h.waiting, h.read⟩
  · split
    next x next =>
      have stood : x ∈ s.bpu.waiting := h.waiting x (nextTransfer_mem _ x next)
      refine ⟨?_, fun y hy => ?_, fun a out => ?_⟩
      · rw [← h.anchor]
        exact anchor_congr (performTransfer_bpu_straps _ _)
      · rw [performTransfer_bpu_waiting] at hy
        exact h.waiting y (List.mem_of_mem_erase hy)
      · have quiet : ¬ x.writes t.anchor a := fun w => out ⟨x, stood, h.anchor ▸ w⟩
        exact (performTransfer_read x { t with bpu.waiting := t.bpu.waiting.erase x } quiet).trans
          (h.read a out)
    · exact h

theorem granted_grantAll (p : Transfer → Bool) (s : State) : Granted s (grantAll p s) :=
  grantAll_keeps (Granted s) (fun _ => granted_grantNext) p s (.refl s)

theorem granted_grantOne (p : Transfer → Bool) (s : State) : Granted s (grantOne p s) :=
  grantOne_keeps (Granted s) (fun _ => granted_grantNext) p s (.refl s)

/-- Memory stands as some grants of the waiting transfers leave it. -/
def MemGranted (s t : State) : Prop := ∃ u, Granted s u ∧ t.mem = u.mem

theorem MemGranted.of_mem {s t : State} (h : t.mem = s.mem) : MemGranted s t := ⟨s, .refl s, h⟩

theorem Inner.memGranted {s t : State} (h : Inner s t) : MemGranted s t := .of_mem h.mem

theorem Granted.memGranted {s t : State} (h : Granted s t) : MemGranted s t := ⟨t, h, rfl⟩

theorem MemGranted.settled {s t : State} (h : MemGranted s t) : MemGranted s (settle t) := by
  obtain ⟨u, granted, mem⟩ := h
  exact ⟨u, granted, (settle_mem t).trans mem⟩

theorem refuseEngage_mem (n : Nat) (s : State) : (refuseEngage n s).mem = s.mem := by
  unfold refuseEngage
  extract_lets s1 _ _ _ s2
  exact (Inner.after (inner_requestRefresh _) (inner_setEngine_from .unconfigured s2)).mem

theorem checkGeometry_mem (s : State) : (checkGeometry s).mem = s.mem := by
  unfold checkGeometry
  extract_lets g n
  split
  · rfl
  · exact refuseEngage_mem _ _

theorem memGranted_completeGeometry (s : State) : MemGranted s (completeGeometry s) := by
  unfold completeGeometry
  split
  · exact ⟨_, granted_grantAll _ s, checkGeometry_mem _⟩
  · exact .of_mem rfl

theorem succeedEngage_mem (g : Geometry) (s : State) : (succeedEngage g s).mem = s.mem := by
  unfold succeedEngage
  extract_lets c n p s1 s2 s3
  have units : s3.mem = s1.mem :=
    (Inner.after (inner_reportClamped n _) <| .after (inner_requestVector _) <|
      .after (inner_recomputeOffer none _ _) (inner_setEngine_from _ s1)).mem
  split
  · exact (inner_takeProducer _ s3).mem.trans units
  · exact units

theorem memGranted_completeEngage (s : State) : MemGranted s (completeEngage s) := by
  unfold completeEngage
  split
  · split
    · exact ⟨_, granted_grantAll _ s, succeedEngage_mem _ _⟩
    · exact .of_mem rfl
  · exact .of_mem rfl

theorem memGranted_completeReread (s : State) : MemGranted s (completeReread s) := by
  unfold completeReread
  split
  · exact ⟨_, granted_grantAll _ s, (inner_applyReread _ _ _).mem⟩
  · exact .of_mem rfl

theorem memGranted_completeFetch (s : State) : MemGranted s (completeFetch s) := by
  unfold completeFetch
  dsimp only
  split
  · refine ⟨_, granted_grantAll (fun t => t == .item) s, ?_⟩
    split
    · rfl
    · exact (Inner.after (inner_labelArrives _) (inner_parseItem _ _)).mem
  · exact .of_mem rfl

theorem memGranted_completeFormat (s : State) : MemGranted s (completeFormat s) := by
  unfold completeFormat
  split
  · exact ⟨_, granted_grantAll _ s, rfl⟩
  · exact ⟨_, granted_grantAll _ s, rfl⟩
  · exact .of_mem rfl

/-! ### Processor cycles -/

theorem takeEngage_mem (s : State) : (takeEngage s).mem = s.mem := by
  unfold takeEngage
  split
  · rfl
  · rfl
  · exact (inner_restartPart_from s).mem

theorem takeProducerWord_mem (v : BitVec 32) (s : State) : (takeProducerWord v s).mem = s.mem := by
  unfold takeProducerWord
  extract_lets i
  split
  · rfl
  · exact (inner_takeProducer i s).mem
  · split <;> rfl

/-- R20: acting on a watched word leaves memory. -/
theorem actOn_mem (off : Nat) (v : BitVec 32) (s : State) : (actOn off v s).mem = s.mem := by
  unfold actOn
  split
  · split
    · exact (settle_mem _).trans (takeEngage_mem s)
    · rfl
  · split
    · rfl
    · exact (inner_takeControl v s).mem
  · exact (settle_mem _).trans (takeProducerWord_mem v s)
  · simp [setMasks]
  · exact (inner_endService s).mem
  · rfl

/-- A request writes its word at the anchor and nothing else. -/
theorem requestWrite_read (off : Nat) (v : BitVec 32) (s : State) {a : Nat}
    (out : ¬ touches (s.anchor + off) 4 a) : (requestWrite off v s).mem.read a = s.mem.read a := by
  refine requestWrite_cases (p := fun x y => y.mem.read a = x.mem.read a) s rfl ?_
  rw [actOn_mem, requested, State.store_read_ne _ _ _ (by rwa [leBytes_length]), serveUrgent_mem]

theorem carryWrite_read (w : Width) (at_ : Addr) (d : BitVec 32) (s : State) {a : Nat}
    (out : ¬ touches (cycleAddr w at_) (cycleBytes w) a) :
    (carryWrite w at_ d s).mem.read a = s.mem.read a := by
  have stored : (s.store (cycleAddr w at_) (leBytes (cycleBytes w) d.toNat)).mem.read a = s.mem.read a :=
    State.store_read_ne _ _ _ (by rwa [leBytes_length])
  unfold carryWrite
  extract_lets x bytes
  split
  · unfold lateCycle
    split
    · rw [raise_mem]
      exact stored
    · rw [raise_mem]
  · unfold watchCycle
    split
    · split
      · rw [actOn_mem]
        exact stored
      · exact stored
    · exact stored

/-- A command changes the bytes of its own cycle and of the waiting part writes alone (R18, R31, R34). -/
theorem exec_read {c : Instr} {s t : State} {a : Nat} (h : exec c s = .next t) (live : c ≠ .resetAssert)
    (cycle : ¬ cycleWrites c s a) (out : ¬ partWrites s a) : t.mem.read a = s.mem.read a := by
  have granted : ∀ {u}, MemGranted s u → u.mem.read a = s.mem.read a := fun ⟨v, g, m⟩ =>
    (congrArg (Memory.read · a) m).trans (g.read a out)
  have settled : ∀ {u}, Inner s u → (settle u).mem.read a = s.mem.read a := fun i =>
    granted i.memGranted.settled
  cases c <;> obtain rfl := Host.Outcome.next.inj h
  case resetAssert => exact absurd rfl live
  case resetRelease => rw [releaseReset]; split <;> rfl
  case engage => exact requestWrite_read _ _ s cycle
  case geometryCheck => exact granted (memGranted_completeGeometry s).settled
  case engageSuccess => exact granted (memGranted_completeEngage s).settled
  case pause => exact requestWrite_read _ _ s cycle
  case resume => exact requestWrite_read _ _ s cycle
  case cancelLabel => exact requestWrite_read _ _ s cycle
  case cancelAll => exact requestWrite_read _ _ s cycle
  case restart => exact requestWrite_read _ _ s cycle
  case status => exact requestWrite_read _ _ s cycle
  case otherControlCode => exact requestWrite_read _ _ s cycle
  case producerWrite => exact requestWrite_read _ _ s cycle
  case maskWordWrite => exact requestWrite_read _ _ s cycle
  case endOfService => exact requestWrite_read _ _ s cycle
  case acknowledge => exact granted (inner_readVector s).memGranted
  case processorWrite =>
    rw [carryWrite_read _ _ _ _ cycle, serveUrgent_mem]
  case itemFetchComplete => exact granted (memGranted_completeFetch s).settled
  case segmentHandover => exact settled (inner_handSegment s)
  case operationHandover => exact settled (inner_handOperation s)
  case settingsRereadComplete => exact granted (memGranted_completeReread s).settled
  case formatRecordRead => exact granted (memGranted_completeFormat s).settled
  case rowFetchComplete => exact settled (inner_completeRow s)
  case outcomeWrite => exact granted (granted_grantOne _ s).memGranted
  case vectorWordWrite => exact granted (granted_grantAll _ s).memGranted
  case statusRefresh => exact granted (granted_grantOne _ s).memGranted
  case statusTimer => exact granted (.of_mem (inner_statusPeriod s).mem)
  case linePeriodExpiry => exact settled (inner_linePeriodExpires s)
  case copyStart => exact granted (inner_copyStart s).memGranted
  case stallRestart => exact granted (inner_stallRestart s).memGranted
  case shiftComplete => exact granted (.of_mem (inner_completeShift s).mem)
  case burstCompareA => exact granted (inner_compareA s).memGranted
  case burstCompareB => exact granted (MemGranted.of_mem (s := s) (inner_compareB s).mem).settled
  case coolTimeExpiry => exact granted (inner_coolTimeExpiry s).memGranted
  case lineSensing => exact settled (inner_senseForward _ _ _ s)
  case hopenSample x =>
    split
    · rfl
    · exact granted (MemGranted.of_mem (s := s) (inner_sampleHead x s).mem).settled
  case periodicConversion => rw [periodicRequest]; split <;> rfl
  case conversionSample code =>
    obtain ⟨u, b, -, -, work⟩ := sampleWork_takeSample code s
    exact granted (MemGranted.of_mem (s := s) work.mem).settled
  case settleExpiry => exact settled (inner_settleExpires _ s)
  case psgdFall => exact settled (inner_psgdFalls s)
  case dwellExpiry => exact granted (inner_dwellExpiry s).memGranted

theorem tick_mem (s : State) : (tick s).mem = s.mem := by
  unfold tick
  extract_lets s1
  split <;> rfl

/-- Settles O58: the commands by `exec_read`, the idle step by its one grant. -/
theorem memoryFrame : Obligations.MemoryFrame := by
  refine ⟨fun c s t a h cycle out => ?_, fun s t h => ?_, fun s t a quiet h out => ?_⟩
  · by_cases live : c = .resetAssert
    · subst live
      obtain rfl := Host.Outcome.next.inj h
      rfl
    · exact exec_read h live cycle out
  · obtain rfl := Host.Outcome.next.inj h
    rfl
  · rw [step_nil quiet] at h
    obtain rfl := Host.Outcome.next.inj h
    rw [idle, tick_mem]
    exact (granted_grantNext (.refl s)).read a out

/-! ## Attention: events, masks, end-of-service and acknowledge -/

/-- R177: a vector write is requested where none waits. -/
theorem requestVector_eq (s : State) :
    requestVector s = { s with bpu := { s.bpu with waiting := withVector s.bpu.waiting } } := by
  unfold requestVector withVector
  simp only [List.contains_iff_mem]
  split <;> rfl

/-- R181: a refresh is requested where none waits whose odd write has not been granted. -/
theorem requestRefresh_eq (s : State) :
    requestRefresh s = { s with bpu := { s.bpu with waiting := withRefresh s.bpu.waiting } } := by
  unfold requestRefresh withRefresh
  simp only [List.contains_iff_mem]
  split <;> rfl

/-- R177: what a recomputed offer does to the waiting transfers. -/
theorem recomputeOffer_waiting (ev : Option Source) (s : State) : (recomputeOffer ev s).bpu.waiting =
    if s.bpu.engagement = .engaged ∧
        (offerOf s ≠ s.asu.offer ∨ (offerOf s ≠ none ∧ ev = offerOf s)) then
      withVector s.bpu.waiting else s.bpu.waiting := by
  unfold recomputeOffer
  extract_lets new s1
  split
  · rw [requestVector_eq]
  · rfl

/-- R177: a recomputed offer changes the offer and the waiting vector write alone. -/
theorem recomputeOffer_eq (ev : Option Source) (s : State) : recomputeOffer ev s =
    { s with asu := { s.asu with offer := offerOf s }
             bpu := { s.bpu with waiting := (recomputeOffer ev s).bpu.waiting } } := by
  unfold recomputeOffer
  extract_lets new s1
  split
  · rw [requestVector_eq]
  · rfl

/-- R177: the offer as the state after a command of the attention unit shows it: with the flags and masks
set, the offer is right, and a change of it while ENGAGED has the vector word written. -/
structure Reoffered (s t : State) : Prop where
  right : OfferRight t
  changed : s.bpu.engagement = .engaged → t.asu.offer ≠ s.asu.offer →
    t.bpu.waiting = withVector s.bpu.waiting
  quiet : s.bpu.engagement ≠ .engaged ∨ t.asu.offer = s.asu.offer → t.bpu.waiting = s.bpu.waiting

theorem recomputeOffer_reoffered (s : State) : Reoffered s (recomputeOffer none s) where
  right := recomputeOffer_right none s
  changed engaged differs := by
    rw [recomputeOffer_asu] at differs
    rw [recomputeOffer_waiting, if_pos ⟨engaged, .inl differs⟩]
  quiet still := by
    rw [recomputeOffer_asu] at still
    refine (recomputeOffer_waiting none s).trans (if_neg ?_)
    rintro ⟨engaged, differs | ⟨some_, none_⟩⟩
    · exact still.elim (fun h => h engaged) differs
    · exact some_ none_.symm

theorem SourceRecord.record_eq (r : SourceRecord) (code : Nat) (arg : BitVec 16) : r.record code arg =
    { pending := true, inService := r.inService, code := code, arg := arg
      count := if r.count < 255 then r.count + 1 else 255 } := by
  have count : satAdd 255 r.count 1 = if r.count < 255 then r.count + 1 else 255 := by
    unfold satAdd
    split <;> omega
  rw [SourceRecord.record, count]

theorem raise_eq (n : Source) (code : Nat) (arg : BitVec 16) (s : State) : raise n code arg s =
    { s with asu := { s.asu with records := (raise n code arg s).asu.records
                                 offer := (raise n code arg s).asu.offer }
             bpu := { s.bpu with waiting := (raise n code arg s).bpu.waiting } } := by
  rw [raise, recomputeOffer_asu]
  exact recomputeOffer_eq _ _

theorem raise_waiting (n : Source) (code : Nat) (arg : BitVec 16) (s : State) :
    (raise n code arg s).bpu.waiting =
      if s.bpu.engagement = .engaged ∧ ((raise n code arg s).asu.offer ≠ s.asu.offer ∨
          (raise n code arg s).asu.offer = some n) then
        withVector s.bpu.waiting else s.bpu.waiting := by
  have own : ∀ o : Option Source, (o ≠ none ∧ some n = o) ↔ o = some n := by
    rintro (_ | m)
    · simp
    · exact ⟨fun h => h.2.symm, fun h => ⟨nofun, h.symm⟩⟩
  rw [raise, recomputeOffer_waiting, recomputeOffer_asu]
  simp only [own]

/-- Settles O19. -/
theorem eventTaken : Obligations.EventTaken := by
  intro n code arg s t r
  refine ⟨?_, fun m other => ?_, raise_right n code arg s, fun engaged due => ?_, fun quiet => ?_,
    raise_eq n code arg s⟩
  · rw [raise_records, PerSource.get_set, SourceRecord.record_eq]
  · rw [raise_records, PerSource.get_set_ne _ _ _ _ other]
  · exact (raise_waiting n code arg s).trans (if_pos ⟨engaged, due⟩)
  · refine (raise_waiting n code arg s).trans (if_neg ?_)
    rintro ⟨engaged, differs | own⟩
    · exact quiet.elim (fun h => h engaged) fun h => differs h.1
    · exact quiet.elim (fun h => h engaged) fun h => h.2 own

/-! ### The offer -/

theorem mem_inOrder (m : Source) : m ∈ Source.inOrder := by cases m <;> decide

theorem inOrder_sorted : Source.inOrder.Pairwise fun m n => m.priority < n.priority := by decide

theorem Asu.outranks_iff (a : Asu) (n : Source) : a.outranks n = true ↔
    ∀ m, (a.records.get m).inService = true → n.priority < m.priority := by
  rw [Asu.outranks, List.all_eq_true]
  constructor
  · intro h m served
    have := h m (mem_inOrder m)
    simpa [served] using this
  · intro h m _
    cases served : (a.records.get m).inService
    · rfl
    · simpa using h m served

theorem Asu.eligible_iff (a : Asu) (n : Source) : a.eligible n = true ↔
    (a.records.get n).pending = true ∧ a.masks.get n = false ∧
      ∀ m, (a.records.get m).inService = true → n.priority < m.priority := by
  simp only [Asu.eligible, Bool.and_eq_true, Bool.not_eq_true', and_assoc, Asu.outranks_iff]

theorem Source.priority_inj {m n : Source} (h : m.priority = n.priority) : m = n := by
  cases m <;> cases n <;> simp_all [Source.priority]

/-- What a search in priority order finds has nothing above it. -/
theorem find_inOrder_above {p : Source → Bool} {n : Source} (found : Source.inOrder.find? p = some n)
    {m : Source} (above : m.priority < n.priority) : p m = false := by
  obtain ⟨-, before, after, split_, none_⟩ := List.find?_eq_some_iff_append.1 found
  have sorted := inOrder_sorted
  have place := mem_inOrder m
  rw [split_] at sorted place
  rcases List.mem_append.1 place with first_ | later
  · simpa using none_ m first_
  · rcases List.mem_cons.1 later with rfl | last
    · exact absurd above (Nat.lt_irrefl _)
    · have := List.rel_of_pairwise_cons (List.pairwise_append.1 sorted).2.1 last
      omega

theorem find_inOrder_iff (p : Source → Bool) (n : Source) : Source.inOrder.find? p = some n ↔
    p n = true ∧ ∀ m : Source, m.priority < n.priority → p m = false := by
  refine ⟨fun found => ⟨List.find?_some found, fun m => find_inOrder_above found⟩, ?_⟩
  rintro ⟨holds, above⟩
  cases found : Source.inOrder.find? p with
  | none => exact absurd holds (List.find?_eq_none.1 found n (mem_inOrder n))
  | some k =>
    rcases Nat.lt_trichotomy k.priority n.priority with lower | same | higher
    · exact absurd (List.find?_some found) (by simp [above k lower])
    · rw [Source.priority_inj same]
    · exact absurd holds (by simp [find_inOrder_above found higher])

theorem find_inOrder_none (p : Source → Bool) : Source.inOrder.find? p = none ↔ ∀ m, p m = false := by
  rw [List.find?_eq_none]
  exact ⟨fun h m => by simpa using h m (mem_inOrder m), fun h m _ => by simp [h m]⟩

theorem offerOf_unconfigured {s : State} (h : s.lcu.engine = .unconfigured) : offerOf s = none := by
  simp [offerOf, State.configured, h]

theorem configured_iff (s : State) : s.configured = true ↔ s.lcu.engine ≠ .unconfigured := bne_iff_ne

/-- Settles O20: a source above the offered one that is pending and unmasked would be eligible too, because it
outranks whatever the offered one outranks. -/
theorem offerRule : Obligations.OfferRule := by
  refine fun s => ⟨fun n => ?_, offerOf_unconfigured⟩
  by_cases conf : s.lcu.engine = .unconfigured
  · rw [offerOf_unconfigured conf]
    exact ⟨nofun, fun h => absurd conf h.1⟩
  · rw [offerOf, if_pos ((configured_iff s).2 conf), find_inOrder_iff, Asu.eligible_iff]
    constructor
    · rintro ⟨⟨pending, unmasked, served⟩, above⟩
      refine ⟨conf, pending, unmasked, served, fun m higher => ?_⟩
      have out := above m higher
      rw [← Bool.not_eq_true, Asu.eligible_iff] at out
      by_contra! both
      exact out ⟨by simpa using both.1, by simpa using both.2, fun k hk => higher.trans (served k hk)⟩
    · rintro ⟨-, pending, unmasked, served, above⟩
      refine ⟨⟨pending, unmasked, served⟩, fun m higher => ?_⟩
      rw [← Bool.not_eq_true, Asu.eligible_iff]
      rintro ⟨waits, bare, -⟩
      exact (above m higher).elim (fun h => by simp [h] at waits) fun h => by simp [h] at bare

/-! ### Mask word, end-of-service, acknowledge -/

/-- R177: the masks a mask word sets. -/
theorem masksOf_get (v : BitVec 32) (n : Source) : (masksOf v).get n = v.getLsbD n.priority := by
  cases n <;> rfl

/-- A request word is stored and then acted on, which leaves memory. -/
theorem storedAt_requestWrite {s t : State} {off : Nat} {v : BitVec 32} (h : t.mem = (requested s off v).mem) :
    StoredAt s t (s.anchor + off) (leBytes 4 v.toNat) :=
  storedAt_congr (requested_storedAt s off v) h

/-- Settles O21. -/
theorem maskWordWrite : Obligations.MaskWordWrite := by
  intro v s anchored
  have offered := recomputeOffer_reoffered { requested s 0x00C v with
    asu := { s.asu with masks := masksOf v } }
  have eq := recomputeOffer_eq none { requested s 0x00C v with asu := { s.asu with masks := masksOf v } }
  have run : requestWrite 0x00C v s =
      recomputeOffer none { requested s 0x00C v with asu := { s.asu with masks := masksOf v } } := by
    rw [requestWrite_eq anchored, actOn, setMasks, requested_asu]
  refine ⟨_, congrArg Host.Outcome.next run, storedAt_requestWrite (by rw [recomputeOffer_mem]), fun n => ?_,
    offered.right, ?_, ?_, ?_⟩
  · rw [recomputeOffer_asu]
    exact masksOf_get v n
  · rw [recomputeOffer_asu, ← requested_bpu s 0x00C v]
    exact eq
  · simpa only [requested_bpu] using offered.changed
  · simpa only [requested_bpu] using offered.quiet

/-- R177: a command sets the records of `s` to `p` and recomputes the offer. -/
def Rerecorded (s t : State) (p : PerSource SourceRecord) : Prop :=
  t = recomputeOffer none { s with asu.records := p }

theorem Rerecorded.facts {s t : State} {p : PerSource SourceRecord} (h : Rerecorded s t p) :
    t.asu.records = p ∧ OfferRight t ∧
    t = { s with asu := { s.asu with records := t.asu.records, offer := t.asu.offer }
                 bpu := { s.bpu with waiting := t.bpu.waiting } } ∧
    (s.bpu.engagement = .engaged → t.asu.offer ≠ s.asu.offer →
      t.bpu.waiting = withVector s.bpu.waiting) ∧
    (s.bpu.engagement ≠ .engaged ∨ t.asu.offer = s.asu.offer → t.bpu.waiting = s.bpu.waiting) := by
  obtain rfl := h
  have offered := recomputeOffer_reoffered { s with asu.records := p }
  refine ⟨by rw [recomputeOffer_asu], offered.right, ?_, offered.changed, offered.quiet⟩
  rw [recomputeOffer_asu]
  exact recomputeOffer_eq _ _

/-- R179: with none in service, and while UNCONFIGURED, an end-of-service does nothing. -/
theorem endService_none {s : State}
    (h : s.lcu.engine = .unconfigured ∨ ∀ n, (s.asu.records.get n).inService = false) :
    endService s = s := by
  unfold endService
  split
  next conf =>
    have none_ := h.resolve_left ((configured_iff s).1 conf)
    rw [(find_inOrder_none _).2 none_]
  · rfl

/-- R179: the highest-priority source in service leaves service. -/
theorem endService_first {s : State} {n : Source} (conf : s.lcu.engine ≠ .unconfigured)
    (served : (s.asu.records.get n).inService = true)
    (first_ : ∀ m, m.priority < n.priority → (s.asu.records.get m).inService = false) :
    Rerecorded s (endService s)
      (s.asu.records.set n { s.asu.records.get n with inService := false }) := by
  unfold Rerecorded endService
  rw [if_pos ((configured_iff s).2 conf), (find_inOrder_iff _ n).2 ⟨served, first_⟩]

/-- Settles O22. -/
theorem endOfService : Obligations.EndOfService := by
  intro v s anchored
  have run : requestWrite 0x014 v s = endService (requested s 0x014 v) := by
    rw [requestWrite_eq anchored, actOn]
  refine ⟨_, congrArg Host.Outcome.next run, storedAt_requestWrite (by rw [endService_mem]),
    fun none_ => ?_, fun none_ => ?_, fun n conf served first_ => ?_⟩
  · exact endService_none (.inl (by rwa [requested_lcu]))
  · exact endService_none (.inr (by rwa [requested_asu]))
  · have done := (endService_first (s := requested s 0x014 v) (n := n) (by rwa [requested_lcu])
      (by rwa [requested_asu]) (by rwa [requested_asu])).facts
    simpa only [requested_asu, requested_bpu] using done

/-- R178: the sources are numbered by their priorities. -/
theorem Source.ofNumber_iff (k : Nat) (n : Source) : Source.ofNumber k = some n ↔ n.priority = k := by
  constructor
  · intro h
    unfold Source.ofNumber at h
    split at h <;> cases h <;> rfl
  · rintro rfl
    cases n <;> rfl

/-- R178: the source may be acknowledged. -/
def Acknowledgeable (s : State) (n : Source) : Prop :=
  s.lcu.engine ≠ .unconfigured ∧ (s.asu.records.get n).pending = true ∧
    ∀ m, (s.asu.records.get m).inService = true → n.priority < m.priority

theorem acknowledgeable_iff (s : State) (n : Source) :
    (s.configured && (s.asu.records.get n).pending && s.asu.outranks n) = true ↔ Acknowledgeable s n := by
  simp only [Bool.and_eq_true, configured_iff, Asu.outranks_iff, Acknowledgeable, and_assoc]

theorem acknowledge_taken {s : State} {n : Source} (h : Acknowledgeable s n) :
    Rerecorded s (acknowledge n.priority s)
      (s.asu.records.set n
        { s.asu.records.get n with inService := true, pending := false, count := 0 }) := by
  unfold Rerecorded acknowledge
  rw [(Source.ofNumber_iff _ n).2 rfl]
  exact if_pos ((acknowledgeable_iff s n).2 h)

theorem acknowledge_poll {s : State} {k : Nat} (h : ∀ n : Source, n.priority = k → ¬ Acknowledgeable s n) :
    acknowledge k s = s := by
  unfold acknowledge
  split
  · rfl
  next n named =>
    exact if_neg (mt (acknowledgeable_iff s n).1 (h n ((Source.ofNumber_iff k n).1 named)))

/-- Settles O23. -/
theorem Proofs.acknowledge : Obligations.Acknowledge := by
  intro s anchored
  obtain ⟨a, ha⟩ := Option.ne_none_iff_exists'.mp anchored
  have read : vectorRead a (serveUrgent s) = (s.mem.read (s.anchor + 0x10)).toNat % 8 := by
    rw [vectorRead, serveUrgent_mem, anchor_eq ha]
  have run : readVector s =
      Machine.acknowledge ((s.mem.read (s.anchor + 0x10)).toNat % 8) (serveUrgent s) := by
    unfold readVector
    rw [ha, ← read]
  refine ⟨_, congrArg Host.Outcome.next run, by rw [acknowledge_mem, serveUrgent_mem],
    fun n named qualifies => ?_, fun none_ => ?_⟩
  · have able : Acknowledgeable (serveUrgent s) n := by
      simpa only [Acknowledgeable, serveUrgent_lcu, serveUrgent_asu] using qualifies
    rw [← named]
    simpa only [serveUrgent_asu, serveUrgent_bpu] using (acknowledge_taken able).facts
  · refine acknowledge_poll fun n named => ?_
    simpa only [Acknowledgeable, serveUrgent_lcu, serveUrgent_asu] using none_ n named

/-! ## Requests of the bus and the control word -/

/-- Settles O1. -/
theorem stepRunsFront : Obligations.StepRunsFront :=
  ⟨fun _ _ _ => step_cons, fun _ => step_nil⟩

/-- Settles O2: the reset state evaluated unit by unit. -/
theorem resetAssert : Obligations.ResetAssert := by
  intro s
  refine ⟨resetKeeping s, rfl, rfl, ?_⟩
  repeat refine ⟨rfl, ?_⟩
  intro n
  cases n <;> rfl

theorem releaseReset_anchor (asel0 asel1 : Bool) {s : State} (asserted : s.bpu.resetLine = true) :
    (releaseReset asel0 asel1 s).anchor? = some (match asel1, asel0 with
      | false, false => 0x0FF000
      | false, true => 0x3FF000
      | true, false => 0x7FF000
      | true, true => 0xFFF000) := by
  rw [releaseReset, if_pos asserted]
  cases asel0 <;> cases asel1 <;> rfl

/-- Settles O3. -/
theorem resetRelease : Obligations.ResetRelease := by
  intro asel0 asel1 s
  refine ⟨_, rfl, fun asserted => ⟨releaseReset_anchor asel0 asel1 asserted, ?_⟩, fun released => ?_⟩
  · rw [releaseReset, if_pos asserted]
    exact ⟨rfl, rfl⟩
  · rw [releaseReset, released]
    rfl

/-! ### Control requests -/

/-- R77: a control command outside ENGAGING writes its code and is taken. -/
theorem exec_control {s : State} (anchored : s.anchor? ≠ none) (live : s.bpu.engagement ≠ .engaging) :
    exec .pause s = .next (settle (takePause (requested s 4 1))) ∧
    exec .resume s = .next (settle (takeResume (requested s 4 2))) ∧
    exec .cancelLabel s = .next (settle (takeCancelLabel (requested s 4 3))) ∧
    exec .cancelAll s = .next (settle (takeCancelAll (requested s 4 4))) ∧
    exec .restart s = .next (settle (takeRestart (requested s 4 5))) ∧
    exec .status s = .next (takeStatus (requested s 4 6)) ∧
    ∀ v, exec (.otherControlCode v) s = .next (takeControl v (requested s 4 v)) := by
  have run : ∀ v, Host.Outcome.next (controlWrite v s) =
      (.next (takeControl v (requested s 4 v)) : Host.Outcome State Fault Refusal) :=
    fun v => congrArg _ (controlWrite_eq anchored live v)
  exact ⟨run 1, run 2, run 3, run 4, run 5, run 6, run⟩

theorem requested_configured (s : State) (off : Nat) (v : BitVec 32) :
    (requested s off v).configured = s.configured := by
  rw [State.configured, requested_lcu]
  rfl

theorem unconfigured {s : State} (h : s.lcu.engine = .unconfigured) : s.configured = false := by
  simp [State.configured, h]

theorem settle_offer_unconfigured {s : State} (h : s.lcu.engine = .unconfigured) (right : OfferRight s) :
    (settle s).asu.offer = none := by
  have kept : OfferRight (settle s) := (inner_settle s).offer right
  rw [kept, offerOf_unconfigured (by rwa [settle_lcu])]

/-- R77: PAUSE and the cancels are refused in UNCONFIGURED, the other requests are not acted on. -/
theorem takeControl_unconfigured {s : State} (h : s.lcu.engine = .unconfigured) :
    takePause s = refuseControl 1 s ∧ takeResume s = s ∧ takeCancelLabel s = refuseControl 3 s ∧
    takeCancelAll s = refuseControl 4 s ∧ takeRestart s = s ∧ takeStatus s = s := by
  have conf : ¬ s.configured = true := by simp [unconfigured h]
  exact ⟨if_neg conf, by rw [takeResume, h], if_neg conf, if_neg conf, if_neg conf, if_neg conf⟩

/-- Settles O12. -/
theorem controlUnconfigured : Obligations.ControlUnconfigured := by
  intro s anchored live engine
  obtain ⟨pause, resume, cancelLabel, cancelAll, restart, status, -⟩ := exec_control anchored live
  have at_ : ∀ v, (requested s 4 v).lcu.engine = .unconfigured := fun v => by rwa [requested_lcu]
  obtain ⟨refusePause, -⟩ := takeControl_unconfigured (at_ 1)
  obtain ⟨-, ignoreResume, -⟩ := takeControl_unconfigured (at_ 2)
  obtain ⟨-, -, refuseCancel, -⟩ := takeControl_unconfigured (at_ 3)
  obtain ⟨-, -, -, refuseCancelAll, -⟩ := takeControl_unconfigured (at_ 4)
  obtain ⟨-, -, -, -, ignoreRestart, -⟩ := takeControl_unconfigured (at_ 5)
  obtain ⟨-, -, -, -, -, ignoreStatus⟩ := takeControl_unconfigured (at_ 6)
  rw [refusePause] at pause
  rw [ignoreResume] at resume
  rw [refuseCancel] at cancelLabel
  rw [refuseCancelAll] at cancelAll
  rw [ignoreRestart] at restart
  rw [ignoreStatus] at status
  have quiet : ∀ v arg, (settle (refuseControl arg (requested s 4 v))).asu.offer = none := fun v arg =>
    settle_offer_unconfigured (by rw [refuseControl, raise_lcu, at_ v]) (raise_right _ _ _ _)
  exact ⟨⟨_, pause, quiet 1 1, settle_followsUp _⟩, ⟨_, resume, settle_followsUp _⟩,
    ⟨_, cancelLabel, quiet 3 3, settle_followsUp _⟩, ⟨_, cancelAll, quiet 4 4, settle_followsUp _⟩,
    ⟨_, restart, settle_followsUp _⟩, status⟩

/-- R77: a value that names no request is refused. -/
theorem takeControl_other {v : BitVec 32} (s : State) (h : v.toNat = 0 ∨ 6 < v.toNat) :
    takeControl v s = refuseControl (argOf v.toNat) s := by
  unfold takeControl
  split
  case h_7 => rfl
  all_goals omega

/-- Settles O18. -/
theorem statusAndOtherCode : Obligations.StatusAndOtherCode := by
  intro s anchored live
  obtain ⟨-, -, -, -, -, status, other⟩ := exec_control anchored live
  refine ⟨fun engaged => ?_, fun v noCode => ?_⟩
  · have conf : (requested s 4 6).configured = true := by
      rw [requested_configured, configured_iff]
      exact engaged
    rw [status, takeStatus, if_pos conf, requestRefresh_eq, requested_bpu]
  · have arg : argOf v.toNat = v.truncate 16 := by
      rw [argOf, BitVec.ofNat_toNat]
    rw [other v, takeControl_other _ noCode, arg]
    rfl

/-- Settles O46. -/
theorem timerPeriods : Obligations.TimerPeriods := by
  refine ⟨fun s => ⟨fun runs => ⟨_, rfl, ?_⟩, fun stopped => ?_⟩, fun s => ⟨_, rfl, ?_, ?_, ?_⟩⟩
  · rw [if_pos (Option.isSome_iff_ne_none.2 runs)]
    exact settle_followsUp (coolDown s)
  · exact congrArg Host.Outcome.next (if_neg (by simp [stopped]))
  · intro stopped
    exact if_neg (by simp [stopped])
  · intro runs still
    rw [statusPeriod, if_pos (Option.isSome_iff_ne_none.2 runs)]
    exact if_pos still
  · intro runs idle unconf
    rw [statusPeriod, if_pos (Option.isSome_iff_ne_none.2 runs)]
    refine (if_neg (by simp [idle, unconf])).trans ?_
    rw [requestRefresh_eq]

/-! ### PAUSE -/

/-- R181, R170: a change of the engine state into one that keeps the dwell count at 0. -/
theorem setEngine_kept {e : Engine} {s : State} (differs : s.lcu.engine ≠ e) (kept : e.kept = true) :
    setEngine e s = requestRefresh
      { s with lcu := { s.lcu with engine := e }
               htu := { s.htu with dwell := s.htu.dwell.map fun _ => 0 } } := by
  rw [setEngine, if_neg differs]
  simp only [kept, if_true]
  rfl

/-- R181: a change of the engine state into one in which the dwell count may run. -/
theorem setEngine_plain {e : Engine} {s : State} (differs : s.lcu.engine ≠ e) (kept : e.kept = false) :
    setEngine e s = requestRefresh { s with lcu := { s.lcu with engine := e } } := by
  rw [setEngine, if_neg differs]
  simp only [kept, Bool.false_eq_true, if_false]

theorem moving_iff (s : State) : s.moving = true ↔ s.mtu.motion ≠ .rest := bne_iff_ne

/-- R18, R77: a control command stores its code. -/
theorem storedAt_control {s t : State} {v : BitVec 32} {bytes : List Byte} (anchored : s.anchor? ≠ none)
    (live : s.bpu.engagement ≠ .engaging) (run : exec (.otherControlCode v) s = .next t)
    (code : leBytes 4 v.toNat = bytes) : StoredAt s t (s.anchor + 4) bytes := by
  obtain ⟨-, -, -, -, -, -, other⟩ := exec_control anchored live
  obtain rfl := Host.Outcome.next.inj ((other v).symm.trans run)
  rw [← code]
  exact storedAt_requestWrite (inner_takeControl v _).mem

/-- R78: what PAUSE does to a state of an engaged part. -/
theorem takePause_cases {s : State} (engaged : s.lcu.engine ≠ .unconfigured) :
    (s.lcu.engine = .idle → takePause s = requestRefresh { s with
      lcu := { s.lcu with pauseLatch := true, engine := .holding .pause }
      htu := { s.htu with dwell := s.htu.dwell.map fun _ => 0 } }) ∧
    (s.lcu.engine = .arming → s.mtu.motion = .rest → takePause s = requestRefresh { s with
      lcu := { s.lcu with pauseLatch := true, engine := .holding .pause, copyTof := none, started := false }
      htu := { s.htu with dwell := s.htu.dwell.map fun _ => 0 } }) ∧
    (s.lcu.engine ≠ .idle → (s.lcu.engine = .arming → s.mtu.motion ≠ .rest) →
      takePause s = { s with lcu := { s.lcu with pauseLatch := true } }) := by
  unfold takePause
  rw [if_pos ((configured_iff s).2 engaged)]
  refine ⟨fun idle => ?_, fun arming rest => ?_, fun notIdle moves => ?_⟩
  · rw [idle]
    exact setEngine_kept (by simp [idle]) rfl
  · have still : ¬ s.moving = true := by simp [moving_iff, rest]
    simp only [arming]
    rw [if_neg still, setEngine_kept (by simp [releaseCopy]) rfl]
    rfl
  · split
    next idle => exact absurd idle notIdle
    next arming => exact if_pos ((moving_iff s).2 (moves arming))
    · rfl

/-- Writing a request word changes memory and, by the urgent row fetches before it, the line buffer alone. -/
theorem requested_form (s : State) (off : Nat) (v : BitVec 32) :
    ∃ m ρ, requested s off v = { s with mem := m, rsu := ρ } := by
  refine ⟨(requested s off v).mem, (requested s off v).rsu, ?_⟩
  rw [requested, serveUrgent_eq]
  rfl

/-- Settles O13. -/
theorem pause : Obligations.Pause := by
  intro s anchored live engaged
  obtain ⟨run, -⟩ := exec_control anchored live
  refine ⟨_, run, storedAt_control (v := 1) anchored live run (by decide), ?_⟩
  obtain ⟨m, ρ, written⟩ := requested_form s 4 1
  rw [written]
  obtain ⟨idle, rest, latch⟩ := takePause_cases (s := { s with mem := m, rsu := ρ }) engaged
  refine ⟨fun e => ?_, fun e r => ?_, fun e r => ?_⟩
  · rw [idle e]
    exact settle_followsUp _
  · rw [rest e r]
    exact settle_followsUp _
  · rw [latch e r]
    exact settle_followsUp _

/-! ### RESTART -/

/-- R129: a record that arrives at a head that awaits none is not taken. -/
theorem takeRecord_none {s : State} (h : s.hdu.state ≠ .awaiting) : takeRecord s = s := by
  rw [takeRecord]
  exact if_neg h

/-- R88: at a head that awaits no line the end of a waiting delivery changes the stream and the history alone. -/
theorem endWait_form {s : State} (h : s.hdu.state ≠ .awaiting) : ∃ ρ x h1 h2,
    endWait s = { s with rsu := ρ, seu := { s.seu with record := x, h1 := h1, h2 := h2 } } := by
  unfold endWait
  split
  · rw [takeRecord_none (by rwa [takeLine_hdu])]
    exact ⟨_, _, _, _, rfl⟩
  · exact ⟨s.rsu, s.seu.record, s.seu.h1, s.seu.h2, rfl⟩

/-- R81: what RESTART makes of the units before the flags and the engine state follow. -/
theorem restartUnits_eq (s : State) : restartUnits s = { s with
    bpu := { s.bpu with waiting := s.bpu.waiting.filter fun x => !Transfer.withdrawnByRestart x }
    bht := s.bht.cleared
    rrd := s.rrd.restarted
    lcu := s.lcu.restarted
    rsu := Rsu.flushed
    seu := { s.seu with h1 := s.geo.blankRow, h2 := s.geo.blankRow, restTimer := some 0
                        record := LineRecord.empty }
    hdu := s.hdu.cut
    mtu := s.mtu.atRest
    msu := { s.msu with sensing := none }.dropCalibration
    htu := s.htu.off } := by
  have off : supplyOff (cutLine (emergencyStop s)) =
      { cutLine (emergencyStop s) with htu := s.htu.off } := by
    unfold supplyOff
    exact if_neg (by simp [cutLine, Hdu.cut])
  obtain ⟨ρ, x, h1, h2, flushed⟩ :=
    endWait_form (s := { cutLine (emergencyStop s) with htu := s.htu.off }) nofun
  unfold restartUnits flushStream
  rw [off, flushed]
  rfl

theorem Msu.dropCalibration_none {m : Msu} (h : m.cal = none) : m.dropCalibration = m := by
  rw [Msu.dropCalibration, h]

theorem Msu.dropCalibration_some {m : Msu} {r : CalRun} (h : m.cal = some r) : m.dropCalibration =
    { m.loseAndEmpty with polarity := r.savedPolarity, calibrated := r.savedCalibrated, cal := none } := by
  rw [Msu.dropCalibration, h]

theorem restState_kept (f : FaultSet) : (restState f).kept = false := by
  unfold restState
  split <;> rfl

theorem restartPart_htu (s : State) : (restartPart s).htu = s.htu.off := by
  rw [restartPart_eq, setEngine_htu, if_neg (by simp [restState_kept]), restartFlags_htu, restartUnits_eq]

theorem restartPart_asu (s : State) : (restartPart s).asu =
    { s.asu with
      records := s.asu.records.map fun r => { r with pending := false, inService := false, count := 0 }
      offer := none } := by
  have none_pending := restartFlags_pending_none (restartUnits s)
  have offered : (restartFlags (restartUnits s)).asu.offer = none :=
    (recomputeOffer_right none _).trans (offerOf_none none_pending)
  rw [restartPart_eq, setEngine_asu]
  unfold restartFlags at offered ⊢
  rw [recomputeOffer_asu] at offered ⊢
  simp only at offered
  rw [offered, restartUnits_eq]

/-- A vector or status write is requested behind the waiting transfers. -/
def Adds (w v : List Transfer) : Prop := ∃ added, v = w ++ added ∧ ∀ x ∈ added, x = .vector ∨ x.isStatus = true

theorem Adds.refl (w : List Transfer) : Adds w w := ⟨[], (List.append_nil w).symm, nofun⟩

theorem Adds.trans {w v u : List Transfer} (h : Adds w v) (k : Adds v u) : Adds w u := by
  obtain ⟨a, rfl, ha⟩ := h
  obtain ⟨b, rfl, hb⟩ := k
  exact ⟨a ++ b, List.append_assoc _ _ _, fun x hx => (List.mem_append.1 hx).elim (ha x) (hb x)⟩

theorem adds_withVector (w : List Transfer) : Adds w (withVector w) := by
  unfold withVector
  split
  · exact .refl w
  · exact ⟨_, rfl, by simp⟩

theorem adds_withRefresh (w : List Transfer) : Adds w (withRefresh w) := by
  unfold withRefresh
  split
  · exact .refl w
  · exact ⟨_, rfl, by simp [Transfer.isStatus]⟩

theorem adds_recomputeOffer (ev : Option Source) (s : State) :
    Adds s.bpu.waiting (recomputeOffer ev s).bpu.waiting := by
  rw [recomputeOffer_waiting]
  split
  · exact adds_withVector _
  · exact .refl _

theorem adds_restartFlags (s : State) : Adds s.bpu.waiting (restartFlags s).bpu.waiting :=
  adds_recomputeOffer none { s with asu := { s.asu with records := _ } }

theorem adds_requestRefresh (s : State) : Adds s.bpu.waiting (requestRefresh s).bpu.waiting := by
  rw [requestRefresh_eq]
  exact adds_withRefresh s.bpu.waiting

theorem adds_setEngine (e : Engine) (s : State) : Adds s.bpu.waiting (setEngine e s).bpu.waiting := by
  by_cases same : s.lcu.engine = e
  · rw [setEngine, if_pos same]
    exact .refl _
  · cases kept : e.kept with
    | true =>
      rw [setEngine_kept same kept]
      exact adds_requestRefresh { s with lcu := _, htu := _ }
    | false =>
      rw [setEngine_plain same kept]
      exact adds_requestRefresh { s with lcu := _ }

theorem adds_restartPart (s : State) :
    Adds (s.bpu.waiting.filter fun x => !Transfer.withdrawnByRestart x) (restartPart s).bpu.waiting := by
  have units : (restartUnits s).bpu.waiting =
      s.bpu.waiting.filter fun x => !Transfer.withdrawnByRestart x := by rw [restartUnits_eq]
  rw [restartPart_eq, ← units]
  exact (adds_restartFlags _).trans (adds_setEngine _ _)

theorem restartPart_bpu (s : State) : (restartPart s).bpu.engagement = s.bpu.engagement ∧
    (restartPart s).bpu.geometry = s.bpu.geometry ∧ (restartPart s).bpu.guard = s.bpu.guard := by
  have kept := inner_restartPart_from s
  exact ⟨kept.engagement, kept.geometry, kept.guard⟩

/-- R81: RESTART leaves what the RESTART rules say. -/
theorem restartPart_restarted (s : State) : Restarted s (restartPart s) where
  engine := by rw [restartPart_eq, setEngine_lcu, restartUnits_eq]; rfl
  faults := by rw [restartPart_eq, setEngine_lcu, restartFlags_lcu, restartUnits_eq]; rfl
  contexts := by rw [restartPart_eq, setEngine_lcu, restartFlags_lcu, restartUnits_eq]; exact ⟨rfl, rfl, rfl⟩
  latches := by rw [restartPart_eq, setEngine_lcu, restartFlags_lcu, restartUnits_eq]; exact ⟨rfl, rfl⟩
  totals := by rw [restartPart_eq, setEngine_lcu, restartFlags_lcu, restartUnits_eq]; exact ⟨rfl, rfl, rfl⟩
  motion := by rw [restartPart_eq, setEngine_mtu, restartFlags_mtu, restartUnits_eq]; exact ⟨rfl, rfl, rfl, rfl⟩
  position := by rw [restartPart_eq, setEngine_mtu, restartFlags_mtu, restartUnits_eq]; rfl
  head := by
    rw [restartPart_eq, setEngine_hdu, restartFlags_hdu, restartUnits_eq]
    exact ⟨rfl, rfl, rfl, rfl, rfl⟩
  supply := by
    rw [restartPart_htu]
    exact ⟨rfl, rfl, rfl⟩
  temperature := by
    rw [restartPart_htu]
    exact ⟨rfl, rfl⟩
  ring := by rw [restartPart_eq, setEngine_rrd, restartFlags_rrd, restartUnits_eq]
  holds := by rw [restartPart_eq, setEngine_bht, restartFlags_bht, restartUnits_eq]
  stream := by rw [restartPart_rsu]; exact ⟨rfl, rfl⟩
  history := by rw [restartPart_eq, setEngine_seu, restartFlags_seu, restartUnits_eq]; exact ⟨rfl, rfl, rfl⟩
  media none_ := by
    rw [restartPart_eq, setEngine_msu, restartFlags_msu, restartUnits_eq]
    exact Msu.dropCalibration_none none_
  calibration r run := by
    have dropped := Msu.dropCalibration_some (m := { s.msu with sensing := none }) run
    rw [CalibrationDropped, restartPart_eq, setEngine_msu, restartFlags_msu, restartUnits_eq]
    rw [dropped]
    exact ⟨⟨rfl, rfl, rfl, rfl, rfl, rfl, rfl, rfl, rfl, rfl, rfl, rfl⟩, rfl⟩
  flags n := by
    rw [restartPart_asu]
    cases n <;> exact ⟨rfl, rfl, rfl, rfl, rfl⟩
  masks := by rw [restartPart_asu]
  bus := restartPart_bpu s
  settings := (inner_restartPart_from s).settings

/-- What follows a RESTART leaves it: nothing retires, and nothing is fetched or read again. -/
theorem Restarted.followed {s r t : State} (h : Restarted s r) (flushed : r.rsu = Rsu.flushed)
    (f : FollowsUp r t) : Restarted s t ∧ t.bpu.waiting = r.bpu.waiting := by
  have ring := h.ring
  have noFetch : ¬ FetchWanted r := fun w => w.2.1 (by rw [ring]; rfl)
  have noReread : ∀ i, ¬ RereadWanted r i := fun i w => by
    have := w.2.2
    rw [ring] at this
    exact nomatch this
  have still : ∀ e ∈ r.rrd.table.head?, e.complete = false ∨ e.index = r.rrd.walk := by
    rw [ring]
    exact nofun
  obtain ⟨retire, table, bht, asu⟩ := f.quiet still
  obtain ⟨retired, rereads, items, waiting, -, noRe, -, noIt, same⟩ := f.waiting
  have queues : t.bpu.waiting = r.bpu.waiting := by
    rw [waiting, same still, noRe (noReread _), noIt noFetch, List.append_nil, List.append_nil]
  have rrd : t.rrd = r.rrd := by
    rw [f.rrd, retire, table, f.noFetch noFetch, f.noReread (noReread _)]
  have rsu : t.rsu.queue = [] ∧ t.rsu.buffer = [] := by
    rw [f.rsu, flushed]
    split
    · decide
    · exact ⟨rfl, rfl⟩
  have bpu : t.bpu = r.bpu := by rw [f.bpu, queues]
  have mtu := f.mtu
  have hdu := f.hdu
  have seu := f.seu
  refine ⟨?_, queues⟩
  exact {
    engine := f.lcu ▸ h.engine, faults := f.lcu ▸ h.faults, contexts := f.lcu ▸ h.contexts
    latches := f.lcu ▸ h.latches, totals := f.lcu ▸ h.totals
    motion := by rw [mtu]; exact h.motion
    position := by rw [mtu]; exact h.position
    head := by rw [hdu]; exact h.head
    supply := f.htu ▸ h.supply, temperature := f.htu ▸ h.temperature, ring := rrd.trans ring
    holds := bht.trans h.holds, stream := rsu
    history := by rw [seu]; exact h.history
    media := f.msu ▸ h.media
    calibration := fun c run => by
      have := h.calibration c run
      rw [CalibrationDropped] at this ⊢
      rwa [f.msu]
    flags := fun n => asu ▸ h.flags n, masks := asu ▸ h.masks, bus := bpu ▸ h.bus
    settings := f.settings.trans h.settings }

/-- R35: RESTART withdraws no status write. -/
theorem Transfer.withdrawnByRestart_status {x : Transfer} (h : x.isStatus = true) :
    x.withdrawnByRestart = false := by
  unfold Transfer.withdrawnByRestart
  split
  · exact nomatch h
  · exact nomatch h
  · exact nomatch h
  · rfl

/-- Settles O17: RESTART's own effect is `restartPart_restarted`, and nothing follows it. -/
theorem restart : Obligations.Restart := by
  intro s anchored live engaged
  obtain ⟨-, -, -, -, run, -⟩ := exec_control anchored live
  refine ⟨_, run, ?_⟩
  have stored := storedAt_control (v := 5) anchored live run rfl
  obtain ⟨m, ρ, written⟩ := requested_form s 4 5
  rw [written] at stored ⊢
  have taken : takeRestart { s with mem := m, rsu := ρ } = restartPart { s with mem := m, rsu := ρ } :=
    if_pos ((configured_iff _).2 engaged)
  rw [taken] at stored ⊢
  have left : Restarted s (restartPart { s with mem := m, rsu := ρ }) :=
    { restartPart_restarted { s with mem := m, rsu := ρ } with }
  obtain ⟨restarted, waiting⟩ := left.followed (restartPart_rsu _) (settle_followsUp _)
  obtain ⟨added, queue, kind⟩ := adds_restartPart { s with mem := m, rsu := ρ }
  rw [waiting, queue]
  refine ⟨restarted, stored, fun x there => ?_, added, rfl, kind⟩
  rcases List.mem_append.1 there with old | new
  · simpa using (List.mem_filter.1 old).2
  · rcases kind x new with rfl | status
    · rfl
    · exact Transfer.withdrawnByRestart_status status

/-! ### ENGAGE and the producer word -/

/-- Settles O4. -/
theorem engageBegins : Obligations.EngageBegins := by
  intro s anchored
  have run : exec .engage s = .next (settle (takeEngage (requested s 0 1))) :=
    congrArg Host.Outcome.next (by rw [requestWrite_eq anchored, actOn, if_pos rfl])
  have stored : StoredAt s (settle (takeEngage (requested s 0 1))) s.anchor [1, 0, 0, 0] :=
    storedAt_requestWrite (off := 0) (v := 1) (by rw [settle_mem, takeEngage_mem])
  refine ⟨_, run, stored, ?_⟩
  obtain ⟨m, ρ, written⟩ := requested_form s 0 1
  rw [written]
  refine ⟨fun e => ?_, fun e => ?_, fun e => ?_⟩
  · have taken : takeEngage { s with mem := m, rsu := ρ } = beginEngage { s with mem := m, rsu := ρ } := by
      simp only [takeEngage, e]
    rw [taken]
    exact settle_followsUp _
  · have taken : takeEngage { s with mem := m, rsu := ρ } = { s with mem := m, rsu := ρ } := by
      simp only [takeEngage, e]
    rw [taken]
    exact settle_followsUp _
  · have taken : takeEngage { s with mem := m, rsu := ρ } =
        beginEngage (restartPart { s with mem := m, rsu := ρ }) := by
      simp only [takeEngage, e]
    rw [taken]
    exact ⟨restartPart { s with mem := m, rsu := ρ },
      { restartPart_restarted { s with mem := m, rsu := ρ } with }, settle_followsUp _⟩

theorem producerAccepted_iff (s : State) (v : Idx) : producerAccepted s v = true ↔
    (s.rrd.take - s.rrd.retire).toNat ≤ (v - s.rrd.retire).toNat ∧
      (v - s.rrd.retire).toNat ≤ s.geo.slots := by
  rw [producerAccepted, Bool.and_eq_true, decide_eq_true_iff, decide_eq_true_iff]
  rfl

/-- R39, R41: an accepted producer word; the fetch of the item it withdraws is marked to be discarded. -/
theorem takeProducer_accepted {i : Idx} {s : State} (h : producerAccepted s i = true) :
    takeProducer i s = { s with
      rrd := { s.rrd with
        producer := i
        fetch := s.rrd.fetch.map fun f => { f with doomed := f.doomed || decide (f.index = i) } } } := by
  have doom : (fun f : ItemFetch => if f.index = i then { f with doomed := true } else f) =
      fun f => { f with doomed := f.doomed || decide (f.index = i) } := by
    funext f
    split
    next same => simp [same]
    next other => simp [other]
  rw [takeProducer, if_pos h]
  simp only [doom]

/-- Settles O8. -/
theorem producerWrite : Obligations.ProducerWrite := by
  intro v s anchored
  have run : exec (.producerWrite v) s = .next (settle (takeProducerWord v (requested s 8 v))) :=
    congrArg Host.Outcome.next (by rw [requestWrite_eq anchored, actOn])
  refine ⟨_, run, storedAt_requestWrite (by rw [settle_mem, takeProducerWord_mem]), ?_⟩
  obtain ⟨m, ρ, written⟩ := requested_form s 8 v
  rw [written]
  have accepted := producerAccepted_iff { s with mem := m, rsu := ρ } (v.truncate 16)
  refine ⟨fun e => ?_, fun e none_ => ?_, fun e some_ => ?_, fun e low high => ?_, fun e out => ?_⟩
  · have same : takeProducerWord v { s with mem := m, rsu := ρ } = { s with mem := m, rsu := ρ } := by
      simp only [takeProducerWord, e]
    rw [same]
    exact settle_followsUp _
  · have same : takeProducerWord v { s with mem := m, rsu := ρ } = { s with mem := m, rsu := ρ } := by
      simp only [takeProducerWord, e, none_, if_true]
    rw [same]
    exact settle_followsUp _
  · have latched : takeProducerWord v { s with mem := m, rsu := ρ } =
        { s with mem := m, rsu := ρ, bpu := { s.bpu with latch := some (v.truncate 16) } } := by
      simp only [takeProducerWord, e, some_, if_false]
    rw [latched]
    exact settle_followsUp _
  · have taken : takeProducerWord v { s with mem := m, rsu := ρ } =
        takeProducer (v.truncate 16) { s with mem := m, rsu := ρ } := by
      simp only [takeProducerWord, e]
    rw [taken, takeProducer_accepted (accepted.2 ⟨low, high⟩)]
    exact settle_followsUp _
  · have taken : takeProducerWord v { s with mem := m, rsu := ρ } =
        takeProducer (v.truncate 16) { s with mem := m, rsu := ρ } := by
      simp only [takeProducerWord, e]
    have refused : takeProducer (v.truncate 16) { s with mem := m, rsu := ρ } =
        raise .ring Code.producerRefused (v.truncate 16) { s with mem := m, rsu := ρ } :=
      if_neg (mt accepted.1 out)
    rw [taken, refused]
    exact settle_followsUp _

/-! ### Other processor writes -/

theorem cycleBytes_le (w : Width) : cycleBytes w ≤ 4 := by cases w <;> decide

theorem storedAt_cycle (w : Width) (at_ : Nat) (d : BitVec 32) (s : State) :
    StoredAt s ((serveUrgent s).store at_ (leBytes (cycleBytes w) d.toNat)) at_
      (leBytes (cycleBytes w) d.toNat) := by
  refine storedAt_from (storedAt_store (serveUrgent s) at_ _ ?_) (serveUrgent_mem s)
  have := cycleBytes_le w
  rw [leBytes_length]
  unfold Config.memorySize
  omega

/-- R13, R27: whether a write is late is judged on units that the row fetches before it leave. -/
theorem lateWrite_serveUrgent (s : State) (a : Nat) : lateWrite (serveUrgent s) a = lateWrite s a := by
  unfold lateWrite State.geo
  rw [serveUrgent_bpu, serveUrgent_bht, serveUrgent_rrd]

theorem exec_processorWrite (w : Width) (a : Addr) (d : BitVec 32) (s : State) :
    exec (.processorWrite w a d) s = .next (carryWrite w a d (serveUrgent s)) := rfl

/-- R18, R27: a write that is not late. -/
theorem carryWrite_inTime {w : Width} {a : Addr} {s : State} (d : BitVec 32)
    (h : lateWrite s (cycleAddr w a) = none) : carryWrite w a d (serveUrgent s) =
      watchCycle w (cycleAddr w a) d
        ((serveUrgent s).store (cycleAddr w a) (leBytes (cycleBytes w) d.toNat)) := by
  simp only [carryWrite, lateWrite_serveUrgent, h]

theorem carryWrite_late {w : Width} {a : Addr} {s : State} {arg : Nat} (d : BitVec 32)
    (h : lateWrite s (cycleAddr w a) = some arg) : carryWrite w a d (serveUrgent s) =
      lateCycle arg (cycleAddr w a) (leBytes (cycleBytes w) d.toNat) (serveUrgent s) := by
  simp only [carryWrite, lateWrite_serveUrgent, h]

/-- R20: a full write at an offset of the anchor block that names no request, or of another value than 1 to the
engage word. -/
theorem actOn_plain {off : Nat} {v : BitVec 32} {s : State}
    (h : off ∈ [0x000, 0x004, 0x008, 0x00C, 0x014] → off = 0x000 ∧ v ≠ 1) : actOn off v s = s := by
  unfold actOn
  split
  · exact if_neg (h (by decide)).2
  · exact absurd (h (by decide)).1 (by decide)
  · exact absurd (h (by decide)).1 (by decide)
  · exact absurd (h (by decide)).1 (by decide)
  · exact absurd (h (by decide)).1 (by decide)
  · rfl

/-- R20: a cycle that is no request only stores. -/
theorem watchCycle_plain {w : Width} {at_ : Nat} {d : BitVec 32} {s : State}
    (h : w ≠ .word ∨ ∀ b, s.anchor? = some b → ∀ off ∈ [0x000, 0x004, 0x008, 0x00C, 0x014],
      at_ = b + off → off = 0x000 ∧ d ≠ 1) : watchCycle w at_ d s = s := by
  unfold watchCycle
  split
  next b anchor =>
    have plain := h.resolve_left (absurd rfl) b anchor
    split
    · exact actOn_plain fun off => plain _ off (by omega)
    · rfl
  · rfl

/-- R176: what an event does, memory does not decide. -/
theorem raise_of_mem (n : Source) (code : Nat) (arg : BitVec 16) (m : Memory) (s : State) :
    raise n code arg { s with mem := m } = { raise n code arg s with mem := m } := by
  unfold raise
  rw [recomputeOffer_eq, recomputeOffer_eq _ { s with asu := _ }, recomputeOffer_waiting,
    recomputeOffer_waiting]
  rfl

/-- Settles O9. -/
theorem processorWrite : Obligations.ProcessorWrite := by
  intro w a d s
  have guard : (serveUrgent s).bpu.guard = s.bpu.guard := by rw [serveUrgent_bpu]
  refine ⟨fun inTime plain => ?_, fun arg late pass => ?_, fun arg late block => ?_⟩
  · refine ⟨_, exec_processorWrite w a d s, ?_⟩
    rw [carryWrite_inTime d inTime, watchCycle_plain]
    · exact ⟨storedAt_cycle w _ d s, rfl⟩
    · rwa [anchor?_congr (s := s) (by rw [State.store_bpu, serveUrgent_bpu])]
  · refine ⟨_, exec_processorWrite w a d s, ?_⟩
    have run : carryWrite w a d (serveUrgent s) = raise .ring Code.lateWrite (argOf arg)
        ((serveUrgent s).store (cycleAddr w a) (leBytes (cycleBytes w) d.toNat)) := by
      simp only [carryWrite_late d late, lateCycle, guard, pass]
    rw [run]
    refine ⟨storedAt_congr (storedAt_cycle w _ d s) (by rw [raise_mem]), ?_⟩
    rw [raise_mem]
    exact raise_of_mem _ _ _ _ (serveUrgent s)
  · rw [exec_processorWrite, carryWrite_late d late, lateCycle, guard, block]

/-! ### Watched words -/

theorem cycleAddr_word {b : Nat} (aligned : b % 4 = 0) (small : b < Config.memorySize) :
    cycleAddr .word (BitVec.ofNat 24 b) = b := by
  unfold Config.memorySize at small
  simp only [cycleAddr, cycleBytes, BitVec.toNat_ofNat]
  omega

/-- R19: the anchor bases are whole words below the end of the space. -/
theorem anchorOf_aligned (k : BitVec 2) : anchorOf k % 4 = 0 := by
  unfold anchorOf
  split <;> rfl

theorem exec_request {c : Instr} {off : Nat} (h : Instr.requestOffset c = some off) (s : State) :
    ∃ v, exec c s = .next (requestWrite off v s) := by
  unfold Instr.requestOffset at h
  split at h <;> cases h <;> exact ⟨_, rfl⟩

/-- Settles O10. -/
theorem watchedWords : Obligations.WatchedWords := by
  refine ⟨fun c s request none_ => ?_, fun s anchored engaging => ?_, fun b v s anchor inTime => ?_⟩
  · obtain ⟨off, named⟩ := Option.ne_none_iff_exists'.1 request
    obtain ⟨v, run⟩ := exec_request named s
    rw [run, requestWrite_none none_]
  · have run : ∀ v, controlWrite v s = requested s 4 v := fun v => by
      rw [controlWrite, requestWrite_eq anchored, actOn, if_pos (by rw [requested_bpu, engaging])]
    exact ⟨congrArg _ (run 1), congrArg _ (run 2), congrArg _ (run 3), congrArg _ (run 4),
      congrArg _ (run 5), congrArg _ (run 6), fun v => congrArg _ (run v)⟩
  · have word : ∀ off ∈ [0x000, 0x004, 0x008, 0x00C, 0x014], ∀ x,
        exec (.processorWrite .word (BitVec.ofNat 24 (b + off)) x) s = .next (requestWrite off x s) := by
      intro off watched x
      have at_ : cycleAddr .word (BitVec.ofNat 24 (b + off)) = b + off := by
        obtain ⟨k, -, base⟩ := Option.map_eq_some_iff.1 anchor
        have aligned := anchorOf_aligned k
        have bound := anchor_bound s
        rw [anchor_eq anchor] at bound
        simp only [List.mem_cons, List.not_mem_nil, or_false] at watched
        exact cycleAddr_word (by omega) (by omega)
      have stored : ∀ m, ({ serveUrgent s with mem := m } : State).anchor? = some b := fun m =>
        (anchor?_congr (s := s) (by rw [serveUrgent_bpu])).trans anchor
      have judged := carryWrite_inTime x (at_.symm ▸ inTime off watched)
      rw [exec_processorWrite, judged, at_]
      simp only [watchCycle, requestWrite, anchor, State.store, stored, Nat.le_add_right, if_true,
        Nat.add_sub_cancel_left, cycleBytes]
    exact ⟨word 0 (by decide) 1, word 4 (by decide) v, word 8 (by decide) v, word 12 (by decide) v,
      word 20 (by decide) v⟩

/-! ### The geometry check -/

/-- R24: for conditions `P` tested in order from number `m`, each test judged under those before it, the first
failing number is 0 where all hold, and else the first that fails. -/
theorem firstFailing_spec {P : Nat → Prop} (tests : List Bool) : ∀ (m : Nat), 0 < m → (∀ n < m, P n) →
    (∀ (k : Nat) (hk : k < tests.length), (∀ j < m + k, P j) → (tests[k] = true ↔ P (m + k))) →
    (∀ n, m + tests.length ≤ n → P n) →
    (firstFailing m tests = 0 ↔ ∀ n, P n) ∧
      ∀ n, n ≠ 0 → firstFailing m tests = n → ¬ P n ∧ ∀ k < n, P k := by
  induction tests with
  | nil =>
    intro m _ before _ beyond
    have all : ∀ n, P n := fun n => (Nat.lt_or_ge n m).elim (before n) (beyond n)
    exact ⟨⟨fun _ => all, fun _ => rfl⟩, fun n some_ none_ => absurd none_.symm some_⟩
  | cons ok rest ih =>
    intro m pos before test beyond
    have here : ok = true ↔ P m := test 0 (by simp) before
    cases ok with
    | true =>
      refine ih (m + 1) (by omega) (fun n hn => ?_) (fun k hk prior => ?_) (fun n hn => beyond n ?_)
      · rcases Nat.lt_succ_iff_lt_or_eq.1 hn with lower | rfl
        · exact before n lower
        · exact here.1 rfl
      · have := test (k + 1) (by simpa using hk) fun j hj => prior j (by omega)
        rwa [List.getElem_cons_succ, show m + (k + 1) = m + 1 + k by omega] at this
      · rw [List.length_cons]
        omega
    | false =>
      have fails : ¬ P m := fun h => nomatch here.2 h
      refine ⟨⟨fun zero => absurd zero (by simp [firstFailing]; omega), fun all => absurd (all m) fails⟩, ?_⟩
      rintro n - rfl
      exact ⟨fails, before⟩

/-- Two runs of bytes that are not empty lie apart exactly when they share no byte. -/
theorem apart_iff {a la b lb : Nat} (ha : 0 < la) (hb : 0 < lb) : apart a la b lb = true ↔
    ∀ x, ¬ ((a ≤ x ∧ x < a + la) ∧ (b ≤ x ∧ x < b + lb)) := by
  simp only [apart, Bool.or_eq_true, decide_eq_true_eq]
  constructor
  · omega
  · intro h
    have := h (max a b)
    omega

/-- R24: a geometry that meets conditions 1, 3 and 4 has an image window. -/
theorem windowBytes_pos {g : Geometry} (dots : 128 ≤ g.dots)
    (height : g.height = 8 ∨ g.height = 16 ∨ g.height = 32 ∨ g.height = 64) (bands : 2 ≤ g.bands) :
    0 < g.windowBytes := by
  have row : 0 < g.dots / 8 := by omega
  have tall : 0 < g.height := by omega
  exact Nat.mul_pos (by omega) (Nat.mul_pos tall row)

/-- Settles O5: each of the twelve tests is its condition; those on shared bytes are so once the conditions before
them have given window and ring a size. -/
theorem geometryRules : Obligations.GeometryRules := by
  intro g anchor window holds
  have size : g.bands * g.height * (g.dots / 8) = g.windowBytes := Nat.mul_assoc _ _ _
  have ring : g.slots * 16 = 16 * g.slots := Nat.mul_comm _ _
  refine firstFailing_spec (P := holds) (geometryTests g anchor) 1 (by decide) (fun n hn => ?_) ?_ (fun n hn => ?_)
  · obtain rfl : n = 0 := by omega
    trivial
  · intro k hk prior
    have hk' : k < 12 := hk
    have sized : 9 ≤ k → 0 < g.windowBytes ∧ 0 < 16 * g.slots := fun late => by
      have dots : holds 1 := prior 1 (by omega)
      have height : holds 3 := prior 3 (by omega)
      have bands : holds 4 := prior 4 (by omega)
      have slots : g.slots = 16 ∨ _ := (prior 7 (by omega) : holds 7)
      exact ⟨windowBytes_pos dots.1 height bands.1, by omega⟩
    interval_cases k
    · change _ ↔ 128 ≤ g.dots ∧ g.dots ≤ 1024 ∧ g.dots % 32 = 0
      simp [geometryTests, and_assoc]
    · change _ ↔ g.groups = 1 ∨ g.groups = 2 ∨ g.groups = 4 ∨ g.groups = 8
      simp [geometryTests, or_assoc]
    · change _ ↔ g.height = 8 ∨ g.height = 16 ∨ g.height = 32 ∨ g.height = 64
      simp [geometryTests, or_assoc]
    · change _ ↔ 2 ≤ g.bands ∧ g.bands ≤ 64
      simp [geometryTests]
    · change _ ↔ g.imageBase % 4 = 0
      simp [geometryTests]
    · change _ ↔ g.ringBase % 16 = 0
      simp [geometryTests]
    · change _ ↔ g.slots = 16 ∨ g.slots = 32 ∨ g.slots = 64 ∨ g.slots = 128 ∨ g.slots = 256
      simp [geometryTests, or_assoc]
    · refine decide_eq_true_iff.trans ?_
      rw [← size]
      rfl
    · refine decide_eq_true_iff.trans ?_
      rw [← ring]
      rfl
    · refine (apart_iff (sized (by decide)).1 (by decide)).trans ?_
      rw [← size]
      rfl
    · refine (apart_iff (sized (by decide)).2 (by decide)).trans ?_
      rw [← ring]
      rfl
    · refine (apart_iff (sized (by decide)).1 (sized (by decide)).2).trans ?_
      rw [← size, ← ring]
      rfl
  · have late : 13 ≤ n := hn
    obtain ⟨m, rfl⟩ := Nat.exists_eq_add_of_le' late
    trivial

/-- The conditions of R24 that a checked geometry meets, as the units read them. -/
theorem geometryCheck_zero {g : Geometry} {anchor : Nat} (h : geometryCheck g anchor = 0) :
    (g.slots = 16 ∨ g.slots = 32 ∨ g.slots = 64 ∨ g.slots = 128 ∨ g.slots = 256) ∧
    ∀ a, ¬ ((g.imageBase ≤ a ∧ a < g.imageBase + g.bands * g.height * (g.dots / 8)) ∧
      (g.ringBase ≤ a ∧ a < g.ringBase + g.slots * 16)) := by
  have all := (geometryRules g anchor).1.1 h
  exact ⟨all 7, all 12⟩

/-! ### Late writes -/

/-- R3: a byte of the image window lies in the band its offset gives, and no other byte in any. -/
theorem bandAt_eq (g : Geometry) (a : Nat) : g.bandAt a =
    if g.imageBase ≤ a ∧ a < g.imageBase + g.bands * g.height * (g.dots / 8) then
      some ((a - g.imageBase) / (g.height * (g.dots / 8))) else none := by
  rw [Nat.mul_assoc]
  rfl

/-- R27: the owned span covers a slot exactly when one of its indices falls on it. -/
theorem ownsSlot_iff {g : Geometry} {retire producer : Idx} {k : Nat}
    (slots : g.slots = 16 ∨ g.slots = 32 ∨ g.slots = 64 ∨ g.slots = 128 ∨ g.slots = 256)
    (small : k < g.slots) : ownsSlot g retire producer k = true ↔
      ∃ i : Idx, (i - retire).toNat < (producer - retire).toNat ∧ i.toNat % g.slots = k := by
  refine decide_eq_true_iff.trans ?_
  have bound := retire.isLt
  have wrap : (k + g.slots - retire.toNat % g.slots) % g.slots < 65536 :=
    Nat.lt_of_lt_of_le (Nat.mod_lt _ (by omega)) (by omega)
  constructor
  · intro covered
    refine ⟨retire + BitVec.ofNat 16 ((k + g.slots - retire.toNat % g.slots) % g.slots), ?_, ?_⟩
    · rw [add_sub_cancel_left, BitVec.toNat_ofNat, Nat.mod_eq_of_lt wrap]
      exact covered
    · rw [BitVec.toNat_add, BitVec.toNat_ofNat]
      rcases slots with e | e | e | e | e <;> rw [e] at small ⊢ <;> omega
  · rintro ⟨i, within, rfl⟩
    refine Nat.lt_of_le_of_lt ?_ within
    have := i.isLt
    rw [BitVec.toNat_sub]
    rcases slots with e | e | e | e | e <;> rw [e] <;> omega

theorem slotAt_eq {g : Geometry} {a : Nat} (h : g.ringBase ≤ a ∧ a < g.ringBase + 16 * g.slots) :
    g.slotAt a = some ((a - g.ringBase) / 16) := if_pos h

/-- Settles O11: under a checked geometry window and ring share no byte, so an address is judged by one alone. -/
theorem lateWrites : Obligations.LateWrites := by
  intro s g a engaged geometry checked band slot inWindow inRing owned
  obtain ⟨slots, distinct⟩ := geometryCheck_zero checked
  have geo : s.geo = g := by rw [State.geo, geometry]; rfl
  have owns : inRing → (ownsSlot g s.rrd.retire s.rrd.producer slot = true ↔ owned) := fun ⟨low, high⟩ =>
    ownsSlot_iff slots (by omega)
  have outside : inRing → ¬ inWindow := fun ring window =>
    distinct a ⟨window, by omega⟩
  have inBand : inWindow → lateWrite s a = if s.bht.held band then some band else none := fun window => by
    rw [lateWrite, if_pos engaged, geo, bandAt_eq, if_pos window]
  have inSlot : inRing → lateWrite s a =
      if ownsSlot g s.rrd.retire s.rrd.producer slot then some (0x80 + slot) else none := fun ring => by
    rw [lateWrite, if_pos engaged, geo, bandAt_eq, if_neg (outside ring), slotAt_eq ring]
  refine ⟨fun window held => ?_, fun window free => ?_, fun ring own => ?_, fun ring own => ?_,
    fun noWindow noRing => ?_⟩
  · rw [inBand window, if_pos (by simpa [Bht.held] using held)]
  · rw [inBand window, if_neg (by simp [Bht.held, free])]
  · rw [inSlot ring, if_pos ((owns ring).2 own)]
  · rw [inSlot ring, if_neg (mt (owns ring).1 own)]
  · rw [lateWrite, if_pos engaged, geo, bandAt_eq, if_neg noWindow]
    have none_ : g.slotAt a = none := if_neg noRing
    rw [none_]

/-! ## Grants of the part's writes -/

theorem grantUntil_next {done : State → Bool} {s : State} (n : Nat) (h : done s = false) :
    grantUntil done (n + 1) s = grantUntil done n (grantNext s) := by
  rw [grantUntil, h]
  rfl

theorem grantUntil_done {done : State → Bool} {s : State} (n : Nat) (h : done s = true) :
    grantUntil done n s = s := by
  cases n with
  | zero => rfl
  | succ n => rw [grantUntil, if_pos h]

theorem portFuel_eq (s : State) : s.portFuel = (rowFuel - 1 + s.bpu.waiting.length) + 1 := by
  unfold State.portFuel rowFuel
  omega

/-- One grant serves the transfers `p` names where none waits after it. -/
theorem grantAll_once {p : Transfer → Bool} {s : State} (waits : s.bpu.waiting.any p = true)
    (clear : (grantNext s).bpu.waiting.any p = false) : grantAll p s = grantNext s := by
  rw [grantAll, portFuel_eq, grantUntil_next _ (by rw [waits]; rfl)]
  exact grantUntil_done _ (by rw [clear]; rfl)

theorem grantOne_once {p : Transfer → Bool} {s : State} (waits : s.bpu.waiting.any p = true)
    (fewer : (grantNext s).bpu.waiting.countP p < s.bpu.waiting.countP p) : grantOne p s = grantNext s := by
  rw [grantOne, if_pos waits, portFuel_eq, grantUntil_next _ (by simp)]
  exact grantUntil_done _ (decide_eq_true fewer)

/-- R32: with no row fetch waiting the next waiting transfer is granted. -/
theorem grantNext_of {s : State} {t : Transfer} (row : rowWaits s = false)
    (next : nextTransfer s.bpu.waiting = some t) : grantNext s =
      performTransfer t { s with bpu := { s.bpu with waiting := s.bpu.waiting.erase t } } := by
  unfold grantNext
  rw [row, next]
  rfl

/-- R32: a status write is no descriptor fetch. -/
theorem Transfer.isDescriptor_status {x : Transfer} (h : x.isStatus = true) : x.isDescriptor = false := by
  unfold Transfer.isStatus at h
  split at h
  · rfl
  · rfl
  · rfl
  · cases h

/-- R32, R33: with no descriptor fetch waiting the oldest transfer is next, but for a vector write that passes
status writes. -/
theorem nextTransfer_writes {t : Transfer} {rest : List Transfer} (h : ∀ x ∈ t :: rest, x.isDescriptor = false) :
    nextTransfer (t :: rest) = if t.isStatus && (t :: rest).contains .vector then some .vector else some t := by
  have none_ : (t :: rest).find? Transfer.isDescriptor = none :=
    List.find?_eq_none.2 fun x hx => by simp [h x hx]
  simp only [nextTransfer, none_, List.head?_cons]

theorem nextTransfer_head {t : Transfer} {rest : List Transfer}
    (h : ∀ x ∈ t :: rest, x.isDescriptor = false) (plain : t.isStatus = true → .vector ∉ t :: rest) :
    nextTransfer (t :: rest) = some t := by
  rw [nextTransfer_writes h]
  refine if_neg ?_
  rw [Bool.and_eq_true, List.contains_iff_mem]
  exact fun ⟨status, vector⟩ => plain status vector

/-- R32: a vector write passes the status writes before it. -/
theorem nextTransfer_vector {before after : List Transfer} (h : ∀ x ∈ before, x.isStatus = true)
    (rest : ∀ x ∈ after, x.isDescriptor = false) :
    nextTransfer (before ++ .vector :: after) = some .vector := by
  have writes : ∀ x ∈ before ++ .vector :: after, x.isDescriptor = false := by
    intro x hx
    rcases List.mem_append.1 hx with early | late
    · exact Transfer.isDescriptor_status (h x early)
    · rcases List.mem_cons.1 late with rfl | last
      · rfl
      · exact rest x last
  cases before with
  | nil => exact nextTransfer_writes writes
  | cons x xs =>
    refine (nextTransfer_writes writes).trans (if_pos ?_)
    rw [Bool.and_eq_true, List.contains_iff_mem]
    exact ⟨h x (by simp), by simp⟩

/-- R185: the vector word's bytes. -/
theorem vectorBytes_eq (s : State) : vectorBytes s = match s.asu.offer with
    | none => [7, 0, 0, 0]
    | some n =>
      let r := s.asu.records.get n
      [BitVec.ofNat 8 (n.priority + 16 * r.code), BitVec.ofNat 8 r.count,
        r.arg.truncate 8, (r.arg >>> 8).truncate 8] := by
  cases offer : s.asu.offer with
  | none =>
    rw [vectorBytes, offer]
    rfl
  | some n =>
    have low : BitVec.ofNat 8 (s.asu.records.get n).arg.toNat = (s.asu.records.get n).arg.truncate 8 :=
      BitVec.ofNat_toNat 8 _
    have high : BitVec.ofNat 8 ((s.asu.records.get n).arg.toNat / 256) =
        ((s.asu.records.get n).arg >>> 8).truncate 8 := by
      apply BitVec.eq_of_toNat_eq
      simp [Nat.shiftRight_eq_div_pow]
    simp only [vectorBytes, offer, leBytes, low, high, List.cons_append, List.nil_append]

/-- Settles O24. -/
theorem vectorWordWrite : Obligations.VectorWordWrite := by
  intro s before after queue status writes row _
  refine ⟨_, rfl, ?_⟩
  have absent : .vector ∉ before := fun h => nomatch status _ h
  have granted : grantNext s =
      { s with bpu := { s.bpu with waiting := before ++ after } }.store (s.anchor + 0x10) (vectorBytes s) := by
    have erased : (before ++ Transfer.vector :: after).erase .vector = before ++ after := by
      rw [List.erase_append_right _ absent, List.erase_cons_head]
    rw [grantNext_of row (by rw [queue]; exact nextTransfer_vector status fun x hx => (writes x hx).1),
      queue, erased]
    rfl
  have waits : s.bpu.waiting.any (fun t => t == .vector) = true := by rw [queue]; simp
  have clear : (before ++ after).any (fun t => t == .vector) = false := by
    rw [List.any_eq_false]
    intro x hx
    rcases List.mem_append.1 hx with early | late
    · exact fun same => absent (beq_iff_eq.1 same ▸ early)
    · exact fun same => (writes x late).2 (beq_iff_eq.1 same)
  have run : grantAll (fun t => t == .vector) s = grantNext s :=
    grantAll_once waits (by rw [granted]; exact clear)
  rw [run, granted, vectorBytes_eq]
  refine ⟨rfl, storedAt_store _ _ _ ?_⟩
  split
  · decide
  · exact Nat.le_of_ble_eq_true rfl

/-- Settles O26. -/
theorem outcomeWrite : Obligations.OutcomeWrite := by
  refine ⟨fun s at_ data rest queue writes row => ⟨_, rfl, ?_⟩, fun s none_ => ?_⟩
  · have first_ : ∀ x ∈ Transfer.outcome at_ data :: rest, x.isDescriptor = false := by
      simpa using ⟨rfl, writes⟩
    have granted : grantNext s =
        { s with bpu := { s.bpu with waiting := rest } }.store at_ (leBytes 4 data.toNat) := by
      rw [grantNext_of row (by rw [queue]; exact nextTransfer_head first_ nofun), queue, List.erase_cons_head]
      rfl
    have fewer : rest.countP Transfer.isOutcome < s.bpu.waiting.countP Transfer.isOutcome := by
      rw [queue, List.countP_cons_of_pos rfl]
      omega
    have run : grantOne Transfer.isOutcome s = grantNext s :=
      grantOne_once (by rw [queue]; rfl) (by rw [granted]; exact fewer)
    rw [run, granted]
    exact ⟨rfl, storedAt_store _ _ _ (by rw [leBytes_length]; decide)⟩
  · have idle : ¬ s.bpu.waiting.any Transfer.isOutcome = true := by
      rw [List.any_eq_true]
      rintro ⟨x, hx, outcome⟩
      rw [none_ x hx] at outcome
      cases outcome
    exact congrArg Host.Outcome.next (if_neg idle)

/-! ## The status block -/

/-- The bytes of little-endian fields in a row, each given by its size and value. -/
def fieldBytes (fields : List (Nat × Nat)) : List Byte := fields.flatMap fun f => leBytes f.1 f.2

/-- Where field `k` stands. -/
def fieldOffset (fields : List (Nat × Nat)) (k : Nat) : Nat := ((fields.take k).map Prod.fst).sum

theorem fieldBytes_append (a b : List (Nat × Nat)) : fieldBytes (a ++ b) = fieldBytes a ++ fieldBytes b :=
  List.flatMap_append

theorem fieldBytes_cons (f : Nat × Nat) (b : List (Nat × Nat)) :
    fieldBytes (f :: b) = leBytes f.1 f.2 ++ fieldBytes b := List.flatMap_cons

theorem fieldBytes_length (fields : List (Nat × Nat)) :
    (fieldBytes fields).length = (fields.map Prod.fst).sum := by
  simp [fieldBytes, List.length_flatMap]

/-- A number cut to a field is read back from its bytes. -/
theorem leNat_leBytes_mod (n x : Nat) : leNat (leBytes n x) = x % 256 ^ n := by
  induction n generalizing x with
  | zero => simp [leBytes, leNat, Nat.mod_one]
  | succ n ih =>
    have size : 256 ^ (n + 1) = 256 * 256 ^ n := Nat.pow_succ'
    rw [leBytes, leNat, ih, BitVec.toNat_ofNat, size]
    exact Nat.mod_mul.symm

/-- The field at its offset is its value, cut to its size. -/
theorem field_fieldBytes (fields : List (Nat × Nat)) (k : Nat) (hk : k < fields.length) :
    field (fieldOffset fields k) fields[k].1 (fieldBytes fields) = fields[k].2 % 256 ^ fields[k].1 := by
  have parts : fieldBytes fields = fieldBytes (fields.take k) ++
      (leBytes fields[k].1 fields[k].2 ++ fieldBytes (fields.drop (k + 1))) := by
    rw [← fieldBytes_cons, ← List.drop_eq_getElem_cons hk, ← fieldBytes_append, List.take_append_drop]
  rw [field, parts, fieldOffset, ← fieldBytes_length, List.drop_left, ← leNat_leBytes_mod]
  congr 1
  exact List.take_left' (leBytes_length _ _)

/-- R185: the fields of the body, from 104H on. -/
def bodyFields (s : State) : List (Nat × Nat) :=
  [(1, s.lcu.engine.code.1), (1, s.lcu.engine.code.2), (1, s.lcu.faults.byte), (1, s.htu.supply.code),
   (2, s.rrd.producer.toNat), (2, s.rrd.take.toNat), (2, s.rrd.walk.toNat), (2, s.rrd.retire.toNat),
   (4, s.mtu.position.toNat),
   (1, s.bht.free), (1, s.mtu.ramp), (1, s.msu.valid.toNat), (1, s.msu.polarityByte), (2, s.msu.calPitch),
   (2, s.msu.calGap), (2, s.msu.lastPitch), (1, s.msu.queue.length), (1, s.htu.grade.rank),
   (1, (BitVec.ofInt 8 s.htu.theta).toNat), (1, s.asu.settingsResult), (1, s.asu.engageResult.code),
   (1, s.asu.offendingField),
   (2, horizon s), (2, s.shown fun c => c.tag.toNat), (2, s.shown fun c => c.copy),
   (2, s.shown fun c => c.good), (2, s.shown fun c => c.spoiled), (2, s.lcu.stretches), (2, s.lcu.stalls),
   (2, s.lcu.thermalStops), (4, s.hdu.fired.toNat), (2, s.shown fun c => c.stretches),
   (2, s.shown fun c => c.stalls), (2, s.shown fun c => c.thermalStops), (2, 0)]

theorem statusBody_fields (s : State) : statusBody s = fieldBytes (bodyFields s) := by
  simp [statusBody, bodyOwners, bodyMedia, bodyCounts, fieldBytes, bodyFields]

theorem statusBody_length (s : State) : (statusBody s).length = 60 := by
  rw [statusBody_fields, fieldBytes_length]
  simp [bodyFields]

/-- R185: the sizes of the fields, whatever they hold. -/
def bodySizes : List Nat :=
  [1, 1, 1, 1, 2, 2, 2, 2, 4, 1, 1, 1, 1, 2, 2, 2, 1, 1, 1, 1, 1, 1, 2, 2, 2, 2, 2, 2, 2, 2, 4, 2, 2, 2, 2]

/-- R185: field `k` of the body, cut to its size. -/
theorem field_statusBody (s : State) (k : Nat) {offset n x : Nat} (entry : (bodyFields s)[k]? = some (n, x))
    (place : (bodySizes.take k).sum = offset) : field offset n (statusBody s) = x % 256 ^ n := by
  obtain ⟨hk, value⟩ := List.getElem?_eq_some_iff.1 entry
  have sizes : (bodyFields s).map Prod.fst = bodySizes := rfl
  have stands := field_fieldBytes (bodyFields s) k hk
  rwa [value, fieldOffset, List.map_take, sizes, place, ← statusBody_fields] at stands

/-- R185: a field of the body that fits its size. -/
theorem field_statusBody_fits (s : State) (k : Nat) {offset n x : Nat}
    (entry : (bodyFields s)[k]? = some (n, x)) (place : (bodySizes.take k).sum = offset) (fits : x < 256 ^ n) :
    field offset n (statusBody s) = x :=
  (field_statusBody s k entry place).trans (Nat.mod_eq_of_lt fits)

/-- R185: bit `n - 1` of the fault byte is reason `n`. -/
theorem FaultSet.byte_testBit (f : FaultSet) (r : FaultReason) : f.byte.testBit (r.code - 1) = f.get r := by
  obtain ⟨a, b, c, d, e, g⟩ := f
  have all : ∀ a b c d e g : Bool, ∀ k : Fin 6,
      (a.toNat + 2 * b.toNat + 4 * c.toNat + 8 * d.toNat + 16 * e.toNat + 32 * g.toNat).testBit k =
        [a, b, c, d, e, g][k] := by decide
  cases r
  case thermalTrip => exact all a b c d e g 0
  case thermSensor => exact all a b c d e g 1
  case supply => exact all a b c d e g 2
  case headOpen => exact all a b c d e g 3
  case paperOut => exact all a b c d e g 4
  case gapMissing => exact all a b c d e g 5

theorem FaultSet.byte_lt (f : FaultSet) : f.byte < 256 ∧ f.byte < 64 := by
  have le : ∀ b : Bool, b.toNat ≤ 1 := Bool.toNat_le
  have := le f.thermalTrip
  have := le f.thermSensor
  have := le f.supply
  have := le f.headOpen
  have := le f.paperOut
  have := le f.gapMissing
  unfold FaultSet.byte
  omega

theorem horizon_lt (s : State) : horizon s < 65536 :=
  Nat.lt_succ_of_le (Nat.min_le_left _ _)

theorem State.shown_lt (s : State) {f : Context → Nat} {n : Nat} (pos : 0 < n) (h : ∀ c, f c < n) :
    s.shown f < n := by
  unfold State.shown
  cases s.lcu.printing with
  | none => exact pos
  | some c => exact h c

theorem Engine.code_lt (e : Engine) : e.code.1 < 256 ∧ e.code.2 < 256 := by
  unfold Engine.code
  split <;> decide

theorem Supply.code_lt (x : Supply) : x.code < 256 := by cases x <;> decide

theorem Grade.rank_lt (x : Grade) : x.rank < 256 := by cases x <;> decide

theorem EngageResult.code_lt (x : EngageResult) : x.code < 256 := by cases x <;> decide

theorem Msu.polarityByte_lt (m : Msu) : m.polarityByte < 256 := by
  unfold Msu.polarityByte
  split <;> split <;> decide

/-- R185: what stands at each offset of the body. -/
def BodyLaidOut (s : State) : Prop :=
    let at_ (offset size : Nat) : Nat := field (offset - 4) size (statusBody s)
    let shown (f : Context → Nat) : Nat := match s.lcu.printing with
      | none => 0
      | some c => f c
    at_ 0x04 1 = (match s.lcu.engine with
      | .unconfigured => 0
      | .idle => 1
      | .arming => 2
      | .seeking => 3
      | .printing => 4
      | .stalled => 5
      | .holding _ => 6
      | .presenting _ => 7
      | .feeding => 8
      | .calibrating _ => 9
      | .faulted => 10) ∧
    at_ 0x05 1 = (match s.lcu.engine with
      | .holding .pause => 1
      | .holding .thermal => 2
      | .presenting .atEnd => 1
      | .presenting .stop => 2
      | .calibrating .item => 1
      | .calibrating .arming => 2
      | _ => 0) ∧
    at_ 0x06 1 < 64 ∧ (∀ r : FaultReason, (at_ 0x06 1).testBit (r.code - 1) = s.lcu.faults.get r) ∧
    at_ 0x07 1 = (match s.htu.supply with
      | .off => 0
      | .settling => 1
      | .on => 2) ∧
    at_ 0x08 2 = s.rrd.producer.toNat ∧ at_ 0x0A 2 = s.rrd.take.toNat ∧
    at_ 0x0C 2 = s.rrd.walk.toNat ∧ at_ 0x0E 2 = s.rrd.retire.toNat ∧
    at_ 0x10 4 = s.mtu.position.toNat ∧
    at_ 0x14 1 = s.bht.free % 256 ∧ at_ 0x15 1 = s.mtu.ramp % 256 ∧
    at_ 0x16 1 = (if s.msu.valid then 1 else 0) ∧
    at_ 0x17 1 = (match s.msu.polarity with
      | .unknown => 0
      | .gapHigh => 1
      | .gapLow => 2) + (if s.msu.calibrated then 128 else 0) ∧
    at_ 0x18 2 = s.msu.calPitch % 65536 ∧ at_ 0x1A 2 = s.msu.calGap % 65536 ∧
    at_ 0x1C 2 = s.msu.lastPitch % 65536 ∧ at_ 0x1E 1 = s.msu.queue.length % 256 ∧
    at_ 0x1F 1 = (match s.htu.grade with
      | .normal => 0
      | .slow => 1
      | .hold => 2
      | .trip => 3) ∧
    (at_ 0x20 1 : Int) = s.htu.theta.emod 256 ∧ at_ 0x21 1 = s.asu.settingsResult % 256 ∧
    at_ 0x22 1 = (match s.asu.engageResult with
      | .none => 0
      | .success => 1
      | .refused => 2) ∧
    at_ 0x23 1 = s.asu.offendingField % 256 ∧
    at_ 0x24 2 = horizon s ∧ at_ 0x26 2 = shown (fun c => c.tag.toNat) ∧
    at_ 0x28 2 = shown (fun c => c.copy) % 65536 ∧ at_ 0x2A 2 = shown (fun c => c.good) % 65536 ∧
    at_ 0x2C 2 = shown (fun c => c.spoiled) % 65536 ∧
    at_ 0x2E 2 = s.lcu.stretches % 65536 ∧ at_ 0x30 2 = s.lcu.stalls % 65536 ∧
    at_ 0x32 2 = s.lcu.thermalStops % 65536 ∧ at_ 0x34 4 = s.hdu.fired.toNat ∧
    at_ 0x38 2 = shown (fun c => c.stretches) % 65536 ∧
    at_ 0x3A 2 = shown (fun c => c.stalls) % 65536 ∧
    at_ 0x3C 2 = shown (fun c => c.thermalStops) % 65536 ∧ at_ 0x3E 2 = 0

theorem bodyLaidOut (s : State) : BodyLaidOut s := by
  unfold BodyLaidOut
  intro at_ shown
  have fits := @field_statusBody_fits s
  have cut := @field_statusBody s
  have seen : ∀ f, s.shown f = shown f := fun f => by
    simp only [State.shown, shown]
    cases s.lcu.printing <;> rfl
  have some_ : ∀ {x f}, x = s.shown f % 65536 → x = shown f % 65536 := fun h =>
    h.trans (congrArg (· % 65536) (seen _))
  have tag : s.shown (fun c => c.tag.toNat) < 65536 := s.shown_lt (by decide) fun c => c.tag.isLt
  have state : at_ 4 1 = s.lcu.engine.code.1 := fits 0 rfl (by decide) (Engine.code_lt _).1
  have reason : at_ 5 1 = s.lcu.engine.code.2 := fits 1 rfl (by decide) (Engine.code_lt _).2
  have faults : at_ 6 1 = s.lcu.faults.byte :=
    fits 2 rfl (by decide) (FaultSet.byte_lt _).1
  have supply : at_ 7 1 = s.htu.supply.code := fits 3 rfl (by decide) (Supply.code_lt _)
  have grade : at_ 0x1F 1 = s.htu.grade.rank := fits 17 rfl (by decide) (Grade.rank_lt _)
  have result : at_ 0x22 1 = s.asu.engageResult.code :=
    fits 20 rfl (by decide) (EngageResult.code_lt _)
  have polarity : at_ 0x17 1 = s.msu.polarityByte := fits 12 rfl (by decide) (Msu.polarityByte_lt _)
  have theta : at_ 0x20 1 = (BitVec.ofInt 8 s.htu.theta).toNat := fits 18 rfl (by decide) (BitVec.isLt _)
  have zero_ : at_ 0x3E 2 = 0 := fits 34 rfl (by decide) (Nat.zero_lt_of_lt (by decide : 0 < 65536))
  refine ⟨state.trans ?_, reason.trans ?_, faults ▸ (FaultSet.byte_lt _).2, fun r => ?_, supply.trans ?_,
    fits 4 rfl (by decide) (BitVec.isLt _), fits 5 rfl (by decide) (BitVec.isLt _), fits 6 rfl (by decide) (BitVec.isLt _),
    fits 7 rfl (by decide) (BitVec.isLt _), fits 8 rfl (by decide) (BitVec.isLt _), cut 9 rfl (by decide), cut 10 rfl (by decide),
    (fits 11 rfl (by decide) (Nat.lt_of_le_of_lt (Bool.toNat_le _) (by decide))).trans ?_, polarity.trans ?_, cut 13 rfl (by decide),
    cut 14 rfl (by decide), cut 15 rfl (by decide), cut 16 rfl (by decide), grade.trans ?_, ?_, cut 19 rfl (by decide),
    result.trans ?_, cut 21 rfl (by decide), fits 22 rfl (by decide) (horizon_lt s),
    (fits 23 rfl (by decide) tag).trans (seen _), some_ (cut 24 rfl (by decide)),
    some_ (cut 25 rfl (by decide)), some_ (cut 26 rfl (by decide)), cut 27 rfl (by decide), cut 28 rfl (by decide),
    cut 29 rfl (by decide), fits 30 rfl (by decide) (BitVec.isLt _), some_ (cut 31 rfl (by decide)),
    some_ (cut 32 rfl (by decide)), some_ (cut 33 rfl (by decide)), zero_⟩
  · unfold Engine.code
    split <;> simp only [*]
  · unfold Engine.code
    split <;> simp only [*]
  · rw [faults, FaultSet.byte_testBit]
  · unfold Supply.code
    split <;> simp only [*]
  · cases s.msu.valid <;> rfl
  · unfold Msu.polarityByte
    split <;> simp only [*]
  · unfold Grade.rank
    split <;> simp only [*]
  · rw [theta, BitVec.toNat_ofInt]
    exact Int.toNat_of_nonneg (Int.emod_nonneg _ (by decide))
  · unfold EngageResult.code
    split <;> simp only [*]

/-! ### A status refresh -/

theorem Memory.writeBytes_append (m : Memory) (a : Nat) (x y : List Byte) :
    m.writeBytes a (x ++ y) = (m.writeBytes a x).writeBytes (a + x.length) y := by
  induction x generalizing m a with
  | nil => rfl
  | cons b x ih =>
    rw [List.cons_append, Memory.writeBytes, ih, List.length_cons, Memory.writeBytes]
    congr 1
    omega

theorem Memory.readBytes_add (m : Memory) (a i j : Nat) :
    m.readBytes a (i + j) = m.readBytes a i ++ m.readBytes (a + i) j := by
  induction i generalizing a with
  | zero => simp [Memory.readBytes]
  | succ i ih =>
    rw [Nat.add_right_comm, Memory.readBytes, ih, Memory.readBytes, List.cons_append]
    congr 3
    omega

/-- Runs of bytes that read alike. -/
theorem Memory.readBytes_congr {m n : Memory} {a k : Nat}
    (h : ∀ i < k, m.read (wrapAddr (a + i)) = n.read (wrapAddr (a + i))) : m.readBytes a k = n.readBytes a k := by
  induction k generalizing a with
  | zero => rfl
  | succ k ih =>
    rw [Memory.readBytes, Memory.readBytes, ih fun i hi => ?_]
    · rw [show m.read (wrapAddr a) = n.read (wrapAddr a) from h 0 (by omega)]
    · have := h (i + 1) (by omega)
      rwa [← Nat.add_assoc, Nat.add_right_comm] at this

/-- A run written again at its start holds the new start and the rest of the old run. -/
theorem Memory.readBytes_rewrite {m : Memory} (hm : Memory.wf m = true) (a : Nat) {x y rest : List Byte}
    (same : x.length = y.length) (fits : x.length + rest.length ≤ Config.memorySize) :
    ((m.writeBytes a (x ++ rest)).writeBytes a y).readBytes a (y.length + rest.length) = y ++ rest := by
  have first_ := Memory.writeBytes_wf hm a (x ++ rest)
  rw [Memory.readBytes_add, Memory.readBytes_writeBytes first_ a y (by omega)]
  congr 1
  have apart : ∀ i < rest.length, ¬ touches a y.length (wrapAddr (a + y.length + i)) := by
    rintro i hi ⟨k, hk, eq⟩
    rw [Nat.add_assoc] at eq
    exact wrapAddr_ne a (by omega) (by omega) (by omega) eq
  rw [Memory.readBytes_congr fun i hi => Memory.read_writeBytes_ne _ a y (apart i hi),
    Memory.writeBytes_append, same]
  exact Memory.readBytes_writeBytes (Memory.writeBytes_wf hm a x) _ rest (by omega)

/-- A transfer granted. -/
def State.grant (s : State) (x : Transfer) : State :=
  performTransfer x { s with bpu := { s.bpu with waiting := s.bpu.waiting.erase x } }

theorem rowWaits_grant (s : State) (x : Transfer) : rowWaits (s.grant x) = rowWaits s := by
  unfold State.grant rowWaits State.geo
  rw [performTransfer_rsu, performTransfer_bpu_geometry]

/-- R31, R32: where nothing passes the waiting transfers they are granted in order, up to the first that `p`
names. -/
theorem grantUntil_run {p : Transfer → Bool} {x : Transfer} {rest : List Transfer} (closes : p x = true) (n : Nat)
    (ws : List Transfer) : ∀ s : State, s.bpu.waiting = ws ++ x :: rest → (∀ y ∈ ws, p y = false) →
    (∀ y ∈ ws ++ x :: rest, y.isDescriptor = false ∧ y ≠ .vector) → rowWaits s = false →
    grantUntil (fun t => decide (t.bpu.waiting.countP p < rest.countP p + 1)) (n + ws.length + 1) s =
      (ws ++ [x]).foldl State.grant s := by
  have head : ∀ {y : Transfer} {w : List Transfer} (s : State), s.bpu.waiting = y :: w →
      (∀ z ∈ y :: w, z.isDescriptor = false ∧ z ≠ .vector) → rowWaits s = false →
      grantNext s = s.grant y ∧ (s.grant y).bpu.waiting = w := by
    intro y w s queue quiet row
    refine ⟨grantNext_of row ?_, ?_⟩
    · rw [queue]
      exact nextTransfer_head (fun z hz => (quiet z hz).1) fun _ there => (quiet _ there).2 rfl
    · rw [State.grant, performTransfer_bpu_waiting, queue]
      exact List.erase_cons_head y w
  induction ws with
  | nil =>
    intro s queue _ quiet row
    obtain ⟨granted, left⟩ := head s queue quiet row
    have going : decide (s.bpu.waiting.countP p < rest.countP p + 1) = false := decide_eq_false (by
      rw [queue, List.nil_append, List.countP_cons_of_pos closes]
      omega)
    rw [List.length_nil, grantUntil_next _ going, granted]
    exact grantUntil_done _ (decide_eq_true (by rw [left]; omega))
  | cons y ws ih =>
    intro s queue plain quiet row
    obtain ⟨granted, left⟩ := head s queue quiet row
    have going : decide (s.bpu.waiting.countP p < rest.countP p + 1) = false := decide_eq_false (by
      rw [queue, List.countP_append, List.countP_cons_of_pos closes]
      omega)
    rw [List.length_cons, ← Nat.add_assoc, grantUntil_next _ going, granted,
      ih _ left (fun z hz => plain z (List.mem_cons_of_mem _ hz))
        (fun z hz => quiet z (List.mem_cons_of_mem _ hz)) (by rw [rowWaits_grant, row])]
    rfl

/-- R180: the pieces the body is written in. -/
theorem statusBody_pieces (s : State) :
    let b := (statusBody s).take Config.bodyBytes
    let piece (k : Nat) := (b.drop (16 * k)).take Config.transferBytes
    piece 0 ++ (piece 1 ++ (piece 2 ++ piece 3)) = statusBody s ∧
      (piece 0).length = 16 ∧ (piece 1).length = 16 ∧ (piece 2).length = 16 := by
  intro b piece
  have size := statusBody_length s
  have whole : b = statusBody s := List.take_of_length_le (by rw [size]; decide)
  have last : piece 3 = b.drop 48 := List.take_of_length_le (by simp [whole, size, Config.transferBytes])
  have join : ∀ k, (b.drop k).take 16 ++ b.drop (k + 16) = b.drop k := fun k => by
    rw [← List.drop_drop, List.take_append_drop]
  refine ⟨?_, by simp [piece, whole, size, Config.transferBytes], by simp [piece, whole, size, Config.transferBytes],
    by simp [piece, whole, size, Config.transferBytes]⟩
  rw [last]
  exact ((congrArg (piece 0 ++ ·) ((congrArg (piece 1 ++ ·) (join 32)).trans (join 16))).trans (join 0)).trans
    whole

/-- The even sequence write closes a refresh. -/
def Transfer.closesRefresh (x : Transfer) : Bool := x == .statusEven

/-- R180: memory after the writes of a refresh whose block stands at `a`: odd sequence, body, even sequence. -/
def refreshedMem (s : State) (a : Nat) : Memory :=
  (s.mem.writeBytes a (leBytes 4 (s.asu.sequence + 1).toNat ++ statusBody s)).writeBytes a
    (leBytes 4 (s.asu.sequence + 2).toNat)

/-- R90: the running sum reads the settings and the label contexts alone. -/
theorem horizonSum_congr {s t : State} (settings : t.settings = s.settings) (lcu : t.lcu = s.lcu)
    (runs : List CopyRun) : ∀ start tof tofs sum,
      horizonSum t start tof tofs sum runs = horizonSum s start tof tofs sum runs := by
  have cfg : t.cfg = s.cfg := by rw [State.cfg, settings]; rfl
  have gapped : t.gapped = s.gapped := by rw [State.gapped, cfg]; rfl
  have length : ∀ l, t.lengthOf l = s.lengthOf l := fun l => by rw [State.lengthOf, lcu]; rfl
  induction runs with
  | nil => exact fun _ _ _ _ => rfl
  | cons r rest ih =>
    intro start tof tofs sum
    simp only [horizonSum, copyEndOf, cfg, gapped, length, ih]

/-- R90: the horizon reads the stream, the label contexts, the print line, the queued TOFs and the settings. -/
theorem horizon_congr {s t : State} (settings : t.settings = s.settings := by rfl)
    (lcu : t.lcu = s.lcu := by rfl) (position : t.mtu.position = s.mtu.position := by rfl)
    (queue : t.msu.queue = s.msu.queue := by rfl) (rsu : t.rsu = s.rsu := by rfl) : horizon t = horizon s := by
  rw [horizon, State.firstStart, horizonSum_congr settings lcu, lcu, position, queue, rsu]
  rfl

/-- R180: the body does not show the port. -/
theorem statusBody_waiting (s : State) (w : List Transfer) :
    statusBody { s with bpu := { s.bpu with waiting := w } } = statusBody s := by
  have ahead : horizon { s with bpu := { s.bpu with waiting := w } } = horizon s := horizon_congr
  rw [statusBody, bodyCounts, ahead]
  rfl

/-- R180: `s` with a refresh in progress: memory, the waiting transfers and the captured body. -/
def State.refreshing (s : State) (m : Memory) (w : List Transfer) (b : List Byte) : State :=
  { s with mem := m, bpu := { s.bpu with waiting := w }, asu := { s.asu with capture := some b } }

/-- R180: the odd write captures the body. -/
theorem grant_odd (s : State) : s.grant .statusOdd =
    s.refreshing (s.mem.writeBytes (s.anchor + 0x100) (leBytes 4 (s.asu.sequence + 1).toNat))
      (s.bpu.waiting.erase .statusOdd) (statusBody s) := by
  rw [State.grant, performTransfer, statusBody_waiting]
  rfl

theorem grant_body (s : State) (m : Memory) (w : List Transfer) (b : List Byte) (k : Nat) :
    (s.refreshing m w b).grant (.statusBody k) = s.refreshing
      (m.writeBytes (s.anchor + 0x104 + 16 * k)
        (((b.take Config.bodyBytes).drop (16 * k)).take Config.transferBytes))
      (w.erase (.statusBody k)) b := rfl

theorem grant_even (s : State) (m : Memory) (w : List Transfer) (b : List Byte) :
    (s.refreshing m w b).grant .statusEven = { s with
      mem := m.writeBytes (s.anchor + 0x100) (leBytes 4 (s.asu.sequence + 2).toNat)
      bpu := { s.bpu with waiting := w.erase .statusEven }
      asu := { s.asu with sequence := s.asu.sequence + 2, capture := none } } := rfl

/-- R180: odd sequence and body are written as one run of bytes. -/
theorem refreshedMem_eq (s : State) (a : Nat) :
    let b := (statusBody s).take Config.bodyBytes
    let piece (k : Nat) := (b.drop (16 * k)).take Config.transferBytes
    (((((s.mem.writeBytes (a + 0x100) (leBytes 4 (s.asu.sequence + 1).toNat)).writeBytes (a + 0x104 + 16 * 0)
      (piece 0)).writeBytes (a + 0x104 + 16 * 1) (piece 1)).writeBytes (a + 0x104 + 16 * 2) (piece 2)).writeBytes
        (a + 0x104 + 16 * 3) (piece 3)).writeBytes (a + 0x100) (leBytes 4 (s.asu.sequence + 2).toNat) =
      refreshedMem s (a + 0x100) := by
  intro b piece
  obtain ⟨body, len0, len1, len2⟩ := statusBody_pieces s
  rw [refreshedMem, ← body]
  simp only [Memory.writeBytes_append, leBytes_length, len0, len1, len2, Nat.add_assoc, b, piece]

/-- R180: the six grants of a refresh. -/
theorem grantOne_refresh {s : State} {rest : List Transfer} (queue : s.bpu.waiting =
      .statusOdd :: .statusBody 0 :: .statusBody 1 :: .statusBody 2 :: .statusBody 3 :: .statusEven :: rest)
    (quiet : ∀ x ∈ rest, x.isDescriptor = false ∧ x ≠ .vector) (row : rowWaits s = false) :
    grantOne Transfer.closesRefresh s = { s with
      mem := refreshedMem s (s.anchor + 0x100)
      bpu := { s.bpu with waiting := rest }
      asu := { s.asu with sequence := s.asu.sequence + 2, capture := none } } := by
  let ws : List Transfer := [.statusOdd, .statusBody 0, .statusBody 1, .statusBody 2, .statusBody 3]
  have queued : s.bpu.waiting = ws ++ .statusEven :: rest := queue
  have plain : ∀ y ∈ ws, y.closesRefresh = false ∧ y.isDescriptor = false ∧ y ≠ .vector := by decide
  have all : ∀ y ∈ ws ++ .statusEven :: rest, y.isDescriptor = false ∧ y ≠ .vector := fun y hy => by
    rcases List.mem_append.1 hy with early | late
    · exact (plain y early).2
    · rcases List.mem_cons.1 late with rfl | last
      · exact ⟨rfl, nofun⟩
      · exact quiet y last
  have total : s.bpu.waiting.countP Transfer.closesRefresh = rest.countP Transfer.closesRefresh + 1 := by
    rw [queue]
    simp [Transfer.closesRefresh]
  have fuel : s.portFuel = rowFuel + rest.length + ws.length + 1 := by
    rw [State.portFuel, queue]
    rfl
  have waits : s.bpu.waiting.any Transfer.closesRefresh = true := by rw [queue]; rfl
  rw [grantOne, if_pos waits, fuel, total,
    grantUntil_run rfl _ ws s queued (fun y hy => (plain y hy).1) all row]
  simp only [ws, List.cons_append, List.nil_append, List.foldl_cons, List.foldl_nil]
  rw [grant_odd, grant_body, grant_body, grant_body, grant_body, grant_even]
  have mem := refreshedMem_eq s s.anchor
  have left : (((((s.bpu.waiting.erase .statusOdd).erase (.statusBody 0)).erase (.statusBody 1)).erase
      (.statusBody 2)).erase (.statusBody 3)).erase .statusEven = rest := by
    rw [queue]
    simp only [List.erase_cons_head]
  simp only [left]
  simp only at mem
  rw [mem]

/-- R180: a refresh leaves the even sequence and the body at its block, and every other byte as it was. -/
theorem storedAt_refresh {s t : State} {a : Nat} (mem : t.mem = refreshedMem s a) :
    StoredAt s t a (leBytes 4 (s.asu.sequence + 2).toNat ++ statusBody s) := by
  have body := statusBody_length s
  have size : (leBytes 4 (s.asu.sequence + 2).toNat ++ statusBody s).length =
      (leBytes 4 (s.asu.sequence + 2).toNat).length + (statusBody s).length := List.length_append
  refine ⟨fun wf => ?_, fun b out => ?_⟩
  · rw [size, mem]
    exact Memory.readBytes_rewrite wf a (by rw [leBytes_length, leBytes_length])
      (by rw [leBytes_length, body]; decide)
  · rw [size, leBytes_length, body] at out
    rw [mem]
    refine (Memory.read_writeBytes_ne _ _ _ fun ⟨k, hk, eq⟩ => out ⟨k, ?_, eq⟩).trans
      (Memory.read_writeBytes_ne _ _ _ fun ⟨k, hk, eq⟩ => out ⟨k, ?_, eq⟩)
    · rw [List.length_append, leBytes_length, body] at hk
      exact hk
    · rw [leBytes_length] at hk
      omega

/-- Settles O25. -/
theorem statusRefresh : Obligations.StatusRefresh := by
  refine ⟨bodyLaidOut, fun s rest queue quiet row => ?_⟩
  have run : exec .statusRefresh s = .next { s with
      mem := refreshedMem s (s.anchor + 0x100)
      bpu := { s.bpu with waiting := rest }
      asu := { s.asu with sequence := s.asu.sequence + 2, capture := none } } :=
    congrArg Host.Outcome.next (grantOne_refresh queue quiet row)
  generalize block : refreshedMem s (s.anchor + 0x100) = m at run
  exact ⟨_, run, rfl, storedAt_refresh block.symm, statusBody_length s⟩

/-! ## What follows a command, more closely -/

/-- R55: a refresh that waits before a retire advance waits after it. -/
theorem retireAdvance_refresh {s : State} (h : Transfer.statusOdd ∈ s.bpu.waiting) :
    Transfer.statusOdd ∈ (retireAdvance s).bpu.waiting := by
  unfold retireAdvance
  split
  · exact h
  · exact List.mem_append_right _ (by decide)

theorem settle_refresh {s : State} (h : Transfer.statusOdd ∈ s.bpu.waiting) :
    Transfer.statusOdd ∈ (settle s).bpu.waiting := by
  have queue : (settle s).bpu.waiting =
      (requestFetch (startReread (fillBuffer (retireAdvance s)))).bpu.waiting := by
    rw [settle_eq]
    simp
  rw [queue, requestFetch_waiting, startReread_waiting]
  refine List.mem_append_left _ (List.mem_append_left _ ?_)
  simpa using retireAdvance_refresh h

/-- R55: the run that retires, cut off the item table. -/
theorem FollowsUp.run {u t : State} (f : FollowsUp u t) : ∃ run rest, u.rrd.table = run ++ rest ∧
    t.rrd.retire = u.rrd.retire + BitVec.ofNat 16 run.length ∧ t.rrd.table = rest ∧
    t.bht = run.foldl (fun h e => h.releaseItem e.index) u.bht ∧
    t.bpu.waiting.filter Transfer.isOutcome =
      u.bpu.waiting.filter Transfer.isOutcome ++ outcomesOf u.geo u.bht run := by
  have split_ := (List.takeWhile_append_dropWhile (p := mayRetire u) (l := u.rrd.table)).symm
  refine ⟨_, _, split_, f.retires _ _ split_ (fun e he => ?_) fun e he => ?_⟩
  · have may := List.mem_takeWhile_imp he
    simpa [mayRetire] using may
  · rw [← mayRetire_eq_false]
    have none_ := List.head?_dropWhile_not (mayRetire u) u.rrd.table
    rw [Option.mem_def.1 he] at none_
    simpa using none_

/-- R9: with no hold recorded nothing is released. -/
theorem releaseItem_none {t : Bht} (h : t.release = []) (i : Idx) : t.releaseItem i = t := by
  unfold Bht.releaseItem
  rw [h]

theorem FollowsUp.bht_of_release {u t : State} (f : FollowsUp u t) (h : u.bht.release = []) : t.bht = u.bht := by
  obtain ⟨run, rest, -, -, -, bht, -⟩ := f.run
  have still : ∀ run : List ItemEntry, run.foldl (fun h e => h.releaseItem e.index) u.bht = u.bht := by
    intro run
    induction run with
    | nil => rfl
    | cons e run ih => rw [List.foldl_cons, releaseItem_none h, ih]
  rw [bht, still]

/-! ## The end of an engage -/

theorem foldl_erase_cons {p : Transfer → Bool} {a : Transfer} (h : p a = false) (ds w : List Transfer)
    (named : ∀ x ∈ ds, p x = true) : ds.foldl List.erase (a :: w) = a :: ds.foldl List.erase w := by
  induction ds generalizing w with
  | nil => rfl
  | cons d ds ih =>
    have other : a ≠ d := fun e => by
      have := named d (by simp)
      rw [← e, h] at this
      cases this
    rw [List.foldl_cons, List.foldl_cons, List.erase_cons_tail (by simpa using other),
      ih _ fun x hx => named x (List.mem_cons_of_mem _ hx)]

/-- Taking out one by one what `p` names leaves what it does not name. -/
theorem foldl_erase_filter (p : Transfer → Bool) (w : List Transfer) :
    (w.filter p).foldl List.erase w = w.filter fun x => !p x := by
  induction w with
  | nil => rfl
  | cons a w ih =>
    cases h : p a with
    | true =>
      rw [List.filter_cons_of_pos h, List.foldl_cons, List.erase_cons_head, ih,
        List.filter_cons_of_neg (by simp [h])]
    | false =>
      rw [List.filter_cons_of_neg (by simp [h]), List.filter_cons_of_pos (by simp [h]),
        foldl_erase_cons h _ _ fun x hx => (List.mem_filter.1 hx).2, ih]

theorem foldl_grant_waiting (ds : List Transfer) (s : State) :
    (ds.foldl State.grant s).bpu.waiting = ds.foldl List.erase s.bpu.waiting := by
  induction ds generalizing s with
  | nil => rfl
  | cons d ds ih =>
    rw [List.foldl_cons, ih, State.grant, performTransfer_bpu_waiting]
    rfl

theorem grantUntil_descriptors {p : Transfer → Bool} (ds : List Transfer) (n : Nat) : ∀ s : State,
    s.bpu.waiting.filter p = ds → (∀ x ∈ s.bpu.waiting, x.isDescriptor = p x) → rowWaits s = false →
    grantUntil (fun t => !(t.bpu.waiting.any p)) (n + ds.length) s = ds.foldl State.grant s := by
  induction ds with
  | nil =>
    intro s named _ _
    refine grantUntil_done _ ?_
    rw [← Bool.not_false]
    refine congrArg _ (List.any_eq_false.2 fun x hx => ?_)
    simpa using List.filter_eq_nil_iff.1 named x hx
  | cons d ds ih =>
    intro s named all row
    have first_ : s.bpu.waiting.find? p = some d := by rw [← List.head?_filter, named]; rfl
    have next : nextTransfer s.bpu.waiting = some d := by
      have same : s.bpu.waiting.find? Transfer.isDescriptor = s.bpu.waiting.find? p :=
        List.find?_congr all
      rw [nextTransfer, same, first_]
    have waits : s.bpu.waiting.any p = true :=
      List.any_eq_true.2 ⟨d, List.mem_of_find?_eq_some first_, List.find?_some first_⟩
    have left : (s.grant d).bpu.waiting = s.bpu.waiting.erase d := performTransfer_bpu_waiting _ _
    rw [List.length_cons, ← Nat.add_assoc, grantUntil_next _ (by rw [waits]; rfl), grantNext_of row next,
      List.foldl_cons]
    refine ih (s.grant d) ?_ (fun x hx => ?_) (by rw [rowWaits_grant, row])
    · rw [left, ← List.erase_filter, named, List.erase_cons_head]
    · rw [left] at hx
      exact all x (List.mem_of_mem_erase hx)

/-- R32: descriptor fetches that `p` names are granted in order before anything else. -/
theorem grantAll_descriptors {p : Transfer → Bool} {s : State} (row : rowWaits s = false)
    (all : ∀ x ∈ s.bpu.waiting, x.isDescriptor = p x) :
    grantAll p s = (s.bpu.waiting.filter p).foldl State.grant s := by
  have few : (s.bpu.waiting.filter p).length ≤ s.portFuel :=
    Nat.le_trans (List.length_filter_le _ _) (Nat.le_add_left _ _)
  obtain ⟨n, fuel⟩ := Nat.exists_eq_add_of_le' few
  rw [grantAll, fuel]
  exact grantUntil_descriptors _ n s rfl all row

/-- Transfers that are all of one kind are named by it. -/
theorem descriptor_iff {p : Transfer → Bool} {w ds : List Transfer} (filter : w.filter Transfer.isDescriptor = ds)
    (named : ∀ x ∈ ds, p x = true) (sub : ∀ x, p x = true → x.isDescriptor = true) :
    ∀ x ∈ w, x.isDescriptor = p x := by
  intro x hx
  cases h : p x with
  | true => exact sub x h
  | false =>
    by_contra! descriptor
    have := named x (filter ▸ List.mem_filter.2 ⟨hx, by simpa using descriptor⟩)
    rw [h] at this
    cases this

theorem isDescriptor_geometry {x : Transfer} (h : x.isGeometry = true) : x.isDescriptor = true := by
  unfold Transfer.isGeometry at h
  split at h
  · rfl
  · cases h

theorem grant_geometry (s : State) (k : Nat) : s.grant (.geometry k) = { s with
    bpu := { s.bpu with
      reads := { s.bpu.reads with
        geometry := s.bpu.reads.geometry ++ s.mem.readBytes (s.anchor + 0x40 + 16 * k) 16 }
      waiting := s.bpu.waiting.erase (.geometry k) } } := rfl

/-- R24: the two geometry transfers read the geometry block. -/
theorem grantAll_geometry {s : State} (reads : s.bpu.reads = EngageReads.empty)
    (waiting : s.bpu.waiting.filter Transfer.isDescriptor = [.geometry 0, .geometry 1])
    (row : rowWaits s = false) : grantAll Transfer.isGeometry s = { s with
      bpu := { s.bpu with
        reads := { s.bpu.reads with geometry := s.mem.readBytes (s.anchor + 0x40) 32 }
        waiting := s.bpu.waiting.filter fun x => !x.isGeometry } } := by
  have all := descriptor_iff waiting (p := Transfer.isGeometry) (by decide) fun _ => isDescriptor_geometry
  have same : s.bpu.waiting.filter Transfer.isGeometry = [.geometry 0, .geometry 1] := by
    rw [← waiting]
    exact (List.filter_congr all).symm
  have left := foldl_erase_filter Transfer.isGeometry s.bpu.waiting
  have block : s.mem.readBytes (s.anchor + 0x40) 32 =
      [] ++ s.mem.readBytes (s.anchor + 0x40 + 16 * 0) 16 ++ s.mem.readBytes (s.anchor + 0x40 + 16 * 1) 16 :=
    Memory.readBytes_add _ _ 16 16
  rw [grantAll_descriptors row all, same, ← left, same, block]
  simp only [List.foldl_cons, List.foldl_nil, grant_geometry]
  rw [reads]
  rfl

theorem refuseEngage_right (n : Nat) (s : State) : OfferRight (refuseEngage n s) := by
  have offer : (refuseEngage n s).asu.offer = none := by
    rw [refuseEngage, requestRefresh_asu, setEngine_asu]
  have engine : (refuseEngage n s).lcu.engine = .unconfigured := by
    rw [refuseEngage, requestRefresh_lcu, setEngine_lcu]
  rw [OfferRight, offer, offerOf_unconfigured engine]

/-- R26, R175: what a refused engage leaves, once what follows it has followed. -/
theorem refuseEngage_left (n : Nat) (s : State) :
    let t := settle (refuseEngage n s)
    t.bpu.engagement = .notEngaged ∧ t.bpu.geometry = none ∧ t.bpu.latch = none ∧
    t.settings = s.settings ∧ t.htu = { s.htu with schedule := none } ∧ t.bht.entries = [] ∧
    t.bht.release = [] ∧ t.bht.free = 0 ∧ t.bht.threshold = 1 ∧ t.lcu.engine = .unconfigured ∧
    t.asu.engageResult = .refused ∧ t.asu.offendingField = n ∧ t.asu.offer = none ∧
    t.asu.statusTimer = none ∧ t.bpu.guard = s.bpu.guard ∧ Transfer.statusOdd ∈ t.bpu.waiting := by
  intro t
  have f : FollowsUp (refuseEngage n s) t := settle_followsUp _
  have regs : t.registers = _ := (settle_registers _).trans (refuseEngage_registers n s)
  simp only [State.registers, Registers.mk.injEq] at regs
  have engine : (refuseEngage n s).lcu.engine = .unconfigured := by
    rw [refuseEngage, requestRefresh_lcu, setEngine_lcu]
  have bht : (refuseEngage n s).bht = Bht.reset := by
    rw [refuseEngage, requestRefresh_bht, setEngine_bht]
  have htu : (refuseEngage n s).htu = { s.htu with schedule := none } := by
    rw [refuseEngage, requestRefresh_htu, setEngine_htu, if_neg (by simp [Engine.kept])]
    rfl
  have holds : t.bht = Bht.reset := (f.bht_of_release (by rw [bht]; rfl)).trans bht
  have settledEngine : t.lcu.engine = .unconfigured := by rw [f.lcu, engine]
  have right : OfferRight t := (inner_settle _).offer (refuseEngage_right n s)
  obtain ⟨-, settings, -, -, -, geometry, guard, engagement, latch, -, -, timer, result, field, -⟩ := regs
  refine ⟨engagement, geometry, latch, settings, f.htu.trans htu, by rw [holds]; rfl, by rw [holds]; rfl,
    by rw [holds]; rfl, by rw [holds]; rfl, settledEngine, result, field, ?_, timer, guard,
    settle_refresh (requestRefresh_waits _)⟩
  rw [right, offerOf_unconfigured settledEngine]

/-- Settles O6. -/
theorem geometryChecked : Obligations.GeometryChecked := by
  intro s engaging reads waiting row
  have granted := grantAll_geometry reads waiting row
  have run : exec .geometryCheck s = .next (settle (checkGeometry (grantAll Transfer.isGeometry s))) := by
    refine congrArg Host.Outcome.next (congrArg settle (if_pos ?_))
    rw [awaitsGeometry, engaging, reads]
    rfl
  rw [granted] at run
  refine ⟨_, run, by rw [settle_mem, checkGeometry_mem], ?_⟩
  intro b n others
  refine ⟨fun pass => ?_, fun fail => ?_⟩
  · have checked : checkGeometry { s with bpu := { s.bpu with
        reads := { s.bpu.reads with geometry := s.mem.readBytes (s.anchor + 0x40) 32 }
        waiting := s.bpu.waiting.filter fun x => !x.isGeometry } } = { s with
        bpu := { s.bpu with
          reads := { s.bpu.reads with geometry := b, accepted := some (readGeometry b) }
          waiting := others ++ ((List.range 16).map Transfer.settings ++ [.producer]) } } := if_pos pass
    rw [checked]
    exact settle_followsUp _
  · have checked : checkGeometry { s with bpu := { s.bpu with
        reads := { s.bpu.reads with geometry := s.mem.readBytes (s.anchor + 0x40) 32 }
        waiting := s.bpu.waiting.filter fun x => !x.isGeometry } } = refuseEngage n { s with bpu := { s.bpu with
        reads := { s.bpu.reads with geometry := b }, waiting := others } } := if_neg fail
    rw [checked]
    have left := refuseEngage_left n { s with bpu := { s.bpu with
        reads := { s.bpu.reads with geometry := b }, waiting := others } }
    exact left

/-! ### The success of an engage -/

theorem grant_settings (s : State) (k : Nat) : s.grant (.settings k) = { s with
    bpu := { s.bpu with
      reads := { s.bpu.reads with
        settings := s.bpu.reads.settings ++ s.mem.readBytes (s.anchor + 0x200 + 16 * k) 16 }
      waiting := s.bpu.waiting.erase (.settings k) } } := rfl

theorem grant_producer (s : State) : s.grant .producer = { s with
    bpu := { s.bpu with
      reads := { s.bpu.reads with producer := s.mem.readBytes (s.anchor + 8) 4 }
      waiting := s.bpu.waiting.erase .producer } } := rfl

/-- R23: `j` settings transfers from the `k`th on read their part of the block. -/
theorem foldl_grant_settings (j : Nat) : ∀ (k : Nat) (s : State),
    ((List.range' k j).map Transfer.settings).foldl State.grant s = { s with
      bpu := { s.bpu with
        reads := { s.bpu.reads with
          settings := s.bpu.reads.settings ++ s.mem.readBytes (s.anchor + 0x200 + 16 * k) (16 * j) }
        waiting := ((List.range' k j).map Transfer.settings).foldl List.erase s.bpu.waiting } } := by
  induction j with
  | zero =>
    intro k s
    simp [Memory.readBytes]
  | succ j ih =>
    intro k s
    have block : s.mem.readBytes (s.anchor + 0x200 + 16 * k) (16 * (j + 1)) =
        s.mem.readBytes (s.anchor + 0x200 + 16 * k) 16 ++
          s.mem.readBytes (s.anchor + 0x200 + 16 * (k + 1)) (16 * j) := by
      rw [show 16 * (j + 1) = 16 + 16 * j by omega, Memory.readBytes_add]
      rfl
    rw [List.range'_succ, List.map_cons, List.foldl_cons, ih, grant_settings, block, List.foldl_cons,
      ← List.append_assoc]
    rfl

theorem isDescriptor_engageRead {x : Transfer} (h : x.isEngageRead = true) : x.isDescriptor = true := by
  unfold Transfer.isEngageRead at h
  split at h
  · rfl
  · rfl
  · cases h

/-- R25: the state once the engage's last reads have been made: settings block and producer word. -/
def State.engageRead (s : State) (b w : List Byte) (q : List Transfer) : State :=
  { s with bpu := { s.bpu with reads := { s.bpu.reads with settings := b, producer := w }, waiting := q } }

theorem grantAll_engageRead {s : State} {k : Nat} (few : k ≤ 16)
    (waiting : s.bpu.waiting.filter Transfer.isDescriptor =
      ((List.range 16).drop k).map Transfer.settings ++ [.producer])
    (row : rowWaits s = false) : ∃ q, grantAll Transfer.isEngageRead s = s.engageRead
      (s.bpu.reads.settings ++ s.mem.readBytes (s.anchor + 0x200 + 16 * k) (256 - 16 * k))
      (s.mem.readBytes (s.anchor + 8) 4) q := by
  have named : ∀ x ∈ ((List.range 16).drop k).map Transfer.settings ++ [.producer],
      x.isEngageRead = true := by
    intro x hx
    rcases List.mem_append.1 hx with early | last
    · obtain ⟨j, -, rfl⟩ := List.mem_map.1 early
      rfl
    · rw [List.mem_singleton.1 last]
      rfl
  have all := descriptor_iff waiting named fun _ => isDescriptor_engageRead
  have same : s.bpu.waiting.filter Transfer.isEngageRead =
      (List.range' k (16 - k)).map Transfer.settings ++ [.producer] := by
    rw [← List.filter_congr all, waiting, List.range_eq_range', List.drop_range', Nat.mul_one, Nat.zero_add]
  rw [grantAll_descriptors row all, same, List.foldl_append, foldl_grant_settings, List.foldl_cons, List.foldl_nil,
    grant_producer, show 16 * (16 - k) = 256 - 16 * k by omega]
  exact ⟨_, rfl⟩

theorem grantAll_engageRead_none {s : State} (waiting : s.bpu.waiting.filter Transfer.isDescriptor = []) :
    grantAll Transfer.isEngageRead s = s.engageRead s.bpu.reads.settings s.bpu.reads.producer s.bpu.waiting := by
  refine grantAll_none _ s (List.any_eq_false.2 fun x hx read => ?_)
  exact List.filter_eq_nil_iff.1 waiting x hx (isDescriptor_engageRead read)

/-- R25: an engage's success before the latched producer value is taken. -/
def engagedUnits (g : Geometry) (s : State) : State :=
  let c := readSettings g s.bpu.reads.settings
  let n := firstClamped g s.bpu.reads.settings
  let s1 := putSettings c n (engageUnits g c (BitVec.ofNat 16 (leNat s.bpu.reads.producer)) s)
  reportClamped n (requestVector (recomputeOffer none (setEngine (restState s1.lcu.faults) s1)))

theorem succeedEngage_eq (g : Geometry) (s : State) : succeedEngage g s = match s.bpu.latch with
    | some v => takeProducer v (engagedUnits g s)
    | none => engagedUnits g s := rfl

theorem withVector_mem (w : List Transfer) : Transfer.vector ∈ withVector w := by
  unfold withVector
  split
  · assumption
  · simp

theorem Adds.mem {w v : List Transfer} (h : Adds w v) {x : Transfer} (hx : x ∈ w) : x ∈ v := by
  obtain ⟨a, rfl, -⟩ := h
  exact List.mem_append_left _ hx

theorem adds_raise (n : Source) (code : Nat) (arg : BitVec 16) (s : State) :
    Adds s.bpu.waiting (raise n code arg s).bpu.waiting :=
  adds_recomputeOffer (some n) { s with asu := { s.asu with records := _ } }

theorem adds_reportClamped (n : Nat) (s : State) : Adds s.bpu.waiting (reportClamped n s).bpu.waiting := by
  unfold reportClamped
  split
  · exact .refl _
  · exact adds_raise _ _ _ s

theorem adds_takeProducer (v : Idx) (s : State) : Adds s.bpu.waiting (takeProducer v s).bpu.waiting := by
  unfold takeProducer
  extract_lets doom
  split
  · exact .refl _
  · exact adds_raise _ _ _ s

theorem requestVector_waiting (s : State) : (requestVector s).bpu.waiting = withVector s.bpu.waiting := by
  rw [requestVector_eq]

/-- R25, R60, R166, R171: the units of an engage that has succeeded with producer index `i`. -/
structure EngagedUnits (g : Geometry) (i : Idx) (s u : State) : Prop where
  registers : u.registers = { s.registers with
    engagement := .engaged, geometry := some g, producerLatch := none
    producer := i
    settings := some (readSettings g s.bpu.reads.settings)
    guard := (readSettings g s.bpu.reads.settings).guard, fired := 0, schedule := some 10, statusTimer := some 0
    engageResult := .success, offendingField := 0, settingsResult := firstClamped g s.bpu.reads.settings }
  mem : u.mem = s.mem
  rrd : u.rrd = { Rrd.engaged (BitVec.ofNat 16 (leNat s.bpu.reads.producer)) with producer := i }
  bht : u.bht = Bht.engaged g.bands (readSettings g s.bpu.reads.settings).freeThreshold
  lcu : u.lcu.engine = restState s.lcu.faults ∧ u.lcu.faults = s.lcu.faults
  position : u.mtu.position = s.mtu.position
  vector : Transfer.vector ∈ u.bpu.waiting
  refresh : s.lcu.engine = .unconfigured → Transfer.statusOdd ∈ u.bpu.waiting
  clamped : firstClamped g s.bpu.reads.settings ≠ 0 → (u.asu.records.get .ring).pending = true

theorem reportClamped_units (n : Nat) (s : State) : (reportClamped n s).rrd = s.rrd ∧
    (reportClamped n s).bht = s.bht ∧ (reportClamped n s).lcu = s.lcu ∧ (reportClamped n s).mtu = s.mtu := by
  unfold reportClamped
  split
  · exact ⟨rfl, rfl, rfl, rfl⟩
  · exact ⟨raise_rrd _ _ _ s, raise_bht _ _ _ s, raise_lcu _ _ _ s, raise_mtu _ _ _ s⟩

theorem reportClamped_pending {n : Nat} (s : State) (h : n ≠ 0) :
    ((reportClamped n s).asu.records.get .ring).pending = true := by
  rw [reportClamped, if_neg h, raise_records, PerSource.get_set]
  rfl

theorem engagedUnits_spec (g : Geometry) (s : State) :
    EngagedUnits g (BitVec.ofNat 16 (leNat s.bpu.reads.producer)) s (engagedUnits g s) := by
  unfold engagedUnits
  extract_lets c n s1
  have follows : Inner { s1 with lcu.engine := restState s1.lcu.faults }
      (reportClamped n (requestVector (recomputeOffer none (setEngine (restState s1.lcu.faults) s1)))) :=
    .after (inner_reportClamped n _) <| .after (inner_requestVector _) <|
      .after (inner_recomputeOffer none _ _) (inner_setEngine_from _ s1)
  obtain ⟨rrd, bht, lcu, mtu⟩ := reportClamped_units n
    (requestVector (recomputeOffer none (setEngine (restState s1.lcu.faults) s1)))
  have clamped := adds_reportClamped n
    (requestVector (recomputeOffer none (setEngine (restState s1.lcu.faults) s1)))
  exact {
    registers := follows.registers
    mem := follows.mem
    rrd := by rw [rrd, requestVector_rrd, recomputeOffer_rrd, setEngine_rrd]; rfl
    bht := by rw [bht, requestVector_bht, recomputeOffer_bht, setEngine_bht]; rfl
    lcu := by rw [lcu, requestVector_lcu, recomputeOffer_lcu, setEngine_lcu]; exact ⟨rfl, rfl⟩
    position := by rw [mtu, requestVector_mtu, recomputeOffer_mtu, setEngine_mtu]; rfl
    vector := clamped.mem (by rw [requestVector_waiting]; exact withVector_mem _)
    refresh := fun unconf => clamped.mem (by
      rw [requestVector_waiting]
      refine (adds_withVector _).mem ((adds_recomputeOffer _ _).mem (setEngine_refresh _ _ ?_))
      rw [show s1.lcu.engine = .unconfigured from unconf]
      exact (restState_ne _).symm)
    clamped := reportClamped_pending _ }

/-- R39: taking a producer value where nothing is in flight. -/
theorem takeProducer_frame {v : Idx} {u : State} (fetch : u.rrd.fetch = none) :
    (takeProducer v u).rrd = { u.rrd with producer := if producerAccepted u v then v else u.rrd.producer } ∧
    (takeProducer v u).bht = u.bht ∧ (takeProducer v u).lcu = u.lcu ∧ (takeProducer v u).mtu = u.mtu ∧
    ((u.asu.records.get .ring).pending = true → ((takeProducer v u).asu.records.get .ring).pending = true) := by
  cases accepted : producerAccepted u v with
  | true =>
    have none_ : ∀ f : ItemFetch → ItemFetch, u.rrd.fetch.map f = u.rrd.fetch := fun f => by rw [fetch]; rfl
    rw [takeProducer_accepted accepted, none_]
    exact ⟨rfl, rfl, rfl, rfl, id⟩
  | false =>
    have refused : takeProducer v u = raise .ring Code.producerRefused v u := if_neg (by simp [accepted])
    rw [refused, raise_records, PerSource.get_set]
    exact ⟨raise_rrd _ _ _ u, raise_bht _ _ _ u, raise_lcu _ _ _ u, raise_mtu _ _ _ u, fun _ => rfl⟩

theorem EngagedUnits.geo {g : Geometry} {i : Idx} {s u : State} (h : EngagedUnits g i s u) : u.geo = g := by
  have regs : u.registers.geometry = some g := by rw [h.registers]
  exact congrArg (Option.getD · Geometry.absent) regs

/-- R25, R21: a value latched during the engage becomes the producer index where it passes the check. -/
theorem EngagedUnits.taken {g : Geometry} {s u : State} {p : Idx}
    (word : BitVec.ofNat 16 (leNat s.bpu.reads.producer) = p) (h : EngagedUnits g p s u) (v : Idx) :
    EngagedUnits g (if (v - p).toNat ≤ g.slots then v else p) s (takeProducer v u) := by
  obtain ⟨rrd, bht, lcu, mtu, ring⟩ := takeProducer_frame (v := v) (u := u) (by rw [h.rrd]; rfl)
  have accepted : (takeProducer v u).rrd.producer = if (v - p).toNat ≤ g.slots then v else p := by
    have iff_ : producerAccepted u v = true ↔ (v - p).toNat ≤ g.slots := by
      rw [producerAccepted_iff, h.rrd, h.geo, word]
      simp [Rrd.engaged]
    rw [rrd]
    refine (if_congr iff_ rfl rfl).trans ?_
    rw [h.rrd]
  have taken : (takeProducer v u).registers =
      { u.registers with producer := (takeProducer v u).rrd.producer } := (inner_takeProducer v _).registers
  have ringUnit : (takeProducer v u).rrd = { u.rrd with producer := (takeProducer v u).rrd.producer } := by
    rw [rrd]
  have added := adds_takeProducer v u
  exact {
    registers := by rw [taken, h.registers, accepted]
    mem := (inner_takeProducer v _).mem.trans h.mem
    rrd := by rw [ringUnit, accepted, h.rrd]
    bht := bht.trans h.bht
    lcu := lcu ▸ h.lcu
    position := mtu ▸ h.position
    vector := added.mem h.vector
    refresh := fun unconf => added.mem (h.refresh unconf)
    clamped := fun n => ring (h.clamped n) }

theorem succeedEngage_units (g : Geometry) (s : State) :
    let p : Idx := BitVec.ofNat 16 (leNat s.bpu.reads.producer)
    EngagedUnits g (match s.bpu.latch with
      | none => p
      | some v => if (v - p).toNat ≤ g.slots then v else p) s (succeedEngage g s) := by
  intro p
  have spec := engagedUnits_spec g s
  rw [succeedEngage_eq]
  cases s.bpu.latch with
  | none => exact spec
  | some v => exact spec.taken rfl v

/-- R25: what follows an engage's success leaves its units; nothing retires. -/
theorem EngagedUnits.settled {g : Geometry} {i : Idx} {s u : State} (h : EngagedUnits g i s u) :
    let t := settle u
    let c := readSettings g s.bpu.reads.settings
    let p : Idx := BitVec.ofNat 16 (leNat s.bpu.reads.producer)
    t.mem = s.mem ∧ t.bpu.engagement = .engaged ∧ t.bpu.geometry = some g ∧ t.bpu.latch = none ∧
    t.settings = some c ∧ t.bpu.guard = c.guard ∧
    t.rrd.take = p ∧ t.rrd.walk = p ∧ t.rrd.retire = p ∧ t.rrd.inside = false ∧ t.rrd.table = [] ∧
    t.rrd.producer = i ∧
    t.bht.entries = List.replicate g.bands { hold := 0, tag := 0 } ∧ t.bht.free = g.bands ∧
    t.bht.release = [] ∧ t.bht.threshold = c.freeThreshold ∧
    t.lcu.engine = (if s.lcu.faults = FaultSet.empty then .idle else .faulted) ∧
    t.lcu.faults = s.lcu.faults ∧
    t.asu.engageResult = .success ∧ t.asu.offendingField = 0 ∧
    t.asu.settingsResult = firstClamped g s.bpu.reads.settings ∧
    t.asu.statusTimer = some 0 ∧ Transfer.vector ∈ t.bpu.waiting ∧
    (s.lcu.engine = .unconfigured → Transfer.statusOdd ∈ t.bpu.waiting) ∧
    (firstClamped g s.bpu.reads.settings ≠ 0 → (t.asu.records.get .ring).pending = true) ∧
    t.htu.schedule = some 10 ∧ t.mtu.position = s.mtu.position ∧ t.hdu.fired = 0 := by
  intro t c p
  have f : FollowsUp u t := settle_followsUp u
  have still : ∀ e ∈ u.rrd.table.head?, e.complete = false ∨ e.index = u.rrd.walk := by
    rw [h.rrd]
    exact nofun
  obtain ⟨retire, table, bht, asu⟩ := f.quiet still
  obtain ⟨retired, rereads, items, waiting, -, -, -, -, same⟩ := f.waiting
  have queue : ∀ x ∈ u.bpu.waiting, x ∈ t.bpu.waiting := fun x hx => by
    rw [waiting, same still]
    exact List.mem_append_left _ (List.mem_append_left _ hx)
  have regs : t.registers = _ := (settle_registers u).trans h.registers
  simp only [State.registers, Registers.mk.injEq] at regs
  obtain ⟨-, settings, -, -, -, geometry, guard, engagement, latch, producer, -, timer, result, field, settingsResult,
    -, -, -, -, schedule, -, fired, -⟩ := regs
  have rrd := f.rrd
  refine ⟨(settle_mem u).trans h.mem, engagement, geometry, latch, settings, guard, by rw [rrd, h.rrd]; rfl,
    by rw [rrd, h.rrd]; rfl, by rw [retire, h.rrd]; rfl, by rw [rrd, h.rrd]; rfl, by rw [table, h.rrd]; rfl, producer,
    by rw [bht, h.bht]; rfl, by rw [bht, h.bht]; rfl, by rw [bht, h.bht]; rfl, by rw [bht, h.bht]; rfl,
    by rw [f.lcu]; exact h.lcu.1, by rw [f.lcu]; exact h.lcu.2, result, field, settingsResult, timer,
    queue _ h.vector, fun unconf => queue _ (h.refresh unconf), fun n => by rw [asu]; exact h.clamped n, schedule,
    by rw [f.mtu]; exact h.position, fired⟩

/-- Settles O7: the reads are granted (`grantAll_engageRead`), the success follows (`succeedEngage_units`), and with
an empty item table nothing retires after it. -/
theorem engageSucceeds : Obligations.EngageSucceeds := by
  intro s g k engaging accepted few reads row
  have run : exec .engageSuccess s =
      .next (settle (succeedEngage g (grantAll Transfer.isEngageRead s))) := by
    refine congrArg Host.Outcome.next (congrArg settle ((if_pos engaging).trans ?_))
    rw [accepted]
  obtain ⟨q, granted⟩ : ∃ q, grantAll Transfer.isEngageRead s = s.engageRead
      (s.bpu.reads.settings ++ s.mem.readBytes (s.anchor + 0x200 + 16 * k) (256 - 16 * k))
      (if s.bpu.reads.producer = [] then s.mem.readBytes (s.anchor + 8) 4 else s.bpu.reads.producer) q := by
    rcases reads with ⟨none_, waiting⟩ | ⟨some_, rfl, waiting⟩
    · rw [if_pos none_]
      exact grantAll_engageRead few waiting row
    · rw [if_neg some_, show 256 - 16 * 16 = 0 from rfl, Memory.readBytes, List.append_nil]
      exact ⟨_, grantAll_engageRead_none waiting⟩
  rw [granted] at run
  have spec := succeedEngage_units g (s.engageRead
    (s.bpu.reads.settings ++ s.mem.readBytes (s.anchor + 0x200 + 16 * k) (256 - 16 * k))
    (if s.bpu.reads.producer = [] then s.mem.readBytes (s.anchor + 8) 4 else s.bpu.reads.producer) q)
  exact ⟨_, run, spec.settled⟩

/-! ## The band hold table -/

theorem modify_entry_self {l : List BandEntry} {b : Nat} (h : b < l.length) (f : BandEntry → BandEntry) :
    (l.modify b f)[b]? = some (f l[b]) := by
  rw [List.getElem?_modify_eq, List.getElem?_eq_getElem h]
  rfl

theorem holdOf_eq {t : Bht} {b : Nat} (h : b < t.entries.length) : t.holdOf b = t.entries[b].hold := by
  rw [Bht.holdOf, List.getElem?_eq_getElem h]
  rfl

theorem tagOf_eq {t : Bht} {b : Nat} (h : b < t.entries.length) : t.tagOf b = t.entries[b].tag := by
  rw [Bht.tagOf, List.getElem?_eq_getElem h]
  rfl

theorem holdOf_of_modify {t u : Bht} {b : Nat} {f : BandEntry → BandEntry}
    (entries : u.entries = t.entries.modify b f) (h : b < t.entries.length) :
    u.holdOf b = (f t.entries[b]).hold ∧ u.tagOf b = (f t.entries[b]).tag ∧
      ∀ k, k ≠ b → u.holdOf k = t.holdOf k ∧ u.tagOf k = t.tagOf k := by
  refine ⟨?_, ?_, fun k other => ⟨?_, ?_⟩⟩
  · rw [Bht.holdOf, entries, modify_entry_self h]
    rfl
  · rw [Bht.tagOf, entries, modify_entry_self h]
    rfl
  · rw [Bht.holdOf, entries, List.getElem?_modify_ne _ _ (Ne.symm other)]
    rfl
  · rw [Bht.tagOf, entries, List.getElem?_modify_ne _ _ (Ne.symm other)]
    rfl

/-- R8: the release of the item at the head of the release list. -/
theorem releaseItem_head {t : Bht} {i : Idx} {b : Nat} {rest : List (Idx × Nat)}
    (head : t.release = (i, b) :: rest) : t.releaseItem i =
    { t with
      entries := t.entries.modify b (fun e => { e with hold := e.hold - 1 })
      free := if b < t.entries.length ∧ t.holdOf b = 1 then t.free + 1 else t.free
      release := rest } := by
  unfold Bht.releaseItem
  rw [head]
  exact if_pos rfl

/-- R8: an item that is not at the head of the release list holds nothing. -/
theorem releaseItem_other {t : Bht} {i : Idx} (other : ∀ r ∈ t.release.head?, r.1 ≠ i) :
    t.releaseItem i = t := by
  unfold Bht.releaseItem
  split
  · rfl
  next j b rest head =>
    rw [head] at other
    exact if_neg (other (j, b) rfl)

/-- Settles O27. -/
theorem holdTable : Obligations.HoldTable := by
  intro t i b known
  refine ⟨fun tag => ?_, fun rest head => ?_, releaseItem_other⟩
  · obtain ⟨hold, tag_, others⟩ :=
      holdOf_of_modify (t := t) (u := t.accept i b tag) (f := fun e => { hold := e.hold + 1, tag := tag }) rfl known
    refine ⟨rfl, by rw [hold, holdOf_eq known], tag_, others, ?_, rfl⟩
    simp only [Bht.accept, known, true_and]
  · obtain ⟨hold, tag, others⟩ :=
      holdOf_of_modify (t := t) (u := t.releaseItem i) (f := fun e => { e with hold := e.hold - 1 })
        (by rw [releaseItem_head head]) known
    refine ⟨by rw [releaseItem_head head], by rw [hold, holdOf_eq known], fun k => ?_,
      fun k other => (others k other).1, ?_, by rw [releaseItem_head head]⟩
    · by_cases same : k = b
      · rw [same, tag, tagOf_eq known]
      · exact (others k same).2
    · rw [releaseItem_head head]
      simp only [known, true_and]

/-! ## Outcomes -/

/-- R55: four bytes of a word built from a result, a byte and a halfword. -/
theorem leBytes_word {r b h : Nat} (hr : r < 256) (hb : b < 256) (hh : h < 65536) :
    leBytes 4 (BitVec.ofNat 32 (r + 256 * b + 65536 * h)).toNat =
      [BitVec.ofNat 8 r, BitVec.ofNat 8 b, BitVec.ofNat 8 h, BitVec.ofNat 8 (h / 256)] := by
  rw [BitVec.toNat_ofNat, Nat.mod_eq_of_lt (by omega)]
  have one : (r + 256 * b + 65536 * h) / 256 = b + 256 * h := by omega
  have two : (b + 256 * h) / 256 = h := by omega
  have low (n m : Nat) : BitVec.ofNat 8 (n + 256 * m) = BitVec.ofNat 8 n := by
    apply BitVec.eq_of_toNat_eq
    rw [BitVec.toNat_ofNat, BitVec.toNat_ofNat]
    omega
  have first : r + 256 * b + 65536 * h = r + 256 * (b + 256 * h) := by omega
  simp only [leBytes, one, two]
  rw [first, low, low]

theorem itemResult_code_lt (r : ItemResult) : r.code < 256 := by cases r <;> decide

/-- R10, R56: the outcome word of a refused item. -/
theorem outcomeWord_refused {t : Bht} {e : ItemEntry} (h : e.result = some .refused) (band : Option Nat) :
    outcomeWord t band e = BitVec.ofNat 32 (2 + 256 * e.reason + 65536 * 0) := by
  unfold outcomeWord
  simp only [h]
  rfl

/-- R10, R56: the outcome word of an item that has released band `b`. -/
theorem outcomeWord_band {t : Bht} {e : ItemEntry} {r : ItemResult} (h : e.result = some r)
    (other : r ≠ .refused) (b : Nat) :
    outcomeWord t (some b) e = BitVec.ofNat 32 (r.code + 256 * t.holdOf b + 65536 * (t.tagOf b).toNat) := by
  unfold outcomeWord
  rw [h, if_neg (by simpa using other)]
  rfl

/-- R56: the outcome word of any other item. -/
theorem outcomeWord_plain {t : Bht} {e : ItemEntry} {r : ItemResult} (h : e.result = some r)
    (other : r ≠ .refused) :
    outcomeWord t none e = BitVec.ofNat 32 (r.code + 256 * e.byte13 + 65536 * e.half14) := by
  unfold outcomeWord
  rw [h, if_neg (by simpa using other)]
  rfl

/-- Settles O33. -/
theorem outcomeFields : Obligations.OutcomeFields := by
  intro t e r result
  refine ⟨fun refused reason band => ?_, fun other b hold => ?_, fun other byte half => ?_⟩
  · rw [outcomeWord_refused (by rw [result, refused]), leBytes_word (by decide) reason (by decide)]
    rfl
  · rw [outcomeWord_band result other, leBytes_word (itemResult_code_lt r) hold (t.tagOf b).isLt]
    have low : BitVec.ofNat 8 (t.tagOf b).toNat = (t.tagOf b).truncate 8 := rfl
    have high : BitVec.ofNat 8 ((t.tagOf b).toNat / 256) = (t.tagOf b >>> 8).truncate 8 := by
      apply BitVec.eq_of_toNat_eq
      simp [Nat.shiftRight_eq_div_pow]
    rw [low, high]
    cases r <;> rfl
  · rw [outcomeWord_plain result other, leBytes_word (itemResult_code_lt r) byte half]
    cases r <;> rfl

/-! ## Handing segments on -/

/-- R47, R82, R89: the three ways of a segment in the output hold. -/
theorem handSegment_cases {s : State} {seg : Segment} (h : s.rrd.hold = some (.segment seg)) :
    (s.rsu.discard = some (seg.label, seg.copy) → handSegment s = { s with
      rrd := { s.rrd with hold := none }
      rsu := { s.rsu with discard := if seg.isEnd then none else s.rsu.discard } }) ∧
    (s.rsu.discard ≠ some (seg.label, seg.copy) → s.rsu.queue.length < 8 → handSegment s = { s with
      rrd := { s.rrd with hold := none }
      rsu := { s.rsu with queue := s.rsu.queue ++ [seg] } }) ∧
    (s.rsu.discard ≠ some (seg.label, seg.copy) → 8 ≤ s.rsu.queue.length → handSegment s = s) := by
  unfold handSegment
  simp only [h]
  refine ⟨fun marked => ?_, fun other room => ?_, fun other full => ?_⟩
  · exact if_pos (beq_iff_eq.2 marked)
  · refine (if_neg fun e => other (beq_iff_eq.1 e)).trans ?_
    exact if_pos room
  · refine (if_neg fun e => other (beq_iff_eq.1 e)).trans ?_
    exact if_neg (Nat.not_lt.2 full)

/-- Settles O34. -/
theorem segmentHandover : Obligations.SegmentHandover := by
  intro s seg held
  obtain ⟨drops, joins, waits⟩ := handSegment_cases held
  refine ⟨_, rfl, fun other room => ?_, fun other full => ?_, fun marked => ?_⟩
  · rw [← joins other room]
    exact settle_followsUp _
  · rw [waits other full]
    exact settle_followsUp _
  · rw [← drops marked]
    exact settle_followsUp _

/-! ## The item fetch -/

/-- R62: with PRINTING occupied or nothing STAGED no label moves up. -/
theorem moveUp_still {s : State} (h : s.lcu.printing = none → s.lcu.staged = none) : moveUp s = s := by
  unfold moveUp
  split
  next up =>
    have staged := h up.2
    obtain ⟨-, printing⟩ := up
    calc { s with lcu := { s.lcu with printing := s.lcu.staged, staged := none } }
      _ = { s with lcu := { s.lcu with printing := s.lcu.printing, staged := s.lcu.staged } } := by
          rw [printing, staged]
      _ = s := rfl
  · rfl

theorem labelArrives_still {s : State} (h : s.lcu.printing = none → s.lcu.staged = none) :
    labelArrives s = s := by
  unfold labelArrives
  rw [moveUp_still h]
  exact if_neg fun arrives => arrives.2.2 arrives.2.1

/-- R41: a fetch with all its bytes is parsed. -/
theorem completeFetch_eq {s : State} {f : ItemFetch} (fetch : s.rrd.fetch = some f) (live : f.doomed = false)
    (returned : Transfer.item ∉ s.bpu.waiting) : completeFetch s = labelArrives (parseItem f.data s) := by
  have granted : grantAll (fun t => t == .item) s = s :=
    grantAll_none _ s (List.any_eq_false.2 fun x hx item => returned (beq_iff_eq.1 item ▸ hx))
  unfold completeFetch
  rw [granted]
  simp only [fetch, live]
  rfl

/-- R41: the fetch of an item that brings no label up is its parse, and what follows every command. -/
theorem itemFetch_followsUp {s u : State} {f : ItemFetch} (fetch : s.rrd.fetch = some f) (live : f.doomed = false)
    (returned : Transfer.item ∉ s.bpu.waiting) (parse : parseItem f.data s = u)
    (still : u.lcu.printing = none → u.lcu.staged = none) : FollowsUp u (settle (completeFetch s)) := by
  rw [completeFetch_eq fetch live returned, parse, labelArrives_still still]
  exact settle_followsUp _

/-- R40, R41: the walk passes an item; a first walk moves the take index and creates the entry. -/
theorem passItem_eq (first : Bool) (reason : Nat) (b : List Byte) (s : State) : passItem first reason b s =
    { s with rrd := { s.rrd with
        walk := s.rrd.walk + 1
        take := if first then s.rrd.walk + 1 else s.rrd.take
        table := if first then s.rrd.table ++ [newEntry s.rrd.walk s.rrd.inside reason b] else s.rrd.table } } := by
  cases first <;> rfl

/-- R41: the state in which an item that the walk passes has been passed. -/
def passed (reason : Nat) (b : List Byte) (s : State) : State :=
  passItem (decide (s.rrd.walk = s.rrd.take)) reason b { s with rrd := { s.rrd with fetch := none } }

theorem passed_first {s : State} (first : s.rrd.walk = s.rrd.take) (reason : Nat) (b : List Byte) :
    passed reason b s = { s with rrd := { s.rrd with
      fetch := none, walk := s.rrd.walk + 1, take := s.rrd.walk + 1
      table := s.rrd.table ++ [newEntry s.rrd.walk s.rrd.inside reason b] } } := by
  rw [passed, decide_eq_true first]
  rfl

theorem passed_again {s : State} (again : s.rrd.walk ≠ s.rrd.take) (reason : Nat) (b : List Byte) :
    passed reason b s = { s with rrd := { s.rrd with fetch := none, walk := s.rrd.walk + 1 } } := by
  rw [passed, decide_eq_false again]
  rfl

theorem passed_frame (reason : Nat) (b : List Byte) (s : State) : passed reason b s =
    { s with rrd := { s.rrd with
        fetch := none, walk := s.rrd.walk + 1
        take := if s.rrd.walk = s.rrd.take then s.rrd.walk + 1 else s.rrd.take
        table := if s.rrd.walk = s.rrd.take then
          s.rrd.table ++ [newEntry s.rrd.walk s.rrd.inside reason b] else s.rrd.table } } := by
  by_cases first : s.rrd.walk = s.rrd.take
  · rw [passed_first first, if_pos first, if_pos first]
  · rw [passed_again first, if_neg first, if_neg first]

/-- R41, R42: an item without a refusal reason is passed and accepted. -/
theorem parseItem_accepted {s : State} {b : List Byte} (other : ¬ (s.rrd.inside = true ∧ kindOf b = .label))
    (fine : refusalOf s.geo s.rrd.inside b = 0) :
    parseItem b s = acceptItem (decide (s.rrd.walk = s.rrd.take)) s.rrd.walk b (passed 0 b s) := by
  unfold parseItem
  simp only
  rw [if_neg other]
  refine (if_pos fine).trans ?_
  rw [fine]
  rfl

/-- R46: an item with a refusal reason is passed, and its first walk raises ITEM_REFUSED. -/
theorem parseItem_refused {s : State} {b : List Byte} (other : ¬ (s.rrd.inside = true ∧ kindOf b = .label))
    {reason : Nat} (why : refusalOf s.geo s.rrd.inside b = reason) (refused : reason ≠ 0) :
    (s.rrd.walk = s.rrd.take →
      parseItem b s = raise .ring Code.itemRefused s.rrd.walk (passed reason b s)) ∧
    (s.rrd.walk ≠ s.rrd.take → parseItem b s = passed reason b s) := by
  subst why
  unfold parseItem
  simp only
  rw [if_neg other]
  refine ⟨fun first => ?_, fun again => ?_⟩
  · exact (if_neg refused).trans (if_pos (decide_eq_true first))
  · exact (if_neg refused).trans (if_neg (by rw [decide_eq_false again]; decide))

theorem newEntry_accepted {b : List Byte} {kind : ItemKind} (h : kindOf b = kind) (i : Idx) (inside : Bool) :
    newEntry i inside 0 b =
      { index := i, kind := kind, complete := false, result := none, reason := 0, byte13 := 0,
        half14 := 0, tag := itemTag b, silent := false } := by
  rw [newEntry, h]
  rfl

/-! ## Kinds -/

theorem kindOf_label_iff (b : List Byte) : kindOf b = .label ↔ field 0 1 b = 1 := by
  unfold kindOf
  split <;> simp_all

/-- R42, R44, R46: the refusal reasons in their order, by the kind byte. -/
theorem refusalOf_eq (g : Geometry) (inside : Bool) (b : List Byte) : refusalOf g inside b =
    if field 0 1 b = 0 ∨ 8 < field 0 1 b then 1
    else if (inside = true ∧ 6 ≤ field 0 1 b) ∨ (inside = false ∧ 2 ≤ field 0 1 b ∧ field 0 1 b ≤ 5) then 2
    else if field 0 1 b = 2 ∧ g.bands ≤ field 2 2 b then 3
    else if field 0 1 b = 2 ∧ g.height ≤ field 4 1 b then 4
    else 0 := by
  unfold refusalOf kindOf itemWord
  generalize field 0 1 b = k
  by_cases known : k ≤ 8
  · cases inside <;> interval_cases k <;> simp
  · have unknown : 8 < k := Nat.lt_of_not_le known
    rw [if_pos (Or.inr unknown)]
    obtain ⟨n, rfl⟩ := Nat.exists_eq_add_of_lt unknown
    simp only [show 8 + n + 1 = n + 9 by omega]

/-- Settles O29. -/
theorem fetchRefused : Obligations.FetchRefused := by
  intro s f fetch live returned still k i reason refused
  have why : refusalOf s.geo s.rrd.inside f.data = reason := refusalOf_eq _ _ _
  have other : ¬ (s.rrd.inside = true ∧ kindOf f.data = .label) := fun label => by
    apply refused
    rw [← why]
    unfold refusalOf
    rw [label.2]
  obtain ⟨first, again⟩ := parseItem_refused other why refused
  have entry : newEntry i s.rrd.inside reason f.data =
      { index := i, kind := kindOf f.data, complete := !s.rrd.inside, result := some .refused,
        reason := reason, byte13 := 0, half14 := 0, tag := itemTag f.data, silent := false } := by
    rw [newEntry, if_pos refused, decide_eq_true refused, Bool.true_and]
  refine ⟨_, rfl, fun now => ?_, fun before => ?_⟩
  · refine itemFetch_followsUp fetch live returned ?_ (by simpa using still)
    rw [first now, passed_first now, entry]
  · refine itemFetch_followsUp fetch live returned ?_ still
    rw [again before, passed_again before]

/-! ## Items of a label's body -/

/-- R47, R52: a segment of a copy within the copies total goes to the output hold. -/
theorem holdSegment_eq {s : State} {w : WalkLabel} (label : s.rrd.label = some w)
    (within : s.rrd.supplyCopy ≤ w.total) (seg : Segment) :
    holdSegment seg s = { s with rrd := { s.rrd with hold := some (.segment seg) } } := by
  unfold holdSegment
  rw [label]
  exact if_neg (Nat.not_lt.2 within)

theorem holdSegment_past {s : State} {w : WalkLabel} (label : s.rrd.label = some w)
    (past : w.total < s.rrd.supplyCopy) (seg : Segment) : holdSegment seg s = s := by
  unfold holdSegment
  rw [label]
  exact if_pos past

theorem walkIndex_eq {s : State} {w : WalkLabel} (label : s.rrd.label = some w) : s.walkIndex = w.index := by
  rw [State.walkIndex, label]
  rfl

/-- R45: the run of a REPEAT or BLANK item; a count of 0 yields none. -/
theorem runSegment_eq {s : State} {w : WalkLabel} (label : s.rrd.label = some w)
    (within : s.rrd.supplyCopy ≤ w.total) (isRepeat : Bool) (n : Nat) :
    runSegment isRepeat n s = { s with rrd := { s.rrd with
      hold := if n = 0 then s.rrd.hold else some (.segment
        (if isRepeat then .repeatRun n s.rrd.supplyCopy w.index
          else .blankRun n s.rrd.supplyCopy w.index)) } } := by
  unfold runSegment
  rw [walkIndex_eq label, holdSegment_eq label within, holdSegment_eq label within]
  split
  · rfl
  · cases isRepeat <;> rfl

/-- R44: the acceptance of a BAND item; its first walk takes the hold. -/
theorem acceptBand_eq {s : State} {w : WalkLabel} (label : s.rrd.label = some w)
    (within : s.rrd.supplyCopy ≤ w.total) (first : Bool) (i : Idx) (b : List Byte) :
    acceptBand first i b s = { s with
      bht := if first then s.bht.accept i (itemWord b) w.tag else s.bht
      rrd := { s.rrd with hold := some (.segment (.rows (itemWord b) (field 4 1 b)
        (bandRows s.geo.height (field 4 1 b) (field 5 1 b)) s.rrd.supplyCopy w.index)) } } := by
  unfold acceptBand
  have tag : (s.rrd.label.map (fun w => w.tag)).getD 0 = w.tag := by rw [label]; rfl
  rw [walkIndex_eq label, tag]
  cases first with
  | false => exact holdSegment_eq label within _
  | true => exact holdSegment_eq (s := { s with bht := s.bht.accept i (itemWord b) w.tag }) label within _

/-- R45: the parse of a REPEAT or BLANK item inside a label. -/
theorem parseItem_run {s : State} {w : WalkLabel} {b : List Byte} (inside : s.rrd.inside = true)
    (label : s.rrd.label = some w) (within : s.rrd.supplyCopy ≤ w.total) {isRepeat : Bool}
    (kind : kindOf b = if isRepeat then .repeatRow else .blank) :
    parseItem b s = runSegment isRepeat (itemWord b) (passed 0 b s) := by
  have fine : refusalOf s.geo s.rrd.inside b = 0 := by
    unfold refusalOf
    rw [kind, inside]
    cases isRepeat <;> rfl
  rw [parseItem_accepted (by rw [kind]; cases isRepeat <;> simp) fine]
  unfold acceptItem
  rw [kind]
  cases isRepeat <;> rfl

theorem fetchRun : ∀ (s : State) (f : ItemFetch) (w : WalkLabel), s.rrd.fetch = some f → f.doomed = false →
    Transfer.item ∉ s.bpu.waiting → s.rrd.inside = true → s.rrd.label = some w →
    s.rrd.supplyCopy ≤ w.total → s.lcu.printing ≠ none →
    ∀ isRepeat : Bool, kindOf f.data = (if isRepeat then .repeatRow else .blank) →
    let i := s.rrd.walk
    let n := field 2 2 f.data
    let run : Segment := if isRepeat then .repeatRun n s.rrd.supplyCopy w.index
      else .blankRun n s.rrd.supplyCopy w.index
    let held := if n = 0 then s.rrd.hold else some (.segment run)
    (i = s.rrd.take →
      FollowsUp
        { s with rrd := { s.rrd with
            fetch := none, walk := i + 1, take := i + 1, hold := held
            table := s.rrd.table ++
              [{ index := i, kind := if isRepeat then .repeatRow else .blank, complete := false,
                 result := none, reason := 0, byte13 := 0, half14 := 0, tag := itemTag f.data,
                 silent := false }] } } (settle (completeFetch s))) ∧
    (i ≠ s.rrd.take →
      FollowsUp { s with rrd := { s.rrd with fetch := none, walk := i + 1, hold := held } }
        (settle (completeFetch s))) := by
  intro s f w fetch live returned inside label within printing isRepeat kind i n run held
  refine ⟨fun first => ?_, fun again => ?_⟩
  · refine itemFetch_followsUp fetch live returned ?_ fun none_ => absurd none_ printing
    rw [parseItem_run inside label within kind, passed_first first, newEntry_accepted kind,
      runSegment_eq (w := w) (by exact label) (by exact within)]
    rfl
  · refine itemFetch_followsUp fetch live returned ?_ fun none_ => absurd none_ printing
    rw [parseItem_run inside label within kind, passed_again again, runSegment_eq (w := w) (by exact label) (by exact within)]
    rfl

/-- Settles O28. -/
theorem fetchBand : Obligations.FetchBand := by
  refine ⟨?_, ?_⟩
  · intro s f w fetch live returned inside label within printing byte
    refine ⟨_, rfl, fetchRun s f w fetch live returned inside label within printing
      (decide (field 0 1 f.data = 3)) ?_⟩
    rcases byte with repeats | blank
    · simp [kindOf, repeats]
    · simp [kindOf, blank]
  · intro s f w fetch live returned inside label within printing byte low top
    have kind : kindOf f.data = .band := by simp only [kindOf, byte]
    have fine : refusalOf s.geo s.rrd.inside f.data = 0 := by
      unfold refusalOf
      simp only [kind]
      rw [if_neg (by simp [inside]), itemWord, if_neg (Nat.not_le.2 low), if_neg (Nat.not_le.2 top)]
    have parse : parseItem f.data s =
        acceptBand (decide (s.rrd.walk = s.rrd.take)) s.rrd.walk f.data (passed 0 f.data s) := by
      rw [parseItem_accepted (by rw [kind]; simp) fine, acceptItem, kind]
    refine ⟨_, rfl, fun first => ?_, fun again => ?_⟩
    · refine itemFetch_followsUp fetch live returned ?_ fun none_ => absurd none_ printing
      rw [parse, passed_first first, newEntry_accepted kind, decide_eq_true first, acceptBand_eq (w := w) (by exact label) (by exact within)]
      rfl
    · refine itemFetch_followsUp fetch live returned ?_ fun none_ => absurd none_ printing
      rw [parse, passed_again again, decide_eq_false again, acceptBand_eq (w := w) (by exact label) (by exact within)]
      rfl

/-! ## The close of a copy -/

/-- R50: the close records the closing index where none stands. -/
theorem recordClosing_eq {s : State} {w : WalkLabel} (label : s.rrd.label = some w) (k : Idx) :
    recordClosing k s = { s with
      rrd := { s.rrd with label := some { w with closing := some (w.closing.getD k) } }
      lcu := { s.lcu with
        printing := s.lcu.printing.map fun d =>
          if d.label = w.index then { d with closing := some (d.closing.getD k) } else d
        staged := s.lcu.staged.map fun d =>
          if d.label = w.index then { d with closing := some (d.closing.getD k) } else d } } := by
  unfold recordClosing
  simp only [walkIndex_eq label, label]
  rfl

/-- R54: the counts kept for a label whose last copy has ended complete its items. -/
def closedTable (retire : Idx) (w : WalkLabel) (k : Idx) (table : List ItemEntry) : List ItemEntry :=
  match w.ended with
  | some (good, spoiled) => labelEnds retire w.index k .done good spoiled table
  | none => table

theorem completeLabel_eq (label closing : Idx) (r : ItemResult) (good spoiled : Nat) (s : State) :
    completeLabel label closing r good spoiled s = { s with rrd := { s.rrd with
      table := labelEnds s.rrd.retire label closing r good spoiled s.rrd.table } } := by
  unfold completeLabel labelEnds
  have one (e : ItemEntry) : (if inSpan s.rrd.retire label closing e then e.finishLabel label r good spoiled else e) =
      if (label - s.rrd.retire).toNat ≤ (e.index - s.rrd.retire).toNat ∧
          (e.index - s.rrd.retire).toNat ≤ (closing - s.rrd.retire).toNat then
        if e.index = label then { e.ends r with byte13 := min 255 spoiled, half14 := good }
        else e.ends r
      else e := by
    simp only [inSpan, Bool.and_eq_true, decide_eq_true_eq]
    rfl
  rw [funext one]

/-- R48, R50: what the close of a body's last copy leaves. -/
theorem closeBody_eq {s : State} {w : WalkLabel} {k : Idx} (label : s.rrd.label = some w)
    (closing : w.closing = some k) (implied : Bool) :
    closeBody implied s = { s with rrd := { s.rrd with
      inside := false, label := none, impliedClose := s.rrd.impliedClose || implied
      table := closedTable s.rrd.retire w k s.rrd.table } } := by
  unfold closeBody closedTable
  simp only [label, closing]
  cases w.ended with
  | none => rfl
  | some counts => exact completeLabel_eq _ _ _ _ _ _

theorem closeCopy_eq {s : State} {w : WalkLabel} (label : s.rrd.label = some w) (implied : Bool) (k : Idx) :
    closeCopy implied k s =
      let held := if s.rrd.supplyCopy ≤ w.total
        then some (Held.segment (.copyEnd s.rrd.supplyCopy w.index)) else s.rrd.hold
      let mark (d : Context) : Context :=
        if d.label = w.index then { d with closing := some (d.closing.getD k) } else d
      let lcu := { s.lcu with printing := s.lcu.printing.map mark, staged := s.lcu.staged.map mark }
      if s.rrd.supplyCopy < w.total then
        { s with
          lcu := lcu
          rrd := { s.rrd with
            hold := held, walk := w.index + 1, supplyCopy := s.rrd.supplyCopy + 1
            label := some { w with closing := some (w.closing.getD k) } } }
      else
        { s with
          lcu := lcu
          rrd := { s.rrd with
            hold := held, inside := false, label := none
            impliedClose := s.rrd.impliedClose || implied
            table := closedTable s.rrd.retire w (w.closing.getD k) s.rrd.table } } := by
  have total : (s.rrd.label.map (fun w => w.total)).getD 0 = w.total := by rw [label]; rfl
  have holds : holdSegment (.copyEnd s.rrd.supplyCopy w.index) s = { s with rrd := { s.rrd with
      hold := if s.rrd.supplyCopy ≤ w.total
        then some (Held.segment (.copyEnd s.rrd.supplyCopy w.index)) else s.rrd.hold } } := by
    by_cases within : s.rrd.supplyCopy ≤ w.total
    · rw [holdSegment_eq label within, if_pos within]
    · rw [holdSegment_past label (Nat.lt_of_not_le within), if_neg within]
  unfold closeCopy
  simp only [walkIndex_eq label, total, holds]
  rw [recordClosing_eq (w := w) (by exact label)]
  split
  · rfl
  · rw [closeBody_eq (k := w.closing.getD k) rfl rfl]
    rfl

/-- Settles O31. -/
theorem fetchEnd : Obligations.FetchEnd := by
  intro s f w fetch live returned inside label still i held closed returns leaves
  have marked (mark : Context → Context) : s.lcu.printing.map mark = none → s.lcu.staged.map mark = none := by
    intro none_
    rw [still (Option.map_eq_none_iff.1 none_)]
    rfl
  refine ⟨fun byte => ⟨_, rfl, ?_⟩, fun byte => ⟨_, rfl, ?_⟩⟩
  · have kind : kindOf f.data = .endCopy := by simp only [kindOf, byte]
    have fine : refusalOf s.geo s.rrd.inside f.data = 0 := by
      unfold refusalOf
      simp [kind, inside]
    have parse : parseItem f.data s = closeCopy false i (passed 0 f.data s) := by
      rw [parseItem_accepted (by rw [kind]; simp) fine, acceptItem, kind]
    intro entry passed_
    refine ⟨fun more => ?_, fun last => ?_⟩
    · refine itemFetch_followsUp fetch live returned ?_ (marked _)
      rw [parse, passed_frame, newEntry_accepted kind, closeCopy_eq (w := w) (by exact label)]
      exact if_pos more
    · refine itemFetch_followsUp fetch live returned ?_ (marked _)
      rw [parse, passed_frame, newEntry_accepted kind, closeCopy_eq (w := w) (by exact label)]
      refine (if_neg (Nat.not_lt.2 last)).trans ?_
      rfl
  · have kind : kindOf f.data = .label := (kindOf_label_iff _).2 byte
    have parse : parseItem f.data s = closeCopy true (i - 1) { s with rrd := { s.rrd with fetch := none } } := by
      unfold parseItem
      exact if_pos ⟨inside, kind⟩
    refine ⟨fun more => ?_, fun last => ?_⟩
    · refine itemFetch_followsUp fetch live returned ?_ (marked _)
      rw [parse, closeCopy_eq (w := w) (by exact label)]
      exact if_pos more
    · refine itemFetch_followsUp fetch live returned ?_ (marked _)
      rw [parse, closeCopy_eq (w := w) (by exact label)]
      refine (if_neg (Nat.not_lt.2 last)).trans ?_
      rfl

/-! ## The retire advance -/

/-- R176: a record after events with these codes and arguments. -/
def SourceRecord.after (r : SourceRecord) (events : List (Nat × BitVec 16)) : SourceRecord :=
  events.foldl (fun r e => r.record e.1 e.2) r

theorem SourceRecord.after_count (events : List (Nat × BitVec 16)) : ∀ r : SourceRecord,
    min 255 (r.after events).count = min 255 (r.count + events.length) := by
  induction events with
  | nil => exact fun r => rfl
  | cons e events ih =>
    intro r
    have rest := ih (r.record e.1 e.2)
    rw [SourceRecord.after, List.foldl_cons, ← SourceRecord.after, rest, SourceRecord.record_eq,
      List.length_cons]
    dsimp only
    split <;> omega

theorem SourceRecord.after_inService (events : List (Nat × BitVec 16)) : ∀ r : SourceRecord,
    (r.after events).inService = r.inService := by
  induction events with
  | nil => exact fun r => rfl
  | cons e events ih => exact fun r => ih (r.record e.1 e.2)

/-- R176: after some events a record has the last one's code and argument. -/
theorem SourceRecord.after_last {events : List (Nat × BitVec 16)} {e : Nat × BitVec 16}
    (last : e ∈ events.getLast?) (r : SourceRecord) : r.after events =
      { pending := true, inService := r.inService, code := e.1, arg := e.2,
        count := min 255 (r.count + events.length) } := by
  obtain ⟨before, rfl⟩ := List.getLast?_eq_some_iff.1 last
  have count := SourceRecord.after_count before r
  have split_ : r.after (before ++ [e]) = (r.after before).record e.1 e.2 := by
    rw [SourceRecord.after, List.foldl_append]
    rfl
  rw [split_, SourceRecord.record_eq, SourceRecord.after_inService, List.length_append]
  congr 1
  rw [List.length_singleton]
  split <;> omega

/-- R55: the records after the retirement of an item. -/
theorem retireItem_record (e : ItemEntry) (s : State) (n : Source) :
    (retireItem e s).asu.records.get n = if n = .label then
      ((s.asu.records.get n).after (labelEvent e).toList) else s.asu.records.get n := by
  have raised (code : Nat) (arg : BitVec 16) (u : State) (same : u.asu = s.asu) :
      (raise .label code arg u).asu.records.get n = if n = .label then
        ((s.asu.records.get n).after [(code, arg)]) else s.asu.records.get n := by
    rw [raise_records, same]
    split
    next label =>
      rw [label, PerSource.get_set]
      rfl
    next other => exact PerSource.get_set_ne _ _ _ _ other
  unfold retireItem labelEvent raiseRetired
  dsimp only
  by_cases silent : e.silent = true
  · rw [if_pos silent, if_pos (Or.inl silent)]
    split <;> rfl
  · rw [if_neg silent]
    by_cases refused : e.result = some .refused
    · rw [if_pos refused, if_pos (Or.inr refused)]
      split <;> rfl
    · rw [if_neg refused, if_neg (show ¬ (e.silent = true ∨ e.result = some .refused) from not_or.2 ⟨silent, refused⟩)]
      cases e.kind
      case label => exact raised _ _ _ (by rfl)
      case feed => exact raised _ _ _ (by rfl)
      case settings => exact raised _ _ _ (by rfl)
      all_goals exact (ite_self _).symm

theorem retireRun_record (run : List ItemEntry) (n : Source) : ∀ s : State,
    (retireRun run s).asu.records.get n = if n = .label then
      ((s.asu.records.get n).after (run.filterMap labelEvent)) else s.asu.records.get n := by
  induction run with
  | nil =>
    intro s
    split <;> rfl
  | cons e run ih =>
    intro s
    rw [retireRun, ih, retireItem_record]
    split
    · rw [List.filterMap_cons]
      cases labelEvent e <;> rfl
    · rfl

/-- R55: one advance over a run that is not empty. -/
theorem retireAdvance_eq {s : State} {run rest : List ItemEntry} (table : s.rrd.table = run ++ rest)
    (some_ : run ≠ []) (complete : ∀ e ∈ run, e.complete = true ∧ e.index ≠ s.rrd.walk)
    (stop : ∀ e ∈ rest.head?, e.complete = false ∨ e.index = s.rrd.walk) :
    retireAdvance s = endAdvance s.bht.free (s.rrd.retire + BitVec.ofNat 16 run.length)
      { retireRun run s with rrd := { (retireRun run s).rrd with table := rest } } := by
  have taken := takeWhile_run s run rest table complete stop
  unfold retireAdvance
  rw [taken]
  cases run with
  | nil => exact absurd rfl some_
  | cons e run =>
    have left : s.rrd.table.drop (e :: run).length = rest := by rw [table, List.drop_left]
    dsimp only
    rw [left]

theorem judgeBandsFree_record (before : Nat) (s : State) (n : Source) :
    (judgeBandsFree before s).asu.records.get n =
      if n = .bands ∧ before < s.bht.threshold ∧ s.bht.threshold ≤ s.bht.free then
        (s.asu.records.get n).record Code.bandsFree (argOf s.bht.free) else s.asu.records.get n := by
  unfold judgeBandsFree
  by_cases crosses : before < s.bht.threshold ∧ s.bht.threshold ≤ s.bht.free
  · rw [if_pos crosses, raise_records]
    by_cases bands : n = .bands
    · rw [if_pos ⟨bands, crosses⟩, bands, PerSource.get_set]
    · rw [if_neg fun h => bands h.1, PerSource.get_set_ne _ _ _ _ bands]
  · rw [if_neg crosses, if_neg fun h => crosses h.2]

theorem settle_asu (s : State) : (settle s).asu = (retireAdvance s).asu := by
  rw [settle_eq]
  simp

theorem settle_waiting (s : State) : ∃ rereads items,
    (settle s).bpu.waiting = (retireAdvance s).bpu.waiting ++ (rereads ++ items) ∧
      ∀ x ∈ rereads ++ items, x.isOutcome = false := by
  refine ⟨rereadsFor (fillBuffer (retireAdvance s)),
    if fetchDue (startReread (fillBuffer (retireAdvance s))) then [.item] else [], ?_, fun x hx => ?_⟩
  · rw [settle_eq, ← List.append_assoc]
    simp only [refreshForecast_bpu, updateTailRunOn_bpu, requestFetch_waiting, startReread_waiting, fillBuffer_bpu]
  · rcases List.mem_append.1 hx with reread | item
    · unfold rereadsFor at reread
      split at reread
      · obtain ⟨k, -, rfl⟩ := List.mem_map.1 reread
        rfl
      · cases reread
    · split at item
      · obtain rfl := List.mem_singleton.1 item
        rfl
      · cases item

/-- Settles O32. -/
theorem Proofs.retireAdvance : Obligations.RetireAdvance := by
  intro s run rest table some_ complete stop t events
  obtain ⟨retire, left, bht, outcomes⟩ := (settle_followsUp s).retires run rest table complete stop
  have advance := retireAdvance_eq table some_ complete stop
  have records (n : Source) : t.asu.records.get n =
      (judgeBandsFree s.bht.free (retireRun run s)).asu.records.get n := by
    rw [settle_asu, advance, judgeBandsFree_record]
    exact judgeBandsFree_record _ _ _
  have held : (retireRun run s).bht = t.bht := by rw [retireRun_bht, bht]
  have threshold : (retireRun run s).bht.threshold = s.bht.threshold := retireRun_threshold run s
  have label : t.asu.records.get .label = (s.asu.records.get .label).after events := by
    rw [records, judgeBandsFree_record, if_neg (by simp), retireRun_record, if_pos rfl]
  have bands : t.asu.records.get .bands =
      if s.bht.free < s.bht.threshold ∧ s.bht.threshold ≤ t.bht.free then
        (s.asu.records.get .bands).record Code.bandsFree (argOf t.bht.free) else s.asu.records.get .bands := by
    rw [records, judgeBandsFree_record, retireRun_record, threshold, held]
    simp
  refine ⟨retire, left, bht, outcomes, ?_, fun none_ => ?_, fun e last => ?_, fun low high => ?_, fun same => ?_⟩
  · obtain ⟨rereads, items, waiting, others⟩ := settle_waiting s
    rw [advance] at waiting
    exact ⟨_, _, waiting, others⟩
  · rw [label, none_]
    rfl
  · rw [label, SourceRecord.after_last last]
  · rw [bands, if_pos ⟨low, high⟩]
    exact ⟨rfl, rfl, rfl⟩
  · rw [bands, if_neg same]

/-! ## The format record -/

theorem grantAll_format {s : State} {c : Context} (returned : Transfer.format c.label ∉ s.bpu.waiting) :
    grantAll (fun t => t == .format c.label) s = s :=
  grantAll_none _ s (List.any_eq_false.2 fun _ hx same => returned (beq_iff_eq.1 same ▸ hx))

theorem context_format_eq {c : Context} (unread : c.formatRead = false) (rampCount : Nat) :
    c.format rampCount = { c with
      formatRead := true, formatData := []
      reprintFlag := decide (field 2 1 c.formatData % 2 = 1)
      permission := decide (field 2 1 c.formatData % 2 = 1)
      darkness := max (-15) (min 15 (signedField 0 c.formatData))
      speedCap := min (field 1 1 c.formatData) (rampCount - 1) } := by
  have awaits : c.awaitsFormat = true := by rw [Context.awaitsFormat, unread]; rfl
  unfold Context.format
  rw [if_pos awaits]
  rfl

/-- Settles O38. -/
theorem formatRecordRead : Obligations.FormatRecordRead := by
  intro s c unread returned b flag d
  have awaits : c.awaitsFormat = true := by rw [Context.awaitsFormat, unread]; rfl
  refine ⟨fun printing => ⟨_, rfl, ?_⟩, fun others staged => ⟨_, rfl, ?_⟩⟩
  · have read : completeFormat s = { s with lcu := { s.lcu with printing := some d } } := by
      have asks : s.lcu.printing.filter Context.awaitsFormat = some c := by
        rw [printing, Option.filter_some, if_pos awaits]
      unfold completeFormat
      simp only [asks]
      rw [grantAll_format returned, State.updatePrinting, printing]
      simp only [Option.map_some, context_format_eq unread]
      rfl
    rw [read]
    exact settle_followsUp _
  · have read : completeFormat s = { s with lcu := { s.lcu with staged := some d } } := by
      have rest : s.lcu.printing.filter Context.awaitsFormat = none := by
        rw [Option.filter_eq_none_iff]
        intro p hp
        simp [Context.awaitsFormat, others p hp]
      have asks : s.lcu.staged.filter Context.awaitsFormat = some c := by
        rw [staged, Option.filter_some, if_pos awaits]
      unfold completeFormat
      simp only [rest, asks]
      rw [grantAll_format returned, staged]
      simp only [Option.map_some, context_format_eq unread]
      rfl
    rw [read]
    exact settle_followsUp _

/-! ## The line buffer's fill -/

/-- R83: the slots a segment gives in all. -/
def Segment.slots : Segment → List Slot
  | .rows b f n c l => (List.range n).map fun k => .row b (f + k) c l [] none
  | .repeatRun n c l => [.run true n c l]
  | .blankRun n c l => [.run false n c l]
  | .copyEnd c l => [.endMark c l]

/-- R82: a segment of lines has at least one. -/
def Segment.sound (x : Segment) : Prop := x.isEnd = false → 1 ≤ x.lines

/-- R83: taking a slot off a segment leaves the rest of its slots, in their order. -/
theorem takeSlot_slots {x : Segment} (sound : x.sound) :
    x.takeSlot.1 :: x.takeSlot.2.toList.flatMap Segment.slots = x.slots ∧ ∀ y ∈ x.takeSlot.2, y.sound := by
  cases x with
  | rows b f n c l =>
    obtain ⟨n, rfl⟩ := Nat.exists_eq_add_of_le' (sound rfl)
    have first : Segment.slots (.rows b f (n + 1) c l) =
        .row b f c l [] none :: Segment.slots (.rows b (f + 1) n c l) := by
      simp only [Segment.slots, List.range_succ_eq_map, List.map_cons, List.map_map, Nat.add_zero]
      refine congrArg _ (List.map_congr_left fun k _ => ?_)
      rw [Function.comp, Nat.succ_eq_one_add, Nat.add_assoc]
    rw [first]
    cases n with
    | zero => exact ⟨rfl, nofun⟩
    | succ n =>
      refine ⟨by simp [Segment.takeSlot], fun y hy => ?_⟩
      obtain rfl := Option.some.inj hy
      exact fun _ => Nat.le_add_left _ _
  | repeatRun n c l => exact ⟨rfl, nofun⟩
  | blankRun n c l => exact ⟨rfl, nofun⟩
  | copyEnd c l => exact ⟨rfl, nofun⟩

/-- R82, R83: the lines of a segment are those of its slots. -/
theorem slots_lines (x : Segment) : (x.slots.map Slot.lines).sum = x.lines := by
  cases x with
  | rows b f n c l =>
    have one : (Slot.lines ∘ fun k => Slot.row b (f + k) c l [] none) = fun _ => 1 := rfl
    rw [Segment.slots, List.map_map, one]
    simp [Segment.lines]
  | repeatRun n c l => rfl
  | blankRun n c l => rfl
  | copyEnd c l => rfl

theorem stream_lines (r : Rsu) : (r.stream.map fun e => e.lines).sum =
    ((r.buffer ++ r.queue.flatMap Segment.slots).map Slot.lines).sum := by
  have queue : ((r.queue.flatMap Segment.slots).map Slot.lines).sum = (r.queue.map Segment.lines).sum := by
    induction r.queue with
    | nil => rfl
    | cons x rest ih => rw [List.flatMap_cons, List.map_append, List.sum_append, slots_lines, ih]; rfl
  rw [Rsu.stream, List.map_append, List.sum_append, List.map_append, List.sum_append, queue, List.map_map,
    List.map_map]
  rfl

/-- One slot taken, where one is empty and the queue holds a segment. -/
theorem takeUpTo_succ {r : Rsu} {seg : Segment} {rest : List Segment} (room : r.buffer.length < 8)
    (queue : r.queue = seg :: rest) (n : Nat) : Rsu.takeUpTo (n + 1) r = Rsu.takeUpTo n
      { r with buffer := r.buffer ++ [seg.takeSlot.1], queue := seg.takeSlot.2.toList ++ rest } := by
  rw [Rsu.takeUpTo]
  refine (if_pos room).trans ?_
  rw [queue]

theorem takeUpTo_done {r : Rsu} (done : 8 ≤ r.buffer.length ∨ r.queue = []) (n : Nat) :
    Rsu.takeUpTo n r = r := by
  cases n with
  | zero => rfl
  | succ n =>
    rw [Rsu.takeUpTo]
    rcases done with full | empty
    · exact if_neg (Nat.not_lt.2 full)
    · rw [empty, ite_self]

/-- R83, R84: what taking slots does to the buffer: it grows at its end until it is full or the queue is
empty. -/
theorem takeUpTo_spec (n : Nat) : ∀ r : Rsu, r.buffer.length ≤ 8 → 8 ≤ r.buffer.length + n →
    let t := Rsu.takeUpTo n r
    (∃ more, t.buffer = r.buffer ++ more) ∧ (t.buffer.length = 8 ∨ t.queue = []) ∧ t.buffer.length ≤ 8 ∧
    ((∀ x ∈ r.queue, x.sound) →
      t.buffer ++ t.queue.flatMap Segment.slots = r.buffer ++ r.queue.flatMap Segment.slots) := by
  induction n with
  | zero => exact fun r few enough =>
      ⟨⟨[], (List.append_nil _).symm⟩, .inl (Nat.le_antisymm few enough), few, fun _ => rfl⟩
  | succ n ih =>
    intro r few enough
    rcases Nat.lt_or_ge r.buffer.length 8 with room | full
    · cases queue : r.queue with
      | nil =>
        rw [takeUpTo_done (.inr queue)]
        exact ⟨⟨[], (List.append_nil _).symm⟩, .inr queue, few, fun _ => by rw [queue]⟩
      | cons seg rest =>
        rw [takeUpTo_succ room queue]
        obtain ⟨⟨more, grows⟩, ends, most, keeps⟩ := ih
          { r with buffer := r.buffer ++ [seg.takeSlot.1], queue := seg.takeSlot.2.toList ++ rest }
          (by simpa using room) (by simp; omega)
        refine ⟨⟨[seg.takeSlot.1] ++ more, by rw [grows, List.append_assoc]⟩, ends, most, fun sound => ?_⟩
        obtain ⟨slots, left⟩ := takeSlot_slots (sound seg (List.mem_cons_self ..))
        rw [keeps fun x hx => ?_]
        · rw [List.flatMap_append, List.append_assoc, List.flatMap_cons, ← slots]
          rfl
        · rcases List.mem_append.1 hx with off | later
          · exact left x (Option.mem_toList.1 off)
          · exact sound x (List.mem_cons_of_mem _ later)
    · rw [takeUpTo_done (.inl full)]
      exact ⟨⟨[], (List.append_nil _).symm⟩, .inl (Nat.le_antisymm few full), few, fun _ => rfl⟩

/-- R84: the fill is that of `takeUpTo`, and goes on exactly below 8 slots. -/
theorem fill_spec {r : Rsu} (few : r.buffer.length ≤ 8) (fills : r.filling = true ∨ r.buffer.length ≤ 4) :
    (∃ more, r.fill.buffer = r.buffer ++ more) ∧ (r.fill.buffer.length = 8 ∨ r.fill.queue = []) ∧
      (r.fill.filling = true ↔ r.fill.buffer.length < 8) ∧ r.fill.buffer.length ≤ 8 ∧
      ((∀ x ∈ r.queue, x.sound) →
        r.fill.buffer ++ r.fill.queue.flatMap Segment.slots = r.buffer ++ r.queue.flatMap Segment.slots ∧
        (r.fill.stream.map fun e => e.lines).sum = (r.stream.map fun e => e.lines).sum) := by
  obtain ⟨grows, ends, most, keeps⟩ := takeUpTo_spec 8 r few (Nat.le_add_left _ _)
  have fill : r.fill = { Rsu.takeUpTo 8 r with
      filling := decide ((Rsu.takeUpTo 8 r).buffer.length < Config.bufferSize) } := if_pos fills
  rw [fill]
  refine ⟨grows, ends, decide_eq_true_iff, most, fun sound => ⟨keeps sound, ?_⟩⟩
  rw [stream_lines, stream_lines]
  exact congrArg (fun l : List Slot => (l.map Slot.lines).sum) (keeps sound)

/-! ## Row transfers -/

theorem needs_eq_false {g : Geometry} {x : Slot}
    (h : ∀ b r c l got, x = .row b r c l got none → g.rowBytes ≤ got.length) : x.needs g = false := by
  unfold Slot.needs
  split
  next b r c l got => exact decide_eq_false (Nat.not_lt.2 (h b r c l got rfl))
  · rfl

/-- R85: slots that need nothing are passed over. -/
theorem grantRowIn_skip {g : Geometry} (m : Memory) (before rest : List Slot)
    (got : ∀ x ∈ before, x.needs g = false) :
    grantRowIn g m (before ++ rest) = before ++ grantRowIn g m rest := by
  induction before with
  | nil => rfl
  | cons x before ih =>
    have tail := ih fun y hy => got y (List.mem_cons_of_mem _ hy)
    have none_ := got x (List.mem_cons_self ..)
    cases x with
    | row b r c l bytes image =>
      cases image with
      | none =>
        refine (if_neg ?_).trans (congrArg (_ :: ·) tail)
        simpa [Slot.needs] using none_
      | some dots => exact congrArg (_ :: ·) tail
    | run isRepeat n c l => exact congrArg (_ :: ·) tail
    | endMark c l => exact congrArg (_ :: ·) tail

theorem tick_frame (s : State) : (tick s).bpu = s.bpu ∧ (tick s).rsu = s.rsu := by
  unfold tick
  extract_lets s1
  split <;> exact ⟨rfl, rfl⟩

/-- Settles O35. -/
theorem fillHysteresis : Obligations.FillHysteresis := by
  refine ⟨?_, ?_⟩
  · intro r few t slotsOf
    have slots : slotsOf = Segment.slots := by
      funext x
      cases x <;> rfl
    rw [slots]
    refine ⟨fun full many => if_neg ?_, fill_spec few⟩
    simp [full, many]
  · intro s before after b r c l got empty buffer all short
    have waits : rowWaits s = true := by
      rw [rowWaits, buffer]
      exact List.any_eq_true.2 ⟨_, List.mem_append_right _ (List.mem_cons_self ..), decide_eq_true short⟩
    have grant : grantNext s = { s with rsu := { s.rsu with buffer := grantRowIn s.geo s.mem s.rsu.buffer } } :=
      if_pos waits
    have row : grantRowIn s.geo s.mem (.row b r c l got none :: after) =
        .row b r c l (got ++ s.mem.readBytes (s.geo.rowAddr b r + got.length)
          (min 16 (s.geo.rowBytes - got.length))) none :: after := if_pos short
    obtain ⟨bpu, rsu⟩ := tick_frame (grantNext s)
    refine ⟨_, step_nil empty, ?_, ?_, ?_⟩
    · rw [idle, tick_mem, grant]
    · rw [idle, bpu, grant]
    · rw [idle, rsu, grant, buffer,
        grantRowIn_skip _ _ _ fun x hx => needs_eq_false fun b' r' c' l' g' => all x hx b' r' c' l' g', row]
      rfl

/-! ## Operations fetched -/

/-- R42, R49: the fetch of an operation item. -/
theorem fetchOperation {s : State} {f : ItemFetch} {kind : ItemKind} {held : Held}
    (fetch : s.rrd.fetch = some f) (live : f.doomed = false) (returned : Transfer.item ∉ s.bpu.waiting)
    (outside : s.rrd.inside = false) (still : s.lcu.printing = none → s.lcu.staged = none)
    (item : (field 0 1 f.data = 6 ∧ kind = .feed ∧ held = .feed s.rrd.walk (field 2 2 f.data)) ∨
      (field 0 1 f.data = 7 ∧ kind = .calibrate ∧ held = .calibrate s.rrd.walk) ∨
      (field 0 1 f.data = 8 ∧ kind = .settings ∧ held = .settings s.rrd.walk)) :
    FollowsUp
      { s with rrd := { s.rrd with
          fetch := none, walk := s.rrd.walk + 1, hold := some held
          take := if s.rrd.walk = s.rrd.take then s.rrd.walk + 1 else s.rrd.take
          table := if s.rrd.walk = s.rrd.take then s.rrd.table ++
            [{ index := s.rrd.walk, kind := kind, complete := false, result := none, reason := 0, byte13 := 0,
               half14 := 0, tag := itemTag f.data, silent := false }] else s.rrd.table } }
      (settle (completeFetch s)) := by
  have kinds : kindOf f.data = kind := by
    rcases item with ⟨byte, rfl, -⟩ | ⟨byte, rfl, -⟩ | ⟨byte, rfl, -⟩ <;> simp only [kindOf, byte]
  have fine : refusalOf s.geo s.rrd.inside f.data = 0 := by
    unfold refusalOf
    rw [kinds, outside]
    rcases item with ⟨-, rfl, -⟩ | ⟨-, rfl, -⟩ | ⟨-, rfl, -⟩ <;> rfl
  refine itemFetch_followsUp fetch live returned ?_ still
  rw [parseItem_accepted (by simp [outside]) fine, passed_frame, newEntry_accepted kinds]
  unfold acceptItem
  rw [kinds]
  rcases item with ⟨-, rfl, rfl⟩ | ⟨-, rfl, rfl⟩ | ⟨-, rfl, rfl⟩ <;> rfl

/-! ## A forward step -/

/-- R135: the step itself: the registers, the delivery of its line, the position. -/
def State.stepped (s : State) (index period : Nat) : State := advancePosition (deliverLine (beginLine index period s))

theorem stepped_mtu (s : State) (index period : Nat) : (s.stepped index period).mtu =
    { s.mtu with
      motion := .forward, dirForward := true, ramp := index, latch := none, stopping := none
      timer := some { period := period, elapsed := 0 }, position := s.mtu.position + 1 } := by
  rw [State.stepped, advancePosition, deliverLine_mtu]
  rfl

theorem stepped_msu (s : State) (index period : Nat) : (s.stepped index period).msu =
    { s.msu with sensing := some (s.mtu.position, period) } := by
  rw [State.stepped, advancePosition, deliverLine_msu]
  rfl

theorem stepped_lcu (s : State) (index period : Nat) : (s.stepped index period).lcu = s.lcu := by
  rw [State.stepped, advancePosition, deliverLine_lcu, beginLine_lcu]

theorem stepped_settings (s : State) (index period : Nat) : (s.stepped index period).settings = s.settings := by
  rw [State.stepped, advancePosition, deliverLine_settings, beginLine_settings]

theorem stepped_mem (s : State) (index period : Nat) : (s.stepped index period).mem = s.mem := by
  rw [State.stepped, advancePosition, deliverLine_mem, beginLine_mem]

theorem stepped_htu (s : State) (index period : Nat) : (s.stepped index period).htu = s.htu := by
  rw [State.stepped, advancePosition, deliverLine_htu, beginLine_htu]

theorem stepped_rrd (s : State) (index period : Nat) : (s.stepped index period).rrd = s.rrd := by
  rw [State.stepped, advancePosition, deliverLine_rrd, beginLine_rrd]

theorem stepped_bpu (s : State) (index period : Nat) : (s.stepped index period).bpu = s.bpu := by
  rw [State.stepped, advancePosition, deliverLine_bpu, beginLine_bpu]

theorem stepped_bht (s : State) (index period : Nat) : (s.stepped index period).bht = s.bht := by
  rw [State.stepped, advancePosition, deliverLine_bht, beginLine_bht]

theorem stepped_asu (s : State) (index period : Nat) : (s.stepped index period).asu = s.asu := by
  rw [State.stepped, advancePosition, deliverLine_asu, beginLine_asu]

/-- R99, R108: a delivery leaves the rest timer. -/
theorem deliverLine_restTimer (s : State) : (deliverLine s).seu.restTimer = s.seu.restTimer := by
  unfold deliverLine
  split
  · rw [takeRecord_seu]
    rfl
  · split
    · rfl
    · rw [fillBuffer_seu, takeRecord_seu]
      rfl

theorem stepped_restTimer (s : State) (index period : Nat) : (s.stepped index period).seu.restTimer = none := by
  rw [State.stepped, advancePosition, deliverLine_restTimer]
  rfl

/-- R155: reaching the head entry of the edge queue changes the Media Sensing Unit alone. -/
theorem reachTof_eq (s : State) : reachTof s = { s with msu := (reachTof s).msu } := by
  unfold reachTof
  split
  · rfl
  · split <;> rfl

theorem reachTof_msu (s : State) : (reachTof s).msu =
    { s.msu with queue := (reachTof s).msu.queue, passed := (reachTof s).msu.passed } := by
  unfold reachTof
  split
  · rfl
  · split <;> rfl

theorem reachTof_none {s : State} (h : ∀ e ∈ s.msu.queue.head?, e.tof ≠ s.mtu.position) : reachTof s = s := by
  unfold reachTof
  split
  · rfl
  next e rest queue => exact if_neg (h e (by rw [queue]; rfl))

/-- R67, R68: the step from `s` reaches the end of the current copy. -/
def StepEnds (s : State) : Prop :=
  s.lcu.engine = .printing ∧ s.lcu.started = true ∧
    if s.gapped then ∃ p, s.lcu.copyTof = some p ∧ 1 ≤ ahead (s.mtu.position + 1) p ∧
      s.msu.queue.head?.map (fun e => e.tof) = some (s.mtu.position + 1)
    else ∃ p, s.lcu.copyTof = some p ∧
      s.mtu.position + 1 = p + BitVec.ofNat 32 ((s.lcu.printing.map fun c => c.length).getD 0)

theorem gapped_congr {s t : State} (h : t.settings = s.settings) : t.gapped = s.gapped := by
  rw [State.gapped, State.gapped, State.cfg, State.cfg, h]

theorem cfg_congr {s t : State} (h : t.settings = s.settings) : t.cfg = s.cfg := by
  rw [State.cfg, State.cfg, h]

theorem atCopyEnd_iff (s u : State) (index period : Nat) (lcu : u.lcu = s.lcu)
    (settings : u.settings = s.settings) (position : u.mtu.position = s.mtu.position + 1) :
    atCopyEnd (reachesTof (s.stepped index period)) u = true ↔ StepEnds s := by
  have reaches : reachesTof (s.stepped index period) = true ↔
      s.msu.queue.head?.map (fun e => e.tof) = some (s.mtu.position + 1) := by
    rw [reachesTof, stepped_msu, stepped_mtu]
    cases s.msu.queue.head? with
    | none => simp
    | some e => simp
  unfold atCopyEnd StepEnds
  rw [lcu, gapped_congr settings, position]
  cases s.lcu.copyTof with
  | none => simp
  | some p => cases s.gapped <;> simp [reaches, and_assoc, and_comm, and_left_comm]

/-- R66, R67: where a seek and a blank tail have lines left nothing is judged. -/
theorem judgeLimits_quiet {s : State}
    (seek : ∀ k, s.lcu.seek = some k → k.target = none → linesAhead s.mtu.position k.start < s.cfg.calLimit)
    (tail : s.lcu.engine = .printing → ∀ p, s.lcu.copyTof = some p →
      linesAhead s.mtu.position p < s.cfg.calLimit) : judgeLimits s = s := by
  have noSeek : seekExhausted s = false := by
    unfold seekExhausted
    cases h : s.lcu.seek with
    | none => rfl
    | some k =>
      have few := seek k h
      cases target : k.target with
      | none => simp [target, few target]
      | some p => simp [target]
  have noTail : tailExhausted s = false := by
    unfold tailExhausted tailRunOnOf
    by_cases printing : s.lcu.engine = .printing
    · cases h : s.lcu.copyTof with
      | none => simp
      | some p => simp [tail printing p h]
    · simp [printing]
  unfold judgeLimits
  rw [noSeek, noTail]
  rfl

/-- R161, R163: a calibration run short of its limit is counted. -/
theorem countCalibration_none {s : State} (h : s.msu.cal = none) : countCalibration s = s := by
  unfold countCalibration
  rw [h]

theorem countCalibration_counted {s : State} {r : CalRun} (h : s.msu.cal = some r)
    (few : r.counted.atLimit s.cfg.calLimit = false) :
    countCalibration s = { s with msu := { s.msu with cal := some r.counted } } := by
  unfold countCalibration
  simp only [h]
  exact if_neg (by rw [few]; decide)

/-- R135: a step that ends no copy, fails no calibration run and exhausts no seek and no tail. -/
theorem forwardStep_quiet {s : State} (index period : Nat)
    (cal : ∀ r, s.msu.cal = some r → r.counted.atLimit s.cfg.calLimit = false)
    (goesOn : ¬ StepEnds s)
    (seek : ∀ k, s.lcu.seek = some k → k.target = none →
      linesAhead (s.mtu.position + 1) k.start < s.cfg.calLimit)
    (tail : s.lcu.engine = .printing → ∀ p, s.lcu.copyTof = some p →
      linesAhead (s.mtu.position + 1) p < s.cfg.calLimit) :
    forwardStep index period s =
      let v := reachTof (s.stepped index period)
      { v with msu := { v.msu with cal := s.msu.cal.map CalRun.counted } } := by
  have settings : (reachTof (s.stepped index period)).settings = s.settings := by
    rw [reachTof_eq]
    exact stepped_settings s index period
  have lcu : (reachTof (s.stepped index period)).lcu = s.lcu := by
    rw [reachTof_eq]
    exact stepped_lcu s index period
  have mtu : (reachTof (s.stepped index period)).mtu = (s.stepped index period).mtu := by
    rw [reachTof_eq]
  have kept : (reachTof (s.stepped index period)).msu.cal = s.msu.cal := by
    rw [reachTof_msu, stepped_msu]
  have counted : countCalibration (reachTof (s.stepped index period)) =
      let v := reachTof (s.stepped index period)
      { v with msu := { v.msu with cal := s.msu.cal.map CalRun.counted } } := by
    cases h : s.msu.cal with
    | none =>
      rw [countCalibration_none (by rw [kept, h]), Option.map_none, ← h, ← kept]
    | some r =>
      rw [countCalibration_counted (r := r) (by rw [kept, h]) (by rw [cfg_congr settings]; exact cal r h)]
      rfl
  have noEnd := mt (atCopyEnd_iff s (countCalibration (reachTof (s.stepped index period))) index period
    (by rw [counted]; exact lcu) (by rw [counted]; exact settings)
    (by rw [counted]; dsimp only; rw [mtu, stepped_mtu])).1 goesOn
  have quiet : judgeCopyEnd (reachesTof (s.stepped index period))
      (countCalibration (reachTof (s.stepped index period))) =
      countCalibration (reachTof (s.stepped index period)) := if_neg noEnd
  unfold forwardStep
  refine (congrArg judgeLimits quiet).trans ?_
  rw [counted]
  refine judgeLimits_quiet ?_ ?_
  · dsimp only
    rw [lcu, mtu, stepped_mtu]
    intro k hk target
    exact (seek k hk target).trans_eq (by rw [← cfg_congr settings]; rfl)
  · dsimp only
    rw [lcu, mtu, stepped_mtu]
    intro printing p hp
    exact (tail printing p hp).trans_eq (by rw [← cfg_congr settings]; rfl)

/-- The step of a copy that goes on, with no queued top of form at the next line. -/
theorem forwardStep_plain {s : State} (index period : Nat) (cal : s.msu.cal = none)
    (head : ∀ e ∈ s.msu.queue.head?, e.tof ≠ s.mtu.position + 1) (seek : s.lcu.seek = none)
    (tail : ∀ p, s.lcu.copyTof = some p → linesAhead (s.mtu.position + 1) p < s.cfg.calLimit)
    (length : s.gapped = false → ∀ p, s.lcu.copyTof = some p →
      s.mtu.position + 1 ≠ p + BitVec.ofNat 32 ((s.lcu.printing.map fun c => c.length).getD 0)) :
    forwardStep index period s = s.stepped index period := by
  have goesOn : ¬ StepEnds s := by
    rintro ⟨-, -, ends⟩
    split at ends
    · obtain ⟨p, -, -, at_⟩ := ends
      obtain ⟨e, he, tof⟩ := Option.map_eq_some_iff.1 at_
      exact head e he tof
    · next cont =>
      obtain ⟨p, hp, at_⟩ := ends
      exact length (Bool.eq_false_iff.2 cont) p hp at_
  rw [forwardStep_quiet index period (by simp [cal]) goesOn (by simp [seek]) fun _ => tail]
  rw [reachTof_none (by rw [stepped_msu, stepped_mtu]; exact head), cal]
  have kept : (s.stepped index period).msu.cal = none := by rw [stepped_msu, cal]
  dsimp only
  rw [Option.map_none, ← kept]

/-! ## Planning a line -/

theorem planLine_decelerate {s : State} (source : s.mtu.source = .decelerate) :
    planLine s = if s.mtu.ramp = 0 then .stop .decelerated else .line (s.mtu.ramp - 1) := by
  unfold planLine
  simp only [source]

theorem planLine_eq {s : State} (source : s.mtu.source ≠ .decelerate) : planLine s =
    if 1 ≤ amountAhead s then .line (nextIndex s.mtu.ramp (capOf s (amountAhead s)))
    else if 0 < s.mtu.ramp then .line (s.mtu.ramp - 1)
    else if s.mtu.tailRunOn then .line 0
    else .stop (if s.mtu.source = .horizon then .horizonExhausted else .targetReached) := by
  unfold planLine
  split
  next decelerates => exact absurd decelerates source
  · rfl

/-- R70, R143: with nothing ahead at ramp index 0 the paper stops. -/
theorem planLine_stop {s : State} (source : s.mtu.source ≠ .decelerate) (dry : amountAhead s = 0)
    (ramp : s.mtu.ramp = 0) (tail : s.mtu.tailRunOn = false) :
    planLine s = .stop (if s.mtu.source = .horizon then .horizonExhausted else .targetReached) := by
  rw [planLine_eq source, if_neg (by omega), if_neg (by omega), if_neg (by simp [tail])]

/-- R138, R140: a rule of `amountAhead` per source. -/
theorem amountAhead_horizon {s : State} (source : s.mtu.source = .horizon) : amountAhead s = horizon s := by
  unfold amountAhead
  rw [source]

/-! ## The expiry of a line's period -/

theorem linePeriodExpires_forward {s : State} (timer : s.mtu.timer ≠ none) (motion : s.mtu.motion = .forward) :
    linePeriodExpires s = planningPoint s := by
  unfold linePeriodExpires
  obtain ⟨t, ht⟩ := Option.ne_none_iff_exists'.1 timer
  simp only [ht, motion]

theorem linePeriodExpires_backward {s : State} (timer : s.mtu.timer ≠ none) (motion : s.mtu.motion = .backward) :
    linePeriodExpires s = backfeedExpiry s := by
  unfold linePeriodExpires
  obtain ⟨t, ht⟩ := Option.ne_none_iff_exists'.1 timer
  simp only [ht, motion]

/-- R136: the line's period has expired. -/
def State.expired (s : State) : State := { s with mtu := { s.mtu with timer := none } }

theorem planningPoint_step {s : State} {j : Nat} (plan : planLine s = .line j) (idle : s.hdu.state = .idle) :
    planningPoint s = forwardStep j (s.mtu.ramps.period j) s.expired := by
  unfold planningPoint
  simp only [plan]
  exact if_pos idle

theorem planningPoint_stretch {s : State} {j : Nat} (plan : planLine s = .line j) (busy : s.hdu.state ≠ .idle) :
    planningPoint s = countStretch
      { s with mtu := { s.mtu with timer := none, latch := some (j, s.mtu.ramps.period j) } } := by
  unfold planningPoint
  simp only [plan]
  exact if_neg busy

theorem planningPoint_stop {s : State} {cause : RestCause} (plan : planLine s = .stop cause)
    (idle : s.hdu.state = .idle) : planningPoint s = comeToRest s.expired := by
  unfold planningPoint
  simp only [plan]
  exact if_pos idle

/-! ## Rest -/

theorem tableAtRest_eq (m : Mtu) : m.tableAtRest = m.pendingTable.or m.table := by
  unfold Mtu.tableAtRest
  cases m.pendingTable <;> rfl

/-- R144: the units as the paper comes to rest. -/
theorem motionRest_eq (s : State) : motionRest s = { s with
    mtu := { s.mtu with
      motion := .rest, dirForward := true, ramp := 0, timer := none, latch := none
      source := if s.mtu.source = .decelerate then .horizon else s.mtu.source
      limitZero := false, tailRunOn := false, backfeed := 0, pendingTable := none
      table := s.mtu.pendingTable.or s.mtu.table, stopping := none }
    seu := { s.seu with restTimer := some 0 }
    msu := { s.msu with sensing := none } } := by
  rw [motionRest, Mtu.atRest, tableAtRest_eq]

/-- R144: the registers at rest under a planning source. -/
def Mtu.rested (m : Mtu) (source : PlanSource) : Mtu :=
  { m with
    motion := .rest, dirForward := true, ramp := 0, timer := none, latch := none, source := source
    limitZero := false, tailRunOn := false, backfeed := 0, pendingTable := none
    table := m.pendingTable.or m.table, stopping := none }

theorem motionRest_kept {s : State} (source : s.mtu.source ≠ .decelerate) : motionRest s = { s with
    mtu := s.mtu.rested s.mtu.source
    seu := { s.seu with restTimer := some 0 }
    msu := { s.msu with sensing := none } } := by
  rw [motionRest_eq, if_neg source]
  rfl

theorem motionRest_decelerated {s : State} (source : s.mtu.source = .decelerate) : motionRest s = { s with
    mtu := s.mtu.rested .horizon
    seu := { s.seu with restTimer := some 0 }
    msu := { s.msu with sensing := none } } := by
  rw [motionRest_eq, if_pos source]
  rfl

/-- R70: a stall. -/
theorem stall_eq {s : State} {c : Context} (printing : s.lcu.printing = some c)
    (differs : s.lcu.engine ≠ .stalled) : stall s = requestRefresh { s with
      lcu := { s.lcu with
        engine := .stalled
        stalls := min 65535 (s.lcu.stalls + 1)
        printing := some { c with stalls := min 65535 (c.stalls + 1) } }
      htu := { s.htu with dwell := s.htu.dwell.map fun _ => 0 } } := by
  unfold stall
  rw [State.updatePrinting, printing]
  exact setEngine_kept differs rfl

/-- R144, R70: the rest of PRINTING without a deceleration order stalls the copy. -/
theorem comeToRest_stall {s : State} (engine : s.lcu.engine = .printing) (source : s.mtu.source ≠ .decelerate) :
    comeToRest s = stall (motionRest s) := by
  have order : (s.mtu.source == .decelerate) = false := beq_eq_false_iff_ne.2 source
  rw [comeToRest, order]
  unfold restReached
  have same : (motionRest s).lcu.engine = .printing := engine
  simp only [same]
  rfl

theorem belowHold_iff (g : Grade) : g.belowHold = true ↔ g = .normal ∨ g = .slow := by
  cases g <;> decide

/-- R71, R144: the rest of PRINTING under a deceleration order is that of a thermal hold. -/
theorem comeToRest_thermal {s : State} (engine : s.lcu.engine = .printing) (source : s.mtu.source = .decelerate)
    (hot : s.htu.grade = .hold ∨ s.htu.grade = .trip) :
    comeToRest s = setEngine (.holding .thermal) (motionRest s) := by
  have order : (s.mtu.source == .decelerate) = true := beq_iff_eq.2 source
  have same : (motionRest s).lcu.engine = .printing := engine
  have grade : (setEngine (.holding .thermal) (motionRest s)).htu.grade = s.htu.grade := by
    rw [setEngine_kept (by rw [same]; decide) rfl, requestRefresh_eq]
    rfl
  have stays : ¬ (setEngine (.holding .thermal) (motionRest s)).htu.grade.belowHold = true := by
    rw [grade, belowHold_iff]
    rcases hot with h | h <;> simp [h]
  rw [comeToRest, order]
  unfold restReached
  simp only [same]
  exact if_neg (mt And.right stays)

/-- R127: a stretched line is counted for its label. -/
theorem countStretch_eq {s : State} {c : Context} {line : LineRecord} {n : Nat} (printing : s.lcu.printing = some c)
    (inProgress : s.hdu.line = some line) (owner : line.owner = some (n, c.label)) :
    countStretch s = { s with lcu := { s.lcu with
      stretches := min 65535 (s.lcu.stretches + 1)
      printing := some { c with stretches := min 65535 (c.stretches + 1) } } } := by
  unfold countStretch
  simp only [inProgress, owner, State.updatePrinting, printing, Option.map_some]
  simp [satSucc, satAdd]

/-- Settles O41. -/
theorem lineStretchedOrStalled : Obligations.LineStretchedOrStalled := by
  intro s c timer motion printing
  refine ⟨fun j n line active inProgress owner plan => ⟨_, rfl, ?_⟩,
    fun engine idle source dry ramp tail => ⟨_, rfl, ?_⟩,
    fun engine idle source ramp hot => ⟨_, rfl, ?_⟩⟩
  all_goals rw [linePeriodExpires_forward timer motion]
  · rw [planningPoint_stretch plan (by rw [active]; decide),
      countStretch_eq (c := c) (line := line) (n := n) (by exact printing) (by exact inProgress) (by exact owner)]
    exact settle_followsUp _
  · have other : s.mtu.source ≠ .decelerate := by rw [source]; nofun
    have plan := planLine_stop other ((amountAhead_horizon source).trans dry) ramp tail
    rw [planningPoint_stop plan idle, comeToRest_stall (by exact engine) (by exact other),
      motionRest_kept (by exact other), stall_eq (c := c) (by exact printing) (by dsimp only [State.expired]; rw [engine]; decide)]
    exact settle_followsUp _
  · have plan := (planLine_decelerate source).trans (if_pos ramp)
    rw [planningPoint_stop plan idle, comeToRest_thermal (by exact engine) (by exact source) (by exact hot),
      motionRest_decelerated (by exact source),
      setEngine_kept (by dsimp only [State.expired]; rw [engine]; decide) rfl]
    exact settle_followsUp _

/-! ## Printing from rest -/

/-- R65: the label of a copy is ready. -/
theorem labelReady_iff {s : State} {c : Context} (printing : s.lcu.printing = some c) :
    labelReady s = true ↔ c.formatRead = true ∧ s.rsu.holds c.label c.copy = true := by
  rw [labelReady, printing]
  simp

theorem horizonReady_iff (s : State) (rows : Nat) : horizonReady s rows = true ↔
    rows ≤ horizon s ∨ (1 ≤ horizon s ∧ s.rsu.lastClosed = true) := by
  simp [horizonReady]

theorem copyStartReady_iff {s : State} {c : Context} (printing : s.lcu.printing = some c) :
    copyStartReady s = true ↔ s.lcu.engine = .arming ∧ s.mtu.motion = .rest ∧ s.htu.supply = .on ∧
      s.msu.headOpen = false ∧ (s.htu.grade = .normal ∨ s.htu.grade = .slow) ∧ c.formatRead = true ∧
      s.rsu.holds c.label c.copy = true ∧
      (s.cfg.startRows ≤ horizon s ∨ (1 ≤ horizon s ∧ s.rsu.lastClosed = true)) := by
  unfold copyStartReady State.moving
  simp only [Bool.and_eq_true, labelReady_iff printing, horizonReady_iff, belowHold_iff, beq_iff_eq,
    Bool.not_eq_true', bne_eq_false_iff_eq, and_assoc]

/-- R70, R71, R170: the state from which printing takes its first step. -/
def State.printingFrom (s : State) : State := requestRefresh { s with
  mtu := { s.mtu with source := .horizon }
  lcu := { s.lcu with engine := .printing }
  htu := { s.htu with dwell := s.htu.dwell.map fun _ => 0 } }

/-- R135, R142: a start of printing that ends no copy steps at ramp index 0. -/
theorem startPrinting_eq {s : State} (engine : s.lcu.engine ≠ .printing) (cal : s.msu.cal = none)
    (head : ∀ e ∈ s.msu.queue.head?, e.tof ≠ s.mtu.position + 1) (seek : s.lcu.seek = none)
    (tail : ∀ p, s.lcu.copyTof = some p → linesAhead (s.mtu.position + 1) p < s.cfg.calLimit)
    (length : s.gapped = false → ∀ p, s.lcu.copyTof = some p →
      s.mtu.position + 1 ≠ p + BitVec.ofNat 32 ((s.lcu.printing.map fun c => c.length).getD 0)) :
    startPrinting s = s.printingFrom.stepped 0 (s.mtu.ramps.period 0) := by
  have from_ : setEngine .printing { s with mtu := { s.mtu with source := .horizon } } = s.printingFrom :=
    setEngine_kept engine rfl
  have explicit_ := requestRefresh_eq { s with
    mtu := { s.mtu with source := .horizon }
    lcu := { s.lcu with engine := .printing }
    htu := { s.htu with dwell := s.htu.dwell.map fun _ => 0 } }
  unfold startPrinting startForward
  rw [from_, State.printingFrom, explicit_]
  exact forwardStep_plain _ _ cal head seek tail length

/-- What a start of printing leaves, after what follows every command. -/
theorem startPrinting_settled {s : State} (start : startPrinting s = s.printingFrom.stepped 0 (s.mtu.ramps.period 0)) :
    let t := settle (startPrinting s)
    t.lcu = { s.lcu with engine := .printing } ∧ t.mem = s.mem ∧
      t.htu = { s.htu with dwell := s.htu.dwell.map fun _ => 0 } ∧
      t.mtu = { s.mtu with
        motion := .forward, dirForward := true, ramp := 0, latch := none, stopping := none, source := .horizon
        timer := some { period := s.mtu.ramps.period 0, elapsed := 0 }, position := s.mtu.position + 1
        tailRunOn := t.mtu.tailRunOn } ∧
      t.seu.restTimer = none ∧ t.rrd.hold = s.rrd.hold := by
  have explicit_ := requestRefresh_eq { s with
    mtu := { s.mtu with source := .horizon }
    lcu := { s.lcu with engine := .printing }
    htu := { s.htu with dwell := s.htu.dwell.map fun _ => 0 } }
  have f := settle_followsUp (startPrinting s)
  intro t
  have mtu := f.mtu
  have seu := f.seu
  have rrd := f.rrd
  refine ⟨?_, ?_, ?_, ?_, ?_, ?_⟩
  · rw [f.lcu, start, stepped_lcu, State.printingFrom, explicit_]
  · rw [f.mem, start, stepped_mem, State.printingFrom, explicit_]
  · rw [f.htu, start, stepped_htu, State.printingFrom, explicit_]
  · have registers : (startPrinting s).mtu = { s.mtu with
        motion := .forward, dirForward := true, ramp := 0, latch := none, stopping := none, source := .horizon
        timer := some { period := s.mtu.ramps.period 0, elapsed := 0 }, position := s.mtu.position + 1 } := by
      rw [start, stepped_mtu, State.printingFrom, explicit_]
    rw [registers] at mtu
    exact mtu
  · rw [seu, start]
    exact stepped_restTimer _ _ _
  · rw [rrd, start, stepped_rrd, State.printingFrom, explicit_]

/-! ## The backfeed -/

/-- R155: what a backward step over the current top of form does to the Media Sensing Unit. -/
def Msu.returned (m : Msu) (position : Pos) : Msu :=
  if m.passed.head?.map (fun e => e.tof) = some position then
    { m with queue := m.passed.head?.toList ++ m.queue, passed := m.passed.tail }
  else m

/-- R146, R155: a backward step; a top of form stepped back over returns to the edge queue. -/
theorem backwardStep_eq {s : State} (room : s.msu.queue.length < 16) : backwardStep s = { s with
    mtu := { s.mtu with
      motion := .backward, dirForward := false, ramp := 0, latch := none, position := s.mtu.position - 1
      backfeed := s.mtu.backfeed - 1
      timer := some { period := s.mtu.ramps.period 0, elapsed := 0 } }
    seu := { s.seu with restTimer := none }
    msu := s.msu.returned s.mtu.position } := by
  unfold backwardStep returnTof Msu.returned
  cases passed : s.msu.passed with
  | nil => simp only [passed, List.head?_nil, Option.map_none, reduceCtorEq, if_false]
  | cons e rest =>
    simp only [passed, List.head?_cons, Option.map_some, Option.some.injEq]
    by_cases back : e.tof = s.mtu.position
    · rw [if_pos back, if_pos back]
      exact if_pos room
    · rw [if_neg back, if_neg back]

/-- R146: the backfeed of an ARMING that nothing has cancelled ends at rest in ARMING. -/
theorem comeToRest_arming {s : State} (engine : s.lcu.engine = .arming) (latch : s.lcu.pauseLatch = false)
    (cancelled : s.lcu.armCancelled = false) : comeToRest s = motionRest s := by
  unfold comeToRest restReached
  have same : (motionRest s).lcu = s.lcu := rfl
  simp only [same, engine]
  exact if_neg (by simp [latch, cancelled])

/-- Settles O43. -/
theorem copyStarts : Obligations.CopyStarts := by
  intro s c printing cal seek head tail length reaches steps
  have goesOn : s.gapped = false → ∀ p, s.lcu.copyTof = some p →
      s.mtu.position + 1 ≠ p + BitVec.ofNat 32 ((s.lcu.printing.map fun c => c.length).getD 0) := by
    rw [printing]
    exact length
  refine ⟨?_, ?_, ?_, ?_, ?_, ?_⟩
  · intro arming rest supply closed grade read holds far
    have ready := (copyStartReady_iff printing).2 ⟨arming, rest, supply, closed, grade, read, holds, far⟩
    have start := startPrinting_eq (s := { s with lcu := { s.lcu with
      printing := some { c with strobed := false }, restTof := none, started := true } })
      (by dsimp only; rw [arming]; decide) cal head seek tail length
    obtain ⟨lcu, mem, htu, mtu, timer, -⟩ := startPrinting_settled start
    have copy : startCopy s = startPrinting { s with lcu := { s.lcu with
        printing := some { c with strobed := false }, restTof := none, started := true } } := by
      rw [startCopy, State.updatePrinting, printing]
      rfl
    rw [← copy] at lcu mem htu mtu timer
    refine ⟨settle (startCopy s), congrArg Host.Outcome.next (if_pos ready), ⟨by rw [lcu], mem, by rw [mtu],
      by rw [mtu], by rw [mtu], by rw [mtu], by rw [lcu], by rw [mtu], timer, by rw [htu], by rw [htu]⟩,
      by rw [lcu], by rw [lcu], by rw [lcu]⟩
  · intro arming notReady
    refine congrArg Host.Outcome.next (if_neg fun ready => notReady ?_)
    exact ((copyStartReady_iff printing).1 ready).2
  · intro stalled far
    have ready : stallRestartReady s = true := by
      rw [stallRestartReady, (horizonReady_iff s _).2 far, stalled]
      rfl
    have start := startPrinting_eq (by rw [stalled]; decide) cal head seek tail goesOn
    obtain ⟨lcu, mem, htu, mtu, timer, -⟩ := startPrinting_settled start
    refine ⟨settle (startPrinting s), congrArg Host.Outcome.next (if_pos ready), ⟨by rw [lcu], mem, by rw [mtu],
      by rw [mtu], by rw [mtu], by rw [mtu], by rw [lcu], by rw [mtu], timer, by rw [htu], by rw [htu]⟩,
      by rw [lcu]; exact printing, by rw [lcu]⟩
  · intro stalled far
    refine congrArg Host.Outcome.next (if_neg fun ready => far ?_)
    exact (horizonReady_iff s _).1 (Bool.and_eq_true_iff.1 ready).2
  · intro arming backward timer more room
    refine ⟨_, rfl, ?_⟩
    have units : s.msu.returned s.mtu.position = match s.msu.passed with
        | e :: rest => if e.tof = s.mtu.position
          then { s.msu with queue := e :: s.msu.queue, passed := rest } else s.msu
        | [] => s.msu := by
      unfold Msu.returned
      cases s.msu.passed <;> simp
    rw [linePeriodExpires_backward timer backward, backfeedExpiry, if_pos more, backwardStep_eq room, units,
      ← backward]
    exact settle_followsUp _
  · intro arming backward timer done latch cancelled
    refine ⟨_, rfl, ?_⟩
    rw [linePeriodExpires_backward timer backward, backfeedExpiry, if_neg (show ¬ 0 < s.mtu.backfeed by rw [done]; decide),
      comeToRest_arming arming latch cancelled, motionRest_eq]
    exact settle_followsUp _

/-! ## The shift -/

/-- R121: pulses that bring at least one dot into a register of any length. -/
theorem clockIn_foldl_some (stages : Nat) {dots : Dots} (some_ : dots ≠ []) (register : Dots) :
    dots.foldl (clockIn stages) register = (dots.reverse ++ register).take stages := by
  cases dots with
  | nil => exact absurd rfl some_
  | cons x rest =>
    rw [List.foldl_cons, clockIn_foldl _ _ _ (by simp [clockIn]), clockIn]
    simp [List.take_append, List.take_take]

/-- R121: what is left of a set on HDAT. -/
theorem hdat_eq {h : Hdu} {n d : Nat} {x : Slice} (shift : h.shift = .shifting n d) (slice : h.slice n = some x) :
    h.hdat = (x.dots.take (x.dots.length - d)).reverse := by
  unfold Hdu.hdat
  rw [shift]
  simp only [slice, Option.map_some, Option.getD_some, serialOrder]
  exact List.drop_reverse

theorem hdat_reverse {h : Hdu} {n d : Nat} {x : Slice} (shift : h.shift = .shifting n d)
    (slice : h.slice n = some x) : h.hdat.reverse = x.dots.take (x.dots.length - d) := by
  rw [hdat_eq shift slice, List.reverse_reverse]

/-- R121: two pulses bring the next two dots of the set. -/
theorem shiftIn_two {h : Hdu} {n d stages : Nat} {x : Slice} (shift : h.shift = .shifting n d)
    (slice : h.slice n = some x) (length : x.dots.length = stages) (left : d + 2 ≤ stages) :
    (h.shiftIn stages 2).register =
      ((x.dots.drop (stages - d - 2)).take 2 ++ h.register).take stages := by
  have two : (h.hdat.take 2).reverse = (x.dots.drop (stages - d - 2)).take 2 := by
    have kept : (x.dots.take (x.dots.length - d)).length = stages - d := by simp [length]
    rw [hdat_eq shift slice, List.take_reverse, List.reverse_reverse, kept, List.drop_take, length,
      Nat.sub_sub_self (show 2 ≤ stages - d by omega)]
  have some_ : h.hdat.take 2 ≠ [] := by
    intro none_
    have few := congrArg List.length none_
    simp [hdat_eq shift slice, length] at few
    omega
  rw [Hdu.shiftIn, clockIn_foldl_some stages some_, two]

/-- R121, R129: the register after the shift of the rest of a set. -/
theorem shiftRest_register {s : State} {n d : Nat} {x : Slice} (shift : s.hdu.shift = .shifting n d)
    (slice : s.hdu.slice n = some x) :
    (s.hdu.register.length ≤ s.geo.dots → (shiftRest s).hdu.register =
      (x.dots.take (x.dots.length - d) ++ s.hdu.register).take s.geo.dots) ∧
    (x.dots.length = s.geo.dots → d ≤ s.geo.dots → s.hdu.register.length ≤ s.geo.dots →
      s.hdu.register.take d = x.dots.drop (s.geo.dots - d) → (shiftRest s).hdu.register = x.dots) := by
  have rest : s.hdu.register.length ≤ s.geo.dots → (shiftRest s).hdu.register =
      (x.dots.take (x.dots.length - d) ++ s.hdu.register).take s.geo.dots := by
    intro fits
    rw [shiftRest, Hdu.shiftIn, List.take_length, clockIn_foldl _ _ _ fits, hdat_reverse shift slice]
  refine ⟨rest, fun length part fits same => ?_⟩
  rw [rest fits, List.take_append, List.length_take, length, Nat.min_eq_left (Nat.sub_le _ _),
    Nat.sub_sub_self part, same, List.take_of_length_le (by simp [length])]
  exact List.take_append_drop _ _

/-! ## The latch of a slice -/

/-- R75, R125: the context of the label whose line has fired. -/
def Hdu.marks (h : Hdu) (c : Context) : Context :=
  if (h.line.bind fun r => r.owner).any (fun o => o.2 == c.label) then c.fired else c

/-- R121, R123, R125: the latch of a slice begins its first burst and the next slice's shift; that of slice 1
is reported. -/
theorem latchSlice_eq {s : State} {n : Nat} {x : Slice} {u : Burst} (slice : s.hdu.slice n = some x)
    (burst : s.hdu.burst n 0 = some u) : latchSlice n s = { s with
      hdu := { s.hdu with
        latch := some x.dots
        shift := if (s.hdu.slice (n + 1)).isSome then .shifting (n + 1) 0 else .idle
        firing := some { slice := n, burst := 0, count := 0, compareA := x.duration,
                         compareB := x.duration + s.hdu.tGap, active := true }
        strobes := strobesFor u.groups
        fired := if n = 1 then s.hdu.fired + 1 else s.hdu.fired }
      htu := { s.htu with dwell := if n = 1 then s.htu.dwell.map fun _ => 0 else s.htu.dwell }
      lcu := if n = 1 then { s.lcu with printing := s.lcu.printing.map s.hdu.marks } else s.lcu } := by
  have begins (h : Hdu) (line : h.line = s.hdu.line) (bursts : h.bursts = s.hdu.bursts) : h.beginBurst n 0 =
      { h with
        firing := some { slice := n, burst := 0, count := 0, compareA := x.duration,
                         compareB := x.duration + h.tGap, active := true }
        strobes := strobesFor u.groups } := by
    have slice_ : h.slice n = some x := by rw [Hdu.slice, line, ← Hdu.slice, slice]
    have burst_ : h.burst n 0 = some u := by rw [Hdu.burst, bursts, ← Hdu.burst, burst]
    unfold Hdu.beginBurst
    simp only [slice_, burst_]
  unfold latchSlice
  simp only [slice]
  rw [begins _ (by rfl) (by rfl)]
  by_cases first : n = 1
  · simp only [if_pos first]
    rfl
  · simp only [if_neg first]

/-- Settles O44. -/
theorem shiftComplete : Obligations.ShiftComplete := by
  refine ⟨?_, ?_⟩
  · intro s n d x empty shift slice length left
    have head : (tick (grantNext s)).hdu = s.hdu.tick s.geo.dots := by
      have geo : (grantNext s).geo = s.geo := by rw [State.geo, grantNext_bpu_geometry, ← State.geo]
      rw [← grantNext_hdu s, ← geo]
      unfold tick
      extract_lets s1
      split <;> rfl
    refine ⟨_, step_nil empty, ?_, ?_, ?_⟩
    · rw [idle, head, Hdu.tick, shift, Shift.tick, Nat.min_eq_right left]
    · rw [idle, head]
      rfl
    · rw [idle, head]
      exact shiftIn_two shift slice length left
  · intro s n d shift shiftedIn
    refine ⟨fun busy => ?_, fun x u idle slice burst => ?_⟩
    · refine ⟨(shiftRest s).hdu.register, ?_, fun x slice => shiftRest_register shift slice⟩
      refine congrArg Host.Outcome.next ?_
      unfold completeShift
      simp only [shift]
      refine (if_neg (by simpa using busy)).trans ?_
      rw [shiftRest_frame]
    · have run : exec .shiftComplete s = .next (latchSlice n (shiftRest s)) := by
        refine congrArg Host.Outcome.next ?_
        unfold completeShift
        simp only [shift]
        exact if_pos (by simp [idle])
      have latch := latchSlice_eq (s := shiftRest s) (n := n) (x := x) (u := u) (by exact slice) (by exact burst)
      refine ⟨_, run, ?_⟩
      rw [latch]
      refine ⟨shiftRest_register shift slice, rfl, rfl, fun later => if_neg later, ?_, ?_, rfl⟩
      · intro c line k first printing inProgress owner marked
        refine (if_pos first).trans ?_
        have marks : s.hdu.marks c = marked := by
          rw [Hdu.marks, inProgress]
          exact if_pos (by simp [owner])
        have same : (shiftRest s).lcu = s.lcu := rfl
        have same' : (shiftRest s).hdu.marks c = s.hdu.marks c := rfl
        rw [same, printing, Option.map_some, same', marks]
      · intro others
        by_cases first : n = 1
        · refine (if_pos first).trans ?_
          have same : s.lcu.printing.map s.hdu.marks = s.lcu.printing := by
            cases printing : s.lcu.printing with
            | none => rfl
            | some c =>
              refine congrArg some (if_neg ?_)
              cases inProgress : s.hdu.line with
              | none => simp
              | some line =>
                cases owner : line.owner with
                | none => simp [owner]
                | some o =>
                  simp only [Option.bind_some, owner, Option.any_some, beq_iff_eq]
                  exact fun label => others c line o.1 printing inProgress (by rw [owner, ← label])
          calc { s.lcu with printing := s.lcu.printing.map s.hdu.marks }
            _ = { s.lcu with printing := s.lcu.printing } := by rw [same]
            _ = s.lcu := rfl
        · exact if_neg first

/-! ## Burst packing -/

/-- R122: a burst of groups with these dots, of at most `limit` dots in all. -/
def Burst.Fits (limit : Nat) (dotsOf : Nat → Nat) (b : Burst) : Prop :=
  b.groups ≠ [] ∧ b.dots = (b.groups.map dotsOf).sum ∧ b.dots ≤ limit

/-- R122: each burst closes only where the next group would pass the limit. -/
def ClosesLate (limit : Nat) (dotsOf : Nat → Nat) (bursts : List Burst) : Prop :=
  ∀ k b b', bursts[k]? = some b → bursts[k + 1]? = some b' →
    ∀ n ∈ b'.groups.head?, limit < b.dots + dotsOf n

theorem closesLate_cons {limit : Nat} {dotsOf : Nat → Nat} {b : Burst} {bursts : List Burst}
    (first : ∀ b' ∈ bursts.head?, ∀ n ∈ b'.groups.head?, limit < b.dots + dotsOf n)
    (rest : ClosesLate limit dotsOf bursts) : ClosesLate limit dotsOf (b :: bursts) := by
  intro k c c' hc hc'
  cases k with
  | zero =>
    obtain rfl := Option.some.inj hc
    refine first c' ?_
    rw [List.head?_eq_getElem?]
    exact hc'
  | succ k => exact rest k c c' hc hc'

theorem packBursts_skip (limit : Nat) (open_ : Option Burst) (n : Nat) (rest : List Nat) :
    packBursts limit open_ n (0 :: rest) = packBursts limit open_ (n + 1) rest := by
  cases open_ <;> rfl

theorem packBursts_first (limit : Nat) (n : Nat) {x : Nat} (fires : x ≠ 0) (rest : List Nat) :
    packBursts limit none n (x :: rest) =
      packBursts limit (some { groups := [n], dots := x }) (n + 1) rest :=
  if_neg fires

theorem packBursts_next (limit : Nat) (b : Burst) (n : Nat) {x : Nat} (fires : x ≠ 0) (rest : List Nat) :
    packBursts limit (some b) n (x :: rest) =
      if b.dots + x ≤ limit then
        packBursts limit (some { groups := b.groups ++ [n], dots := b.dots + x }) (n + 1) rest
      else b :: packBursts limit (some { groups := [n], dots := x }) (n + 1) rest :=
  if_neg fires

/-- R122: an open burst becomes the first burst, and only gains groups at its end. -/
theorem packBursts_open (limit : Nat) (counts : List Nat) : ∀ (b : Burst) (n : Nat), b.groups ≠ [] →
    ∃ c more, packBursts limit (some b) n counts = c :: more ∧ c.groups.head? = b.groups.head? := by
  induction counts with
  | nil => exact fun b n _ => ⟨b, [], rfl, rfl⟩
  | cons x rest ih =>
    intro b n some_
    rcases eq_or_ne x 0 with rfl | fires
    · rw [packBursts_skip]
      exact ih b (n + 1) some_
    · rw [packBursts_next limit b n fires]
      split
      · obtain ⟨c, more, pack, head⟩ := ih { groups := b.groups ++ [n], dots := b.dots + x } (n + 1) (by simp)
        refine ⟨c, more, pack, head.trans ?_⟩
        exact List.head?_append_of_ne_nil _ some_
      · exact ⟨b, _, rfl, rfl⟩

/-- R122: the packing of the groups from number `n` on, by the burst that stands open. -/
theorem packBursts_spec (limit : Nat) (dotsOf : Nat → Nat) (counts : List Nat) : ∀ (n : Nat) (open_ : Option Burst),
    (∀ k x, counts[k]? = some x → dotsOf (n + k) = x) → (∀ x ∈ counts, x ≤ limit) →
    (∀ b ∈ open_, b.Fits limit dotsOf) →
    ((packBursts limit open_ n counts).map fun b => b.groups).flatten =
      (open_.toList.map fun b => b.groups).flatten ++
        (List.range' n counts.length).filter (fun m => decide (0 < dotsOf m)) ∧
    (∀ b ∈ packBursts limit open_ n counts, b.Fits limit dotsOf) ∧
    ClosesLate limit dotsOf (packBursts limit open_ n counts) := by
  induction counts with
  | nil =>
    intro n open_ _ _ fits
    refine ⟨by simp [packBursts], fun b hb => fits b (Option.mem_toList.1 hb), fun k b b' _ hb' => ?_⟩
    cases open_ with
    | none => simp [packBursts] at hb'
    | some b => simp [packBursts] at hb'
  | cons x rest ih =>
    intro n open_ known small fits
    have here : dotsOf n = x := known 0 x rfl
    have later : ∀ k y, rest[k]? = some y → dotsOf (n + 1 + k) = y := fun k y hy => by
      rw [← known (k + 1) y hy, Nat.add_assoc, Nat.add_comm 1 k]
    have few : ∀ y ∈ rest, y ≤ limit := fun y hy => small y (List.mem_cons_of_mem _ hy)
    have most : x ≤ limit := small x (List.mem_cons_self ..)
    rw [List.length_cons, List.range'_succ]
    rcases eq_or_ne x 0 with rfl | some_
    · rw [packBursts_skip, List.filter_cons_of_neg (by simp [here])]
      exact ih (n + 1) open_ later few fits
    · have fires : decide (0 < dotsOf n) = true := by rw [here]; exact decide_eq_true (Nat.pos_of_ne_zero some_)
      rw [List.filter_cons_of_pos (p := fun m => decide (0 < dotsOf m)) fires]
      have alone : Burst.Fits limit dotsOf { groups := [n], dots := x } :=
        ⟨by simp, by simp [here], most⟩
      cases open_ with
      | none =>
        rw [packBursts_first limit n some_]
        obtain ⟨groups, all, chain⟩ := ih (n + 1) (some { groups := [n], dots := x }) later few
          fun b hb => Option.some.inj hb ▸ alone
        exact ⟨by rw [groups]; rfl, all, chain⟩
      | some b =>
        obtain ⟨groups_, sum, bound⟩ := fits b rfl
        rw [packBursts_next limit b n some_]
        split
        next room =>
          have grown : Burst.Fits limit dotsOf { groups := b.groups ++ [n], dots := b.dots + x } :=
            ⟨by simp, by simp [sum, here], room⟩
          obtain ⟨groups, all, chain⟩ := ih (n + 1) (some { groups := b.groups ++ [n], dots := b.dots + x })
            later few fun c hc => Option.some.inj hc ▸ grown
          exact ⟨by rw [groups]; simp, all, chain⟩
        next full =>
          obtain ⟨groups, all, chain⟩ := ih (n + 1) (some { groups := [n], dots := x }) later few
            fun c hc => Option.some.inj hc ▸ alone
          refine ⟨by rw [List.map_cons, List.flatten_cons, groups]; simp, fun c hc => ?_, closesLate_cons ?_ chain⟩
          · rcases List.mem_cons.1 hc with rfl | hc
            · exact ⟨groups_, sum, bound⟩
            · exact all c hc
          · obtain ⟨c, more, pack, head⟩ :=
              packBursts_open limit rest { groups := [n], dots := x } (n + 1) (by simp)
            rw [pack]
            intro b' hb' m hm
            obtain rfl := Option.some.inj hb'
            rw [head] at hm
            obtain rfl := Option.some.inj hm
            rw [here]
            exact Nat.lt_of_not_le full

/-- R124: the firing of the slices, with the last one named. -/
theorem fireTotal_append (shift : Nat) (before : List Nat) (last : Nat) :
    fireTotal shift (before ++ [last]) = (before.map fun f => max f shift).sum + last := by
  induction before with
  | nil => exact (Nat.zero_add last).symm
  | cons f before ih =>
    have step_ : fireTotal shift (f :: (before ++ [last])) = max f shift + fireTotal shift (before ++ [last]) := by
      cases before <;> rfl
    rw [List.cons_append, step_, ih, List.map_cons, List.sum_cons, Nat.add_assoc]

/-! ## Compare A and compare B -/

theorem compareB_burst {s : State} {f : Firing} {x : Slice} {u : Burst} (firing : s.hdu.firing = some f)
    (off : f.active = false) (slice : s.hdu.slice f.slice = some x)
    (burst : s.hdu.burst f.slice (f.burst + 1) = some u) : compareB s = { s with hdu := { s.hdu with
      firing := some { slice := f.slice, burst := f.burst + 1, count := 0, compareA := x.duration,
                       compareB := x.duration + s.hdu.tGap, active := true }
      strobes := strobesFor u.groups } } := by
  unfold compareB Hdu.beginBurst
  simp only [firing, off, slice, burst]
  rfl

theorem compareB_end {s : State} {f : Firing} (firing : s.hdu.firing = some f) (off : f.active = false)
    (done : s.hdu.burst f.slice (f.burst + 1) = none) : compareB s = endSlice f.slice s := by
  unfold compareB
  simp only [firing, off, done]
  rfl

/-- R124: the last slice has ended. -/
theorem endSlice_last {s : State} {n : Nat} (last : s.hdu.slice (n + 1) = none) :
    endSlice n s = lineEnded (cutLine s) := by
  unfold endSlice
  simp only [last]
  rfl

/-- R127, R136: a step that waited for the line's end is taken. -/
theorem lineEnded_step {s : State} {j period : Nat} (idle : s.hdu.state = .idle) (stopping : s.mtu.stopping = none)
    (latch : s.mtu.latch = some (j, period)) : lineEnded s = forwardStep j period s := by
  unfold lineEnded
  simp only [stopping, latch]
  exact if_pos idle

theorem lineEnded_stop {s : State} {cause : RestCause} (idle : s.hdu.state = .idle)
    (stopping : s.mtu.stopping = some cause) : lineEnded s = comeToRest s := by
  unfold lineEnded
  simp only [stopping]
  exact if_pos idle

theorem lineEnded_none {s : State} (stopping : s.mtu.stopping = none) (latch : s.mtu.latch = none) :
    lineEnded s = s := by
  unfold lineEnded
  simp only [stopping, latch, ite_self]

/-- Settles O45. -/
theorem bursts : Obligations.Bursts := by
  refine ⟨fun limit counts small => ?_, fun r dots limit tGap => ?_, fun s f firing => ?_⟩
  · have known : ∀ k x, counts[k]? = some x → counts[0 + k]?.getD 0 = x := fun k x hx => by
      rw [Nat.zero_add, hx]
      rfl
    obtain ⟨groups, all, chain⟩ := packBursts_spec limit (fun n => counts[n]?.getD 0) counts 0 none known small nofun
    refine ⟨?_, all, chain⟩
    rw [groups, List.range_eq_range']
    rfl
  · refine ⟨fun none_ => if_pos (List.isEmpty_iff.2 none_), fun before last slices => ?_⟩
    have some_ : ¬ r.slices.isEmpty = true := by simp [slices]
    rw [LineRecord.time, if_neg some_, slices, List.map_append, List.map_singleton, fireTotal_append,
      List.map_map, Nat.add_assoc]
    rfl
  · refine ⟨fun on => ?_, fun x u off slice burst => ⟨_, rfl, ?_⟩, fun n d off done more shift => ⟨_, rfl, ?_⟩,
      fun off done last stopping latch => ⟨_, rfl, ?_⟩,
      fun x u off done later slice burst loaded => ⟨_, rfl, ?_⟩, ?_, ?_⟩
    · refine congrArg Host.Outcome.next ?_
      unfold compareA
      simp only [firing, on]
      rfl
    · rw [compareB_burst firing off slice burst]
      exact settle_followsUp _
    · have ends : endSlice f.slice s = { s with hdu := { s.hdu with firing := none } } := by
        unfold endSlice
        rw [if_neg (by simpa [Option.isSome_iff_ne_none] using more), if_neg (by simp [shift])]
      rw [compareB_end firing off done, ends]
      exact settle_followsUp _
    · rw [compareB_end firing off done, endSlice_last last, lineEnded_none (by exact stopping) (by exact latch)]
      exact settle_followsUp _
    · have ends : endSlice f.slice s = latchSlice (f.slice + 1) { s with hdu := { s.hdu with firing := none } } := by
        unfold endSlice
        rw [if_neg (by simp [slice]), if_pos loaded]
      have notFirst : f.slice + 1 ≠ 1 := by omega
      rw [compareB_end firing off done, ends, latchSlice_eq (x := x) (u := u) (by exact slice) (by exact burst)]
      simp only [if_neg notFirst]
      exact settle_followsUp _
    · intro j period c off done last stopping latch printing cal seek head tail length
      have goesOn : s.gapped = false → ∀ p, s.lcu.copyTof = some p →
          s.mtu.position + 1 ≠ p + BitVec.ofNat 32 ((s.lcu.printing.map fun c => c.length).getD 0) := by
        rw [printing]
        exact length
      have run : compareB s = (cutLine s).stepped j period := by
        rw [compareB_end firing off done, endSlice_last last,
          lineEnded_step (by rfl) (by exact stopping) (by exact latch)]
        exact forwardStep_plain j period cal head seek tail goesOn
      have f := settle_followsUp (compareB s)
      have mtu := f.mtu
      rw [run, stepped_mtu] at mtu
      refine ⟨_, rfl, ?_⟩
      rw [run] at f ⊢
      refine ⟨by rw [f.mem, stepped_mem]; rfl, by rw [f.lcu, stepped_lcu]; rfl, by rw [f.htu, stepped_htu]; rfl,
        by rw [mtu], by rw [mtu]; rfl, by rw [mtu], by rw [mtu], by rw [mtu], by rw [mtu]; rfl, ?_⟩
      rw [f.msu, stepped_msu]
      rfl
    · intro c cause off done last stopping engine printing source
      have run : compareB s = stall (motionRest (cutLine s)) := by
        rw [compareB_end firing off done, endSlice_last last, lineEnded_stop (by rfl) (by exact stopping),
          comeToRest_stall (by exact engine) (by exact source)]
      have explicit_ := stall_eq (s := motionRest (cutLine s)) (c := c) printing
        (by rw [show (motionRest (cutLine s)).lcu = s.lcu from rfl, engine]; decide)
      rw [requestRefresh_eq] at explicit_
      have f := settle_followsUp (compareB s)
      rw [run, explicit_] at f
      refine ⟨_, rfl, ?_⟩
      rw [run, explicit_]
      refine ⟨f.mem, by rw [f.lcu], by rw [f.lcu]; rfl, by rw [f.lcu], ?_, ?_, ?_, ?_, ?_, ?_, ?_, ?_⟩
      · rw [f.mtu]; rfl
      · rw [f.mtu]; rfl
      · rw [f.mtu]; rfl
      · rw [f.mtu]; rfl
      · rw [f.mtu]; rfl
      · rw [f.hdu]; rfl
      · rw [f.hdu]; rfl
      · rw [f.seu]; rfl

/-! ## The plan's bounds -/

theorem takeWhile_bound {l : List Nat} {p : Nat → Bool} {k x : Nat} (at_ : l[k]? = some x)
    (all : ∀ m y, m ≤ k → l[m]? = some y → p y = true) : k < (l.takeWhile p).length := by
  induction l generalizing k with
  | nil => simp at at_
  | cons y l ih =>
    have first : p y = true := all 0 y (Nat.zero_le _) rfl
    rw [List.takeWhile_cons_of_pos first, List.length_cons]
    cases k with
    | zero => exact Nat.succ_pos _
    | succ k =>
      exact Nat.succ_lt_succ (ih (by simpa using at_) fun m z hm hz =>
        all (m + 1) z (Nat.succ_le_succ hm) (by simpa using hz))

/-- R140: in a table that does not rise, every entry long enough stands at or before the time cap. -/
theorem le_timeCap {t : RampTable} {time k p : Nat} (falls : t.periods.Pairwise fun p q => q ≤ p)
    (at_ : t.periods[k]? = some p) (long : time ≤ p) : k ≤ t.timeCap time := by
  refine Nat.le_sub_one_of_lt (takeWhile_bound at_ fun m y hm hy => decide_eq_true ?_)
  rcases Nat.eq_or_lt_of_le hm with rfl | before
  · rw [at_] at hy
    obtain rfl := Option.some.inj hy
    exact long
  · obtain ⟨hm', rfl⟩ := List.getElem?_eq_some_iff.1 hy
    obtain ⟨hk', rfl⟩ := List.getElem?_eq_some_iff.1 at_
    exact Nat.le_trans long (List.pairwise_iff_getElem.1 falls m k hm' hk' before)

/-- R140: a time cap above 0 is an entry long enough. -/
theorem timeCap_long {t : RampTable} {time : Nat} (above : t.timeCap time ≠ 0) :
    ∃ p, t.periods[t.timeCap time]? = some p ∧ time ≤ p := by
  have inside : t.timeCap time < (t.periods.takeWhile fun p => decide (time ≤ p)).length := by
    unfold RampTable.timeCap at above ⊢
    omega
  have at_ := List.getElem?_eq_getElem inside
  have long := List.mem_takeWhile_imp (List.getElem_mem inside)
  refine ⟨_, ?_, of_decide_eq_true long⟩
  obtain ⟨rest, split_⟩ := List.takeWhile_prefix (fun p => decide (time ≤ p)) (l := t.periods)
  rw [← at_, ← List.getElem?_append_left (l₂ := rest) inside, split_]

theorem nextIndex_near (i cap : Nat) : nextIndex i cap ≤ i + 1 ∧ i ≤ nextIndex i cap + 1 := by
  unfold nextIndex
  omega

theorem ramps_periods (m : Mtu) : m.ramps.periods = (m.table.map fun t => t.periods).getD [] := by
  unfold Mtu.ramps
  cases m.table <;> rfl

theorem ramps_slowCap (m : Mtu) : m.ramps.slowCap = (m.table.map fun t => t.slowCap).getD 0 := by
  unfold Mtu.ramps
  cases m.table <;> rfl

theorem thermalCap_eq (s : State) :
    thermalCap s = if s.htu.grade = .normal then s.mtu.ramps.top else s.mtu.ramps.slowCap := by
  unfold thermalCap
  cases s.htu.grade <;> rfl

theorem labelCap_horizon {s : State} (source : s.mtu.source = .horizon) :
    labelCap s = min ((s.lcu.printing.map fun c => c.speedCap).getD 0) s.mtu.ramps.top := if_pos source

theorem labelCap_other {s : State} (source : s.mtu.source ≠ .horizon) : labelCap s = s.mtu.ramps.top := if_neg source

/-- R139: the cap is the smallest of the five. -/
theorem capOf_smallest (s : State) (a : Nat) :
    let caps := [labelCap s, thermalCap s, a - 1, s.mtu.ramps.timeCap s.hdu.forecastTime,
      if s.mtu.limitZero then 0 else s.mtu.ramps.top]
    capOf s a ∈ caps ∧ ∀ k ∈ caps, capOf s a ≤ k := by
  unfold capOf
  generalize labelCap s = b
  generalize thermalCap s = c
  generalize a - 1 = d
  generalize s.mtu.ramps.timeCap s.hdu.forecastTime = e
  generalize (if s.mtu.limitZero = true then 0 else s.mtu.ramps.top) = f
  simp only [List.mem_cons, List.not_mem_nil, or_false, forall_eq_or_imp, forall_eq]
  omega

/-! ## The readiness horizon -/

/-- R90: the lines of a run of elements. -/
def linesOf (l : List Element) : Nat := (l.map fun e => e.lines).sum

/-- R90: the copy gathered from elements that close none. -/
def openRun (run : Option CopyRun) : List Element → Option CopyRun
  | [] => run
  | e :: rest => openRun (some { lines := (run.map fun r => r.lines).getD 0 + e.lines, closed := false, label := e.label })
      rest

theorem copyRuns_open {body : List Element} (open_ : ∀ e ∈ body, e.isEnd = false) (rest : List Element) :
    ∀ run, copyRuns run (body ++ rest) = copyRuns (openRun run body) rest := by
  induction body with
  | nil => exact fun run => rfl
  | cons e body ih =>
    intro run
    have here : e.isEnd = false := open_ e (List.mem_cons_self ..)
    rw [List.cons_append, openRun, copyRuns, if_neg (by simp [here]), here]
    exact ih (fun x hx => open_ x (List.mem_cons_of_mem _ hx)) _

theorem copyRuns_end {e : Element} (ends : e.isEnd = true) (run : Option CopyRun) (rest : List Element) :
    copyRuns run (e :: rest) =
      { lines := (run.map fun r => r.lines).getD 0 + e.lines, closed := true, label := e.label } ::
        copyRuns none rest := by
  rw [copyRuns, if_pos ends, ends]

theorem openRun_lines (body : List Element) : ∀ run,
    ((openRun run body).map fun r => r.lines).getD 0 = (run.map fun r => r.lines).getD 0 + linesOf body := by
  induction body with
  | nil => exact fun run => rfl
  | cons e body ih =>
    intro run
    rw [openRun, ih, linesOf, linesOf, List.map_cons, List.sum_cons, ← Nat.add_assoc]
    rfl

theorem openRun_some (body : List Element) : ∀ run : CopyRun, run.closed = false →
    ∃ r, openRun (some run) body = some r ∧ r.closed = false ∧
      (r.label = run.label ∨ ∃ e ∈ body, r.label = e.label) := by
  induction body with
  | nil => exact fun run h => ⟨run, rfl, h, .inl rfl⟩
  | cons e body ih =>
    intro run _
    obtain ⟨r, eq, closed, label⟩ := ih
      { lines := run.lines + e.lines, closed := false, label := e.label } rfl
    refine ⟨r, eq, closed, .inr ?_⟩
    rcases label with here | ⟨x, hx, there⟩
    · exact ⟨e, List.mem_cons_self .., here⟩
    · exact ⟨x, List.mem_cons_of_mem _ hx, there⟩

/-- R90: the runs of a stream that closes no copy: one of its lines. -/
theorem copyRuns_body {body : List Element} (open_ : ∀ e ∈ body, e.isEnd = false) (some_ : body ≠ []) :
    ∃ r : CopyRun, copyRuns none body = [r] ∧ r.lines = linesOf body ∧ r.closed = false ∧
      ∃ e ∈ body, r.label = e.label := by
  cases body with
  | nil => exact absurd rfl some_
  | cons e body =>
    have eq := copyRuns_open open_ [] none
    obtain ⟨r, run, closed, label⟩ := openRun_some body { lines := 0 + e.lines, closed := false, label := e.label } rfl
    have lines := openRun_lines (e :: body) none
    have same : openRun none (e :: body) = some r := run
    rw [List.append_nil, same] at eq
    rw [same] at lines
    refine ⟨r, eq, by simpa using lines, closed, ?_⟩
    rcases label with here | ⟨x, hx, there⟩
    · exact ⟨e, List.mem_cons_self .., here⟩
    · exact ⟨x, List.mem_cons_of_mem _ hx, there⟩

/-- R90: the first copy of a stream that has its COPY_END there. -/
theorem copyRuns_closed {body : List Element} {x : Element} (open_ : ∀ e ∈ body, e.isEnd = false)
    (ends : x.isEnd = true) (none_ : x.lines = 0) (more : List Element) : copyRuns none (body ++ x :: more) =
      { lines := linesOf body, closed := true, label := x.label } :: copyRuns none more := by
  rw [copyRuns_open open_, copyRuns_end ends, openRun_lines, none_]
  simp

/-- R82, R83: a COPY_END has no lines. -/
theorem stream_end_lines {r : Rsu} {x : Element} (h : x ∈ r.stream) (ends : x.isEnd = true) : x.lines = 0 := by
  rcases List.mem_append.1 h with slot | segment
  · obtain ⟨y, -, rfl⟩ := List.mem_map.1 slot
    cases y with
    | row => cases ends
    | run => cases ends
    | endMark => rfl
  · obtain ⟨y, -, rfl⟩ := List.mem_map.1 segment
    cases y with
    | rows => cases ends
    | repeatRun => cases ends
    | blankRun => cases ends
    | copyEnd => rfl

/-- R90, R91: the sum over the copies under one start and these queued tops of form. -/
theorem horizon_eq {s : State} {runs : List CopyRun} (stream : copyRuns none s.rsu.stream = runs) :
    horizon s = min 65535 (horizonSum s s.firstStart s.lcu.copyTof (s.msu.queue.map fun e => e.tof) 0 runs) := by
  rw [horizon, stream]

/-- R68, R90: the length of the PRINTING label. -/
theorem lengthOf_printing {s : State} {c : Context} (printing : s.lcu.printing = some c) :
    s.lengthOf c.label = c.length := by
  unfold State.lengthOf
  simp only [printing]
  exact if_pos trivial

/-- R68: on continuous media a copy ends its label's length past its top of form. -/
theorem copyEndOf_continuous {s : State} {p o : Pos} {c : Context} (cont : s.gapped = false)
    (printing : s.lcu.printing = some c) (tofs : List Pos) {label : Idx} (own : label = c.label) :
    copyEndOf s (some p) (some o) tofs label = some (o + BitVec.ofNat 32 c.length) := by
  rw [own]
  simp [copyEndOf, cont, lengthOf_printing printing]

theorem copyEndOf_gapped {s : State} (gapped : s.gapped = true) (p : Pos) (tof : Option Pos) (tofs : List Pos)
    (label : Idx) : copyEndOf s (some p) tof tofs label = tofs.head? := by
  simp [copyEndOf, gapped]

/-- R91: an open copy counts its lines, up to its end where that is known. -/
theorem horizonSum_open_none {s : State} {r : CopyRun} (open_ : r.closed = false) {start tof : Option Pos}
    {tofs : List Pos} (unknown : copyEndOf s start tof tofs r.label = none) (sum : Nat) (rest : List CopyRun) :
    horizonSum s start tof tofs sum (r :: rest) = sum + r.lines := by
  rw [horizonSum, open_, unknown]

theorem horizonSum_open_some {s : State} {r : CopyRun} (open_ : r.closed = false) {start tof : Option Pos}
    {tofs : List Pos} {e : Pos} (known : copyEndOf s start tof tofs r.label = some e) (sum : Nat)
    (rest : List CopyRun) :
    horizonSum s start tof tofs sum (r :: rest) = sum + min r.lines (spanOf start e) := by
  rw [horizonSum, open_, known]

/-- R90: a closed copy of unknown end counts its lines. -/
theorem horizonSum_closed_none {s : State} {start tof : Option Pos} {tofs : List Pos} {label : Idx}
    (unknown : copyEndOf s start tof tofs label = none) (lines sum : Nat) (rest : List CopyRun) :
    horizonSum s start tof tofs sum ({ lines := lines, closed := true, label := label } :: rest) =
      horizonSum s none none tofs.tail
        (if s.gapped && start.isSome then max (sum + lines) s.cfg.senseAhead else sum + lines) rest := by
  rw [horizonSum, unknown]

/-- R90: a closed copy of known end counts up to it. -/
theorem horizonSum_closed_some {s : State} {start tof : Option Pos} {tofs : List Pos} {label : Idx} {e : Pos}
    (known : copyEndOf s start tof tofs label = some e) (lines sum : Nat) (rest : List CopyRun) :
    horizonSum s start tof tofs sum ({ lines := lines, closed := true, label := label } :: rest) =
      horizonSum s (some e) (some e) tofs.tail (sum + spanOf start e) rest := by
  rw [horizonSum, known]

/-- Settles O42. -/
theorem planBounded : Obligations.PlanBounded := by
  refine ⟨fun s => ?_, fun s => ?_⟩
  · intro i a periods top label thermal time caps
    have table : s.mtu.ramps.periods = periods := ramps_periods s.mtu
    have tops : s.mtu.ramps.top = top := by rw [RampTable.top, table]
    have labels : labelCap s = if s.mtu.source = .horizon then label else top := by
      split
      next horizon =>
        rw [labelCap_horizon horizon, tops]
        cases printing : s.lcu.printing <;> simp [label, printing]
      next other => rw [labelCap_other other, tops]
    have thermals : thermalCap s = thermal := by rw [thermalCap_eq, tops, ramps_slowCap]
    obtain ⟨mem, least⟩ := capOf_smallest s a
    rw [labels, thermals, tops] at mem least
    refine ⟨fun falls => ⟨fun k p at_ long => ?_, fun above => ?_⟩, fun j plan => ?_,
      fun source some_ => ⟨capOf s a, mem, least, ?_⟩, fun source dry moving => ?_, fun source dry still tail => ?_,
      fun source dry still tail => ?_, fun g source dry still tail => ?_, fun source moving => ?_,
      fun source still => ?_, fun source => ?_, fun p source => ?_, fun source => ?_, fun source => ?_⟩
    · rw [← table] at falls at_
      exact le_timeCap falls at_ long
    · rw [← table]
      exact timeCap_long above
    · by_cases source : s.mtu.source = .decelerate
      · rw [planLine_decelerate source] at plan
        split at plan
        · cases plan
        · injection plan with plan
          omega
      · rw [planLine_eq source] at plan
        split at plan
        · injection plan with plan
          rw [← plan]
          exact nextIndex_near _ _
        · split at plan
          · injection plan with plan
            omega
          · split at plan
            · injection plan with plan
              omega
            · cases plan
    · rw [planLine_eq source, if_pos some_]
      rfl
    · rw [planLine_eq source, if_neg (by omega), if_pos moving]
    · rw [planLine_eq source, if_neg (by omega), if_neg (by omega), if_pos tail]
    · rw [planLine_stop (by rw [source]; nofun) dry still tail, if_pos source]
    · rw [planLine_stop (by rw [source]; nofun) dry still tail, if_neg (by rw [source]; nofun)]
    · rw [planLine_decelerate source, if_neg (by omega)]
    · rw [planLine_decelerate source, if_pos still]
    · exact amountAhead_horizon source
    · simp only [a, amountAhead, source]
    · simp only [a, amountAhead, source]
      rfl
    · simp [a, amountAhead, source]
  · intro linesOf_ isOpen start tofs ahead_
    have none_ : ∀ (tof : Option Pos) (tofs : List Pos) (label : Idx), copyEndOf s none tof tofs label = none :=
      fun _ _ _ => rfl
    refine ⟨fun stream => ?_, fun body stream open_ => ?_, fun body x stream open_ ends => ?_,
      fun body x more stream open_ ends later some_ gapped => ?_,
      fun body x more y stream open_ ends later closes gapped => ?_⟩
    · rw [horizon_eq (runs := []) (by rw [stream]; rfl)]
      rfl
    · rcases eq_or_ne body [] with rfl | some_
      · have zero : horizon s = 0 := by
          rw [horizon_eq (runs := []) (by rw [stream]; rfl)]
          rfl
        refine ⟨fun _ => ?_, fun p e more _ _ _ => ?_, fun p o c _ _ _ _ _ => ?_⟩
        all_goals simp [zero, linesOf_]
      · obtain ⟨r, runs, lines, closed, e, he, label⟩ := copyRuns_body open_ some_
        rw [← stream] at runs
        rw [horizon_eq runs]
        refine ⟨fun unknown => ?_, fun p e more hp gapped ht => ?_, fun p o c hp cont ho printing own => ?_⟩
        · have end_ : copyEndOf s s.firstStart s.lcu.copyTof (s.msu.queue.map fun e => e.tof) r.label = none := by
            rcases unknown with absent | ⟨gapped, empty⟩
            · rw [show s.firstStart = none from absent]
              rfl
            · cases s.firstStart with
              | none => rfl
              | some p => rw [copyEndOf_gapped gapped, show s.msu.queue.map (fun e => e.tof) = [] from empty]; rfl
          rw [horizonSum_open_none closed end_, lines, Nat.zero_add]
          rfl
        · rw [show s.firstStart = some p from hp, show s.msu.queue.map (fun e => e.tof) = e :: more from ht,
            horizonSum_open_some closed (copyEndOf_gapped gapped p _ _ _), lines, Nat.zero_add]
          rfl
        · rw [show s.firstStart = some p from hp, ho,
            horizonSum_open_some closed (copyEndOf_continuous cont printing _ (label.trans (own e he))), lines,
            Nat.zero_add]
          rfl
    · have runs := copyRuns_closed open_ ends
        (stream_end_lines (r := s.rsu) (by rw [stream]; simp) ends) []
      rw [← stream] at runs
      rw [horizon_eq runs]
      refine ⟨fun absent => ?_, fun p e more hp gapped ht => ?_, fun p hp gapped ht => ?_,
        fun p o c hp cont ho printing own => ?_⟩
      · rw [show s.firstStart = none from absent, horizonSum_closed_none (none_ _ _ _)]
        simp [copyRuns, horizonSum, linesOf_, linesOf]
      · rw [show s.firstStart = some p from hp, show s.msu.queue.map (fun e => e.tof) = e :: more from ht,
          horizonSum_closed_some (copyEndOf_gapped gapped p _ _ _)]
        simp [copyRuns, horizonSum, spanOf]
      · rw [show s.firstStart = some p from hp, show s.msu.queue.map (fun e => e.tof) = [] from ht,
          horizonSum_closed_none (copyEndOf_gapped gapped p _ _ _)]
        simp [copyRuns, horizonSum, gapped, linesOf_, linesOf, ahead_, Settings.senseAhead]
      · rw [show s.firstStart = some p from hp, ho,
          horizonSum_closed_some (copyEndOf_continuous cont printing _ own)]
        simp [copyRuns, horizonSum, spanOf]
    · obtain ⟨r, open2, lines, closed, -⟩ := copyRuns_body later some_
      have runs := copyRuns_closed open_ ends
        (stream_end_lines (r := s.rsu) (by rw [stream]; simp) ends) more
      rw [← stream, open2] at runs
      rw [horizon_eq runs]
      refine ⟨fun absent => ?_, fun p hp ht => ?_, fun p e hp ht => ?_, fun p e f rest hp ht => ?_⟩
      · rw [show s.firstStart = none from absent, horizonSum_closed_none (none_ _ _ _),
          horizonSum_open_none closed (none_ _ _ _), lines]
        simp [linesOf_, linesOf]
      · rw [show s.firstStart = some p from hp, show s.msu.queue.map (fun e => e.tof) = [] from ht,
          horizonSum_closed_none (copyEndOf_gapped gapped p _ _ _), horizonSum_open_none closed (none_ _ _ _), lines]
        simp [gapped, linesOf_, linesOf, ahead_, Settings.senseAhead]
      · rw [show s.firstStart = some p from hp, show s.msu.queue.map (fun e => e.tof) = [e] from ht,
          horizonSum_closed_some (copyEndOf_gapped gapped p _ _ _),
          horizonSum_open_none closed (copyEndOf_gapped gapped e _ _ _), lines]
        simp [spanOf, linesOf_, linesOf]
      · rw [show s.firstStart = some p from hp, show s.msu.queue.map (fun e => e.tof) = e :: f :: rest from ht,
          horizonSum_closed_some (copyEndOf_gapped gapped p _ _ _),
          horizonSum_open_some closed (copyEndOf_gapped gapped e _ _ _), lines]
        simp [spanOf, linesOf_, linesOf]
    · have second := copyRuns_closed later closes
        (stream_end_lines (r := s.rsu) (by rw [stream]; simp) closes) []
      have runs := copyRuns_closed open_ ends
        (stream_end_lines (r := s.rsu) (by rw [stream]; simp) ends) (more ++ [y])
      rw [second, ← List.cons_append, ← List.append_assoc, ← stream] at runs
      rw [horizon_eq runs]
      refine ⟨fun p hp ht => ?_, fun p e hp ht => ?_, fun p e f rest hp ht => ?_⟩
      · rw [show s.firstStart = some p from hp, show s.msu.queue.map (fun e => e.tof) = [] from ht,
          horizonSum_closed_none (copyEndOf_gapped gapped p _ _ _), horizonSum_closed_none (none_ _ _ _)]
        simp [copyRuns, horizonSum, gapped, linesOf_, linesOf, ahead_, Settings.senseAhead]
      · rw [show s.firstStart = some p from hp, show s.msu.queue.map (fun e => e.tof) = [e] from ht,
          horizonSum_closed_some (copyEndOf_gapped gapped p _ _ _),
          horizonSum_closed_none (copyEndOf_gapped gapped e _ _ _)]
        simp [copyRuns, horizonSum, gapped, spanOf, linesOf_, linesOf, ahead_, Settings.senseAhead]
      · rw [show s.firstStart = some p from hp, show s.msu.queue.map (fun e => e.tof) = e :: f :: rest from ht,
          horizonSum_closed_some (copyEndOf_gapped gapped p _ _ _),
          horizonSum_closed_some (copyEndOf_gapped gapped e _ _ _)]
        simp [copyRuns, horizonSum, spanOf]

/-! ## A spoiled copy -/

/-- R75: the context after a spoil. -/
def Context.spoiledOnce (c : Context) : Context :=
  if c.strobed then
    if c.permission then { c with spoiled := c.spoiled + 1, reprintMark := true }
    else { c with spoiled := c.spoiled + 1, copy := c.copy + 1 }
  else c

theorem spoil_eq (c : Context) : c.spoil = (c.spoiledOnce, c.spoiledOnce.copy) := by
  unfold Context.spoil Context.spoiledOnce
  split
  · split <;> rfl
  · rfl

theorem spoiledOnce_keeps (c : Context) : c.spoiledOnce.total = c.total ∧ c.spoiledOnce.label = c.label ∧
    c.spoiledOnce.closing = c.closing ∧ c.spoiledOnce.tag = c.tag := by
  unfold Context.spoiledOnce
  split
  · split <;> exact ⟨rfl, rfl, rfl, rfl⟩
  · exact ⟨rfl, rfl, rfl, rfl⟩

theorem discardHold_rrd (s : State) : (discardHold s).rrd =
    { s.rrd with fetch := none, hold := none, reread := none } := rfl

/-- R52: what a spoil rewind does to the ring. -/
theorem spoilRewind_lcu (c : Context) (target : Nat) (s : State) :
    (spoilRewind c target s).lcu = { s.lcu with staged := none } := by
  unfold spoilRewind
  extract_lets dropped s1 s2 w
  have drop : dropped.lcu = s.lcu := by
    unfold dropped
    split
    · exact dropFormat_lcu _ _
    · rfl
  have rewound : s2.lcu = { s.lcu with staged := none } := by
    show { dropped.lcu with staged := none } = _
    rw [drop]
  split
  · exact rewound
  · split
    · exact rewound
    · exact rewound

theorem spoilRewind_rrd (c : Context) (target : Nat) (s : State) :
    (spoilRewind c target s).rrd.hold = none ∧ (spoilRewind c target s).rrd.impliedClose = false ∧
    (target ≤ c.total → (spoilRewind c target s).rrd.walk = c.label + 1 ∧
      (spoilRewind c target s).rrd.supplyCopy = target ∧ (spoilRewind c target s).rrd.inside = true) ∧
    (∀ k, c.total < target → c.closing = some k →
      (spoilRewind c target s).rrd.walk = k + 1 ∧ (spoilRewind c target s).rrd.inside = false) := by
  unfold spoilRewind
  extract_lets dropped s1 s2 w
  by_cases again : target ≤ c.total
  · rw [if_pos again]
    exact ⟨rfl, rfl, fun _ => ⟨rfl, rfl, rfl⟩, fun k past => absurd again (Nat.not_le.2 past)⟩
  · rw [if_neg again]
    cases c.closing with
    | none => exact ⟨rfl, rfl, fun h => absurd h again, nofun⟩
    | some k =>
      refine ⟨rfl, rfl, fun h => absurd h again, fun j _ same => ?_⟩
      obtain rfl := Option.some.inj same
      exact ⟨rfl, rfl⟩

theorem reportLabelEnd_rrd (c : Context) (s : State) : (reportLabelEnd c s).rrd =
    { s.rrd with label := (reportLabelEnd c s).rrd.label, table := (reportLabelEnd c s).rrd.table } := by
  unfold reportLabelEnd
  extract_lets walking
  split
  · rfl
  · split
    · rw [completeLabel_eq]
    · rfl

/-- R62, R75: a label end with nothing STAGED leaves PRINTING empty. -/
theorem labelEnd_unstaged {s : State} {c : Context} (printing : s.lcu.printing = some c)
    (staged : s.lcu.staged = none) : labelEnd s =
      { reportLabelEnd c s with lcu := { s.lcu with printing := none } } := by
  unfold labelEnd
  simp only [printing]
  have lcu := reportLabelEnd_lcu c s
  rw [moveUp_still fun _ => by dsimp only; rw [lcu, staged], lcu]

/-- R75: the spoil of a copy, before a last copy ends its label. -/
def State.rewound (s : State) (c : Context) : State :=
  releaseCopy (flushStream (spoilRewind c c.copy { s with lcu := { s.lcu with printing := some c } }))

theorem rewound_lcu (s : State) (c : Context) : (s.rewound c).lcu =
    { s.lcu with printing := some c, staged := none, copyTof := none, started := false } := by
  rw [State.rewound, releaseCopy, flushStream_lcu, spoilRewind_lcu]

theorem rewound_rrd (s : State) (c : Context) : (s.rewound c).rrd =
    (spoilRewind c c.copy { s with lcu := { s.lcu with printing := some c } }).rrd := by
  rw [State.rewound, releaseCopy_rrd, flushStream_rrd]

theorem rewound_rsu (s : State) (c : Context) : (s.rewound c).rsu = Rsu.flushed := rfl

theorem spoilCopy_eq {s : State} {c : Context} (printing : s.lcu.printing = some c) :
    spoilCopy s = if c.total < c.spoiledOnce.copy then labelEnd (s.rewound c.spoiledOnce)
      else s.rewound c.spoiledOnce := by
  unfold spoilCopy
  simp only [printing, spoil_eq]
  rw [(spoiledOnce_keeps c).1]
  rfl

theorem spoilCopy_lcu {s : State} {c : Context} (printing : s.lcu.printing = some c) : (spoilCopy s).lcu =
    { s.lcu with
      printing := if c.total < c.spoiledOnce.copy then none else some c.spoiledOnce
      staged := none, copyTof := none, started := false } := by
  rw [spoilCopy_eq printing]
  split
  · rw [labelEnd_unstaged (c := c.spoiledOnce) (by rw [rewound_lcu]) (by rw [rewound_lcu])]
    rw [rewound_lcu]
  · exact rewound_lcu _ _

theorem spoilCopy_rsu {s : State} {c : Context} (printing : s.lcu.printing = some c) :
    (spoilCopy s).rsu = Rsu.flushed := by
  rw [spoilCopy_eq printing]
  split
  · exact labelEnd_rsu _
  · rfl

/-- R52: the ring after a spoil, the item table and the walk label's record of its end apart. -/
theorem spoilCopy_rrd {s : State} {c : Context} (printing : s.lcu.printing = some c) :
    (spoilCopy s).rrd.hold = none ∧ (spoilCopy s).rrd.impliedClose = false ∧
    (c.spoiledOnce.copy ≤ c.total → (spoilCopy s).rrd.walk = c.label + 1 ∧
      (spoilCopy s).rrd.supplyCopy = c.spoiledOnce.copy ∧ (spoilCopy s).rrd.inside = true) ∧
    (∀ k, c.total < c.spoiledOnce.copy → c.closing = some k →
      (spoilCopy s).rrd.walk = k + 1 ∧ (spoilCopy s).rrd.inside = false) := by
  obtain ⟨total, label, closing, -⟩ := spoiledOnce_keeps c
  have rewind := spoilRewind_rrd c.spoiledOnce c.spoiledOnce.copy
    { s with lcu := { s.lcu with printing := some c.spoiledOnce } }
  rw [← rewound_rrd, total, label, closing] at rewind
  rw [spoilCopy_eq printing]
  split
  next last =>
    have same : (labelEnd (s.rewound c.spoiledOnce)).rrd = (reportLabelEnd c.spoiledOnce (s.rewound c.spoiledOnce)).rrd := by
      rw [labelEnd_unstaged (c := c.spoiledOnce) (by rw [rewound_lcu]) (by rw [rewound_lcu])]
    rw [same, reportLabelEnd_rrd]
    exact rewind
  · exact rewind

/-- R88, R93: at a head that awaits no line a spoil leaves the Head Drive Unit. -/
theorem rewound_hdu {s : State} (idle : s.hdu.state ≠ .awaiting) (c : Context) : (s.rewound c).hdu = s.hdu := by
  have same : (spoilRewind c c.copy { s with lcu := { s.lcu with printing := some c } }).hdu = s.hdu :=
    spoilRewind_hdu _ _ _
  obtain ⟨ρ, x, h1, h2, wait⟩ := endWait_form (s := spoilRewind c c.copy
    { s with lcu := { s.lcu with printing := some c } }) (by rw [same]; exact idle)
  rw [State.rewound, releaseCopy_hdu, flushStream, wait]
  exact same

theorem spoilCopy_hdu {s : State} {c : Context} (printing : s.lcu.printing = some c)
    (idle : s.hdu.state ≠ .awaiting) : (spoilCopy s).hdu = s.hdu := by
  rw [spoilCopy_eq printing]
  split
  · rw [labelEnd_hdu, rewound_hdu idle]
  · exact rewound_hdu idle _

theorem fill_flushed : Rsu.flushed.fill = Rsu.flushed := rfl

/-- R75: what follows a spoil, where the units it touches have stood since. -/
theorem copySpoiled_of {s u t : State} {c : Context} (printing : s.lcu.printing = some c) (f : FollowsUp u t)
    (lcu : u.lcu.printing = (spoilCopy s).lcu.printing ∧ u.lcu.staged = none ∧ u.lcu.copyTof = none ∧
      u.lcu.started = false ∧ u.lcu.restTof = none)
    (rsu : u.rsu = (spoilCopy s).rsu)
    (rrd : u.rrd.hold = (spoilCopy s).rrd.hold ∧ u.rrd.impliedClose = (spoilCopy s).rrd.impliedClose ∧
      u.rrd.walk = (spoilCopy s).rrd.walk ∧ u.rrd.supplyCopy = (spoilCopy s).rrd.supplyCopy ∧
      u.rrd.inside = (spoilCopy s).rrd.inside) : CopySpoiled t c := by
  obtain ⟨printing_, staged, copyTof, started, restTof⟩ := lcu
  obtain ⟨hold, implied, walk, supply, inside⟩ := rrd
  obtain ⟨hold_, implied_, again, past⟩ := spoilCopy_rrd printing
  have stream : t.rsu = Rsu.flushed := by
    rw [f.rsu, rsu, spoilCopy_rsu printing, fill_flushed, ite_self]
  unfold CopySpoiled
  intro d
  have same : d = c.spoiledOnce := rfl
  rw [same, stream, f.lcu, f.rrd]
  refine ⟨?_, staged, copyTof, started, restTof, rfl, rfl, rfl, rfl, ?_, ?_, fun h => ?_, fun k h closing => ?_⟩
  · rw [printing_, spoilCopy_lcu printing]
  · exact hold.trans hold_
  · exact implied.trans implied_
  · obtain ⟨w, p, i⟩ := again h
    exact ⟨walk.trans w, supply.trans p, inside.trans i⟩
  · obtain ⟨w, i⟩ := past k h closing
    exact ⟨walk.trans w, inside.trans i⟩

/-! ## Records after what follows a command -/

/-- R55, R176: what follows a command raises only LABEL and BANDS events. -/
theorem settle_record {n : Source} (label : n ≠ .label) (bands : n ≠ .bands) (s : State) :
    (settle s).asu.records.get n = s.asu.records.get n := by
  rw [settle_asu]
  unfold retireAdvance
  split
  · rfl
  · refine (judgeBandsFree_record _ _ n).trans ?_
    rw [if_neg fun h => bands h.1]
    refine (retireRun_record _ n s).trans ?_
    rw [if_neg label]

/-! ## Faults -/

/-- R73: the stop a fault makes, unit by unit. -/
theorem faultStop_eq (s : State) : faultStop s = { s with
    lcu := if s.moving then { s.lcu with restTof := none } else s.lcu
    mtu := if s.moving then s.mtu.atRest else s.mtu
    seu := if s.moving then { s.seu with restTimer := some 0 } else s.seu
    msu := if s.moving then { s.msu with sensing := none } else s.msu
    hdu := s.hdu.cut
    htu := s.htu.off } := by
  unfold faultStop
  by_cases moves : s.moving
  · simp only [if_pos moves]
    rfl
  · simp only [if_neg moves]
    rfl

theorem faultStop_lcu (s : State) :
    (faultStop s).lcu = if s.moving then { s.lcu with restTof := none } else s.lcu := by
  rw [faultStop_eq]

theorem faultStop_hdu (s : State) : (faultStop s).hdu = s.hdu.cut := by
  rw [faultStop_eq]

theorem faultStop_htu (s : State) : (faultStop s).htu = s.htu.off := by
  rw [faultStop_eq]

theorem faultStop_mtu (s : State) : (faultStop s).mtu = if s.moving then s.mtu.atRest else s.mtu := by
  rw [faultStop_eq]

theorem faultStop_msu (s : State) :
    (faultStop s).msu = if s.moving then { s.msu with sensing := none } else s.msu := by
  rw [faultStop_eq]

/-- R73: the state a fault leaves before the work it ends: the stop, and the spoil of a copy under way. -/
def State.faultCut (s : State) : State :=
  if s.lcu.engine.inCopy then spoilCopy (faultStop s) else faultStop s

theorem spoilCopy_none {s : State} (h : s.lcu.printing = none) : spoilCopy s = s := by
  unfold spoilCopy
  simp only [h]

/-- R75: the units a spoil leaves alone. -/
theorem faultCut_units (s : State) : s.faultCut.mtu = (faultStop s).mtu ∧ s.faultCut.msu = (faultStop s).msu ∧
    s.faultCut.htu = (faultStop s).htu ∧ s.faultCut.asu = s.asu ∧ s.faultCut.mem = s.mem ∧
    s.faultCut.hdu = s.hdu.cut := by
  have idle : (faultStop s).hdu.state ≠ .awaiting := by
    rw [faultStop_hdu]
    simp [Hdu.cut]
  unfold State.faultCut
  split
  · refine ⟨spoilCopy_mtu _, spoilCopy_msu _, spoilCopy_htu _, ?_, ?_, ?_⟩
    · rw [spoilCopy_asu, faultStop_asu]
    · rw [spoilCopy_mem, faultStop_mem]
    · rw [← faultStop_hdu]
      cases printing : (faultStop s).lcu.printing with
      | none => rw [spoilCopy_none printing]
      | some c => exact spoilCopy_hdu printing idle
  · exact ⟨rfl, rfl, rfl, faultStop_asu s, faultStop_mem s, faultStop_hdu s⟩

theorem finishOperation_lcu (r : ItemResult) (s : State) :
    (finishOperation r s).lcu = { s.lcu with operation := none } := by
  unfold finishOperation
  split
  · rfl
  next none_ => rw [← none_]

theorem finishOperation_rrd (r : ItemResult) (s : State) :
    (finishOperation r s).rrd = { s.rrd with table := (finishOperation r s).rrd.table } := by
  unfold finishOperation
  split <;> rfl

/-- R73: the state from which a fault's engine state and event follow. -/
def State.faultLeft (s : State) : State := endCourse (releaseCopy (endWork s.faultCut))

theorem takeFault_eq (r : FaultReason) (s : State) :
    takeFault r s = raise .fault r.code 0 (setEngine .faulted (enterFault r s.faultLeft)) := rfl

theorem endWork_lcu (s : State) : (endWork s).lcu = { s.lcu with operation := none } := by
  unfold endWork
  extract_lets r
  rw [abandonCalibration_lcu, finishOperation_lcu]

theorem endWork_msu (s : State) : (endWork s).msu = s.msu.dropCalibration := by
  unfold endWork
  extract_lets r
  rw [abandonCalibration, finishOperation_msu]

theorem endWork_rrd (s : State) : (endWork s).rrd = { s.rrd with table := (endWork s).rrd.table } := by
  unfold endWork
  extract_lets r
  rw [abandonCalibration_rrd]
  exact finishOperation_rrd _ _

/-- R73, R74: what a fault leaves of the Label Control Unit. -/
theorem takeFault_lcu {s : State} (r : FaultReason) (fresh : s.lcu.engine ≠ .faulted) : (takeFault r s).lcu =
    { s.faultCut.lcu with
      operation := none, copyTof := none, started := false, seek := none, presentTof := none
      armCancelled := false, faults := s.faultCut.lcu.faults.set r true
      openedSincePaperOut := if r = .paperOut then false else s.faultCut.lcu.openedSincePaperOut
      engine := .faulted } := by
  have left : s.faultLeft.lcu = { s.faultCut.lcu with
      operation := none, copyTof := none, started := false, seek := none, presentTof := none
      armCancelled := false } := by
    rw [State.faultLeft, endCourse, releaseCopy, endWork_lcu]
  rw [takeFault_eq, raise_lcu, setEngine_lcu, enterFault, left]

theorem faultCut_engine (s : State) : s.faultCut.lcu.engine = s.lcu.engine ∧
    s.faultCut.lcu.faults = s.lcu.faults ∧ s.faultCut.lcu.restTof = (faultStop s).lcu.restTof ∧
    s.faultCut.lcu.openedSincePaperOut = s.lcu.openedSincePaperOut := by
  have stop : (faultStop s).lcu.engine = s.lcu.engine ∧ (faultStop s).lcu.faults = s.lcu.faults ∧
      (faultStop s).lcu.openedSincePaperOut = s.lcu.openedSincePaperOut := by
    rw [faultStop_lcu]
    split <;> exact ⟨rfl, rfl, rfl⟩
  obtain ⟨engine, faults, opened⟩ := stop
  unfold State.faultCut
  split
  · cases printing : (faultStop s).lcu.printing with
    | none =>
      rw [spoilCopy_none printing]
      exact ⟨engine, faults, rfl, opened⟩
    | some c =>
      rw [spoilCopy_lcu printing]
      exact ⟨engine, faults, rfl, opened⟩
  · exact ⟨engine, faults, rfl, opened⟩

/-- R73: the units after a fault. -/
theorem takeFault_units {s : State} (r : FaultReason) (fresh : s.lcu.engine ≠ .faulted) :
    let t := takeFault r s
    t.mtu = (if s.moving then s.mtu.atRest else s.mtu) ∧
    t.msu = (faultStop s).msu.dropCalibration ∧ t.htu = s.htu.off ∧ t.hdu = s.hdu.cut ∧ t.mem = s.mem ∧
    t.rsu = s.faultCut.rsu ∧ t.rrd = { s.faultCut.rrd with table := t.rrd.table } ∧
    t.asu.records = s.asu.records.set .fault ((s.asu.records.get .fault).record r.code 0) := by
  intro t
  obtain ⟨mtu, msu, htu, asu, mem, hdu⟩ := faultCut_units s
  have fault : t = raise .fault r.code 0 (setEngine .faulted (enterFault r s.faultLeft)) := rfl
  have supply : (setEngine .faulted (enterFault r s.faultLeft)).htu = s.faultLeft.htu := by
    rw [setEngine_htu, enterFault_htu]
    exact if_neg fun entry => Bool.false_ne_true entry.2
  have units : s.faultLeft.mtu = s.faultCut.mtu ∧ s.faultLeft.htu = s.faultCut.htu ∧
      s.faultLeft.hdu = s.faultCut.hdu ∧ s.faultLeft.mem = s.faultCut.mem ∧ s.faultLeft.rsu = s.faultCut.rsu ∧
      s.faultLeft.asu = s.faultCut.asu ∧ s.faultLeft.rrd = (endWork s.faultCut).rrd ∧
      s.faultLeft.msu = s.faultCut.msu.dropCalibration := by
    unfold State.faultLeft
    simp [endWork_msu]
  obtain ⟨mtu_, htu_, hdu_, mem_, rsu_, asu_, rrd_, msu_⟩ := units
  refine ⟨?_, ?_, ?_, ?_, ?_, ?_, ?_, ?_⟩
  · rw [fault, raise_mtu, setEngine_mtu, enterFault_mtu, mtu_, mtu, faultStop_mtu]
  · rw [fault, raise_msu, setEngine_msu, enterFault_msu, msu_, msu]
  · rw [fault, raise_htu, supply, htu_, htu, faultStop_htu]
  · rw [fault, raise_hdu, setEngine_hdu, enterFault_hdu, hdu_, hdu]
  · rw [fault, raise_mem, setEngine_mem, enterFault_mem, mem_, mem]
  · rw [fault, raise_rsu, setEngine_rsu, enterFault_rsu, rsu_]
  · rw [fault, raise_rrd, setEngine_rrd, enterFault_rrd, rrd_]
    exact endWork_rrd _
  · rw [fault, raise_records, setEngine_asu, enterFault_asu, asu_, asu]

theorem reportFault_taken {r : FaultReason} {s : State} (taken : faultTaken r s = true)
    (fresh : s.lcu.engine ≠ .faulted) : reportFault r s = takeFault r s := by
  rw [reportFault, if_pos taken, if_neg fresh]

theorem reportFault_not {r : FaultReason} {s : State} (taken : faultTaken r s = false) : reportFault r s = s := by
  rw [reportFault, taken]
  rfl

/-- R73, R74: a reason reported in FAULTED. -/
theorem reportFault_faulted {r : FaultReason} {s : State} (faulted : s.lcu.engine = .faulted) :
    reportFault r s =
      if s.lcu.faults.get r then s else raise .fault r.code 0 (enterFault r s) := by
  have taken : faultTaken r s = true := by
    unfold faultTaken
    rw [faulted]
  rw [reportFault, if_pos taken, if_pos faulted]

/-- R73: a reason taken at rest with no copy under way is taken in every engaged state. -/
theorem faultTaken_always {r : FaultReason} {s : State} (always : r.always = true)
    (engaged : s.lcu.engine ≠ .unconfigured) : faultTaken r s = true := by
  unfold faultTaken
  cases h : s.lcu.engine with
  | unconfigured => exact absurd h engaged
  | holding why => cases why <;> simp [always]
  | _ => simp [always]

theorem faultTaken_unconfigured {r : FaultReason} {s : State} (h : s.lcu.engine = .unconfigured) :
    faultTaken r s = false := by
  unfold faultTaken
  rw [h]

theorem faults_set_get (f : FaultSet) (r : FaultReason) : (f.set r true).get r = true := by cases r <;> rfl

theorem faults_set_of_get {f : FaultSet} {r : FaultReason} (h : f.get r = true) : f.set r true = f := by
  cases r <;> (cases f; simp_all [FaultSet.get, FaultSet.set])

/-- R73: what a fault taken in `s` and what follows it leave. -/
structure FaultLeaves (s t : State) (r : FaultReason) : Prop where
  engine : t.lcu.engine = .faulted
  faults : t.lcu.faults = s.lcu.faults.set r true
  restTof : s.mtu.motion ≠ .rest → t.lcu.restTof = none
  opened : t.lcu.openedSincePaperOut = if r = .paperOut then false else s.lcu.openedSincePaperOut
  motion : t.mtu.motion = .rest
  stopped : s.mtu.motion ≠ .rest → t.mtu.ramp = 0 ∧ t.mtu.timer = none
  position : t.mtu.position = s.mtu.position
  msu : t.msu = (if s.moving then { s.msu with sensing := none } else s.msu).dropCalibration
  htu : t.htu = s.htu.off
  head : t.hdu.state = .idle ∧ t.hdu.strobes = List.replicate 8 false
  mem : t.mem = s.mem
  event : (t.asu.records.get .fault).pending = true ∧ (t.asu.records.get .fault).code = r.code
  others : ∀ n, n ≠ .fault → n ≠ .label → n ≠ .bands → t.asu.records.get n = s.asu.records.get n
  spoiled : ∀ c, s.lcu.engine.inCopy = true → s.lcu.printing = some c → s.mtu.motion ≠ .rest → CopySpoiled t c

theorem takeFault_leaves {s : State} (r : FaultReason) (fresh : s.lcu.engine ≠ .faulted) :
    FaultLeaves s (settle (takeFault r s)) r := by
  have f := settle_followsUp (takeFault r s)
  have lcu := takeFault_lcu r fresh
  obtain ⟨mtu, msu, htu, hdu, mem, rsu, rrd, records⟩ := takeFault_units r fresh
  obtain ⟨-, faults, restTof, opened⟩ := faultCut_engine s
  have stopped : s.mtu.motion ≠ .rest → (takeFault r s).mtu = s.mtu.atRest := fun moves =>
    mtu.trans (if_pos ((moving_iff s).2 moves))
  have tofs : s.mtu.motion ≠ .rest → (takeFault r s).lcu.restTof = none := fun moves => by
    rw [lcu]
    refine restTof.trans ?_
    rw [faultStop_lcu, if_pos ((moving_iff s).2 moves)]
  exact {
    engine := by rw [f.lcu, lcu]
    faults := by rw [f.lcu, lcu]; exact congrArg (fun l => FaultSet.set l r true) faults
    restTof := fun moves => by rw [f.lcu]; exact tofs moves
    opened := by rw [f.lcu, lcu]; dsimp only; rw [opened]
    motion := by
      rw [f.mtu]
      refine (congrArg (fun m : Mtu => m.motion) mtu).trans ?_
      split
      · rfl
      · next still => exact not_not.1 (mt (moving_iff s).2 still)
    stopped := fun moves => by
      rw [f.mtu, stopped moves]
      exact ⟨rfl, rfl⟩
    position := by
      rw [f.mtu]
      refine (congrArg (fun m : Mtu => m.position) mtu).trans ?_
      split <;> rfl
    msu := by rw [f.msu, msu, faultStop_msu]
    htu := by rw [f.htu, htu]
    head := by
      rw [f.hdu, hdu]
      exact ⟨rfl, rfl⟩
    mem := by rw [f.mem, mem]
    event := by
      rw [settle_record (by decide) (by decide), records, PerSource.get_set]
      exact ⟨rfl, rfl⟩
    others := fun n fault label bands => by
      rw [settle_record label bands, records, PerSource.get_set_ne _ _ _ _ fault]
    spoiled := fun c copy printing moves => by
      have cut : s.faultCut = spoilCopy (faultStop s) := if_pos copy
      have own : (faultStop s).lcu.printing = some c := by
        rw [faultStop_lcu]
        split <;> exact printing
      have spoil := spoilCopy_lcu own
      refine copySpoiled_of own f ?_ ?_ ?_
      · refine ⟨?_, ?_, ?_, ?_, tofs moves⟩
        · rw [lcu, cut]
        · rw [lcu, cut]
          exact congrArg (fun l : Lcu => l.staged) spoil
        · rw [lcu]
        · rw [lcu]
      · rw [rsu, cut]
      · rw [rrd, cut]
        exact ⟨rfl, rfl, rfl, rfl, rfl⟩ }

theorem reportFault_leaves {s : State} {r : FaultReason} (taken : faultTaken r s = true)
    (fresh : s.lcu.engine ≠ .faulted) : FaultLeaves s (settle (reportFault r s)) r := by
  rw [reportFault_taken taken fresh]
  exact takeFault_leaves r fresh

/-- R74: a reason reported in FAULTED is added to the fault set, and raised where it is new. -/
theorem reportFault_again {s : State} {r : FaultReason} (faulted : s.lcu.engine = .faulted) :
    (reportFault r s).lcu.engine = .faulted ∧ (reportFault r s).lcu.faults = s.lcu.faults.set r true ∧
      (reportFault r s).htu = s.htu ∧ (reportFault r s).mem = s.mem := by
  rw [reportFault_faulted faulted]
  split
  next known => exact ⟨faulted, (faults_set_of_get known).symm, rfl, rfl⟩
  · rw [raise_lcu, raise_htu, raise_mem]
    exact ⟨faulted, rfl, rfl, rfl⟩

/-! ## The head supply -/

/-- R126: the supply goes off. -/
theorem supplyOff_eq (s : State) : supplyOff s =
    { s with htu := s.htu.off, hdu := if s.hdu.state = .active then s.hdu.cut else s.hdu } := by
  unfold supplyOff
  by_cases active : s.hdu.state = .active
  · rw [if_pos active, if_pos active]
    rfl
  · rw [if_neg active, if_neg active]

/-- R73, R169: the supply has failed. -/
theorem supplyFails (s : State) :
    let t := settle (reportFault .supply (supplyOff s))
    t.htu.supply = .off ∧ t.htu.settle = none ∧ t.htu.dwell = none ∧ t.mem = s.mem ∧
      (s.lcu.engine = .unconfigured → t.lcu = s.lcu) ∧
      (s.lcu.engine ≠ .unconfigured → t.lcu.engine = .faulted ∧ t.lcu.faults.supply = true) ∧
      (s.lcu.engine ≠ .unconfigured → s.lcu.engine ≠ .faulted → t.mtu.motion = .rest ∧
        t.hdu.state = .idle ∧ t.hdu.strobes = List.replicate 8 false ∧
        (t.asu.records.get .fault).code = 3) := by
  rw [supplyOff_eq]
  generalize (if s.hdu.state = .active then s.hdu.cut else s.hdu) = h
  intro t
  by_cases unconf : s.lcu.engine = .unconfigured
  · have none_ := reportFault_not (r := .supply) (s := { s with htu := s.htu.off, hdu := h })
      (faultTaken_unconfigured unconf)
    have f := settle_followsUp { s with htu := s.htu.off, hdu := h }
    have same : t = settle { s with htu := s.htu.off, hdu := h } := congrArg settle none_
    rw [same, f.htu, f.mem, f.lcu]
    exact ⟨rfl, rfl, rfl, rfl, fun _ => rfl, fun engaged => absurd unconf engaged,
      fun engaged => absurd unconf engaged⟩
  · by_cases faulted : s.lcu.engine = .faulted
    · obtain ⟨engine, faults, htu, mem⟩ := reportFault_again (r := .supply)
        (s := { s with htu := s.htu.off, hdu := h }) faulted
      have f := settle_followsUp (reportFault .supply { s with htu := s.htu.off, hdu := h })
      refine ⟨?_, ?_, ?_, f.mem.trans mem, fun e => absurd e unconf, fun _ => ⟨?_, ?_⟩,
        fun _ fresh => absurd faulted fresh⟩
      · rw [f.htu, htu]; rfl
      · rw [f.htu, htu]; rfl
      · rw [f.htu, htu]; rfl
      · rw [f.lcu]; exact engine
      · rw [f.lcu, faults]; rfl
    · have leaves := reportFault_leaves (r := .supply) (s := { s with htu := s.htu.off, hdu := h })
        (faultTaken_always rfl unconf) faulted
      refine ⟨?_, ?_, ?_, leaves.mem, fun e => absurd e unconf, fun _ => ⟨leaves.engine, ?_⟩,
        fun _ _ => ⟨leaves.motion, leaves.head.1, leaves.head.2, leaves.event.2⟩⟩
      · rw [leaves.htu]; rfl
      · rw [leaves.htu]; rfl
      · rw [leaves.htu]; rfl
      · rw [leaves.faults]; rfl

/-- Settles O50. -/
theorem supplyEvents : Obligations.SupplyEvents := by
  intro s fails
  refine ⟨fun settling => ⟨_, rfl, ?_⟩, fun settling => ⟨_, rfl, ?_⟩, fun other v => ⟨_, rfl, ?_⟩,
    fun on => ⟨_, rfl, ?_⟩, fun other => ⟨_, rfl, ?_⟩, fun counts dwells time head stopping latch => ?_,
    fun still => ?_⟩
  · rw [settleExpires, if_pos settling, if_pos rfl]
    exact settle_followsUp _
  · rw [settleExpires, if_pos settling, if_neg (by decide)]
    exact supplyFails s
  · rw [settleExpires, if_neg other]
    exact settle_followsUp _
  · rw [psgdFalls, if_pos on]
    exact supplyFails s
  · rw [psgdFalls, if_neg other]
    exact settle_followsUp _
  · have runs : dwellRuns s = true := by
      rw [dwellRuns, dwells, decide_eq_true time, Option.isSome_iff_ne_none.2 counts]
      rfl
    refine ⟨_, congrArg Host.Outcome.next (if_pos runs), ?_⟩
    rw [dwellOff, supplyOff_eq, if_neg head, lineEnded_none (by exact stopping) (by exact latch)]
    exact settle_followsUp _
  · refine congrArg Host.Outcome.next (if_neg ?_)
    rw [dwellRuns]
    rcases still with none_ | busy | zero
    · simp [none_]
    · simp [busy]
    · simp [zero]

/-! ## Thermal grades -/

/-- R173: no fall is due from this grade. -/
def Grade.Stays (c : Settings) (theta : Int) (g : Grade) : Prop := g = .normal ∨ g.threshold c - 5 < theta

/-- R173: one fall, or none. -/
theorem gradeFall_cases (c : Settings) (theta : Int) (g : Grade) :
    (g.Stays c theta ∧ gradeFall c theta g = g) ∨
    (theta ≤ g.threshold c - 5 ∧ (gradeFall c theta g).rank + 1 = g.rank) := by
  unfold gradeFall Grade.Stays
  split
  next falls =>
    refine .inr ⟨falls.2, ?_⟩
    cases g with
    | normal => exact absurd rfl falls.1
    | slow => rfl
    | hold => rfl
    | trip => rfl
  next stays =>
    refine .inl ⟨?_, rfl⟩
    by_cases normal : g = .normal
    · exact .inl normal
    · exact .inr (Int.lt_of_not_ge fun low => stays ⟨normal, low⟩)

theorem grade_rank_inj {g h : Grade} (same : g.rank = h.rank) : g = h := by
  cases g <;> cases h <;> simp [Grade.rank] at same ⊢

/-- R173: `h` is a grade that `g` falls to: every grade passed has its fall due. -/
def Grade.FallsTo (c : Settings) (theta : Int) (g h : Grade) : Prop :=
  h.rank ≤ g.rank ∧ ∀ k : Grade, h.rank < k.rank → k.rank ≤ g.rank → theta ≤ k.threshold c - 5

theorem Grade.FallsTo.fall {c : Settings} {theta : Int} {g h : Grade} (falls : g.FallsTo c theta h) :
    g.FallsTo c theta (gradeFall c theta h) := by
  rcases gradeFall_cases c theta h with ⟨-, same⟩ | ⟨due, one⟩
  · rwa [same]
  · refine ⟨by have := falls.1; omega, fun k above most => ?_⟩
    rcases Nat.lt_or_ge h.rank k.rank with past | at_
    · exact falls.2 k past most
    · rw [grade_rank_inj (show k.rank = h.rank by omega)]
      exact due

theorem gradeFall_stays {c : Settings} {theta : Int} {g : Grade} (stays : g.Stays c theta) :
    gradeFall c theta g = g := by
  rcases stays with normal | high
  · exact if_neg fun falls => falls.1 normal
  · exact if_neg fun falls => absurd falls.2 (by omega)

/-- R173: three falls from TRIP, two from HOLD or one from SLOW reach a grade that stays. -/
theorem threeFalls_stay (c : Settings) (theta : Int) (g : Grade) :
    (gradeFall c theta (gradeFall c theta (gradeFall c theta g))).Stays c theta := by
  have most : g.rank ≤ 3 := by cases g <;> decide
  have low {x : Grade} (zero : x.rank = 0) : x.Stays c theta := .inl (grade_rank_inj (h := .normal) zero)
  rcases gradeFall_cases c theta g with ⟨stays, same⟩ | ⟨-, one⟩
  · rw [same, same, same]
    exact stays
  · rcases gradeFall_cases c theta (gradeFall c theta g) with ⟨stays, same⟩ | ⟨-, two⟩
    · rw [same, same]
      exact stays
    · rcases gradeFall_cases c theta (gradeFall c theta (gradeFall c theta g)) with ⟨stays, same⟩ | ⟨-, three⟩
      · rw [same]
        exact stays
      · exact low (by omega)

/-- R173: the rise and the fall of the grade. -/
theorem nextGrade_spec (c : Settings) (theta : Int) (g : Grade) :
    (g.rank < (gradeReached c theta).rank → nextGrade c theta g = gradeReached c theta) ∧
    ((gradeReached c theta).rank ≤ g.rank → g.FallsTo c theta (nextGrade c theta g) ∧
      (nextGrade c theta g).Stays c theta) := by
  unfold nextGrade
  refine ⟨fun rises => if_pos rises, fun low => ?_⟩
  rw [if_neg (Nat.not_lt.2 low)]
  have start : g.FallsTo c theta g := ⟨Nat.le_refl _, fun k above most => absurd above (Nat.not_lt.2 most)⟩
  exact ⟨start.fall.fall.fall, threeFalls_stay c theta g⟩

/-! ## What a forward step leaves of faults and conversions -/

/-- The fault set and the conversions outstanding stand. -/
structure Steady (s t : State) : Prop where
  faults : t.lcu.faults = s.lcu.faults
  conversions : t.htu.conversions = s.htu.conversions

theorem Steady.trans {s t u : State} (h : Steady s t) (k : Steady t u) : Steady s u :=
  ⟨k.faults.trans h.faults, k.conversions.trans h.conversions⟩

theorem Steady.after {s t u : State} (k : Steady t u) (h : Steady s t) : Steady s u := h.trans k

theorem steady_raise (n : Source) (code : Nat) (arg : BitVec 16) (s : State) : Steady s (raise n code arg s) :=
  ⟨by rw [raise_lcu], by rw [raise_htu]⟩

theorem steady_setEngine (e : Engine) (s : State) : Steady s (setEngine e s) := by
  refine ⟨by rw [setEngine_lcu], ?_⟩
  rw [setEngine_htu]
  split <;> rfl

theorem steady_finishOperation (r : ItemResult) (s : State) : Steady s (finishOperation r s) :=
  ⟨by rw [finishOperation_lcu], by rw [finishOperation_htu]⟩

/-- R163: a calibration run has failed: its state effects and the event. -/
def State.failTold (s : State) (r : CalRun) : State :=
  requestRefresh (raise .media Code.calFailed (argOf r.phase.failArg)
    { s with msu := s.msu.dropCalibration })

theorem failCalibration_eq (r : CalRun) (s : State) : failCalibration r s = orderDeceleration
    (if s.lcu.engine = .calibrating .arming then
      { s.failTold r with lcu := { (s.failTold r).lcu with pauseLatch := true } }
    else finishOperation .failed (s.failTold r)) := rfl

theorem steady_requestRefresh (s : State) : Steady s (requestRefresh s) := by
  rw [requestRefresh_eq]
  exact ⟨rfl, rfl⟩

theorem steady_failTold (s : State) (r : CalRun) : Steady s (s.failTold r) :=
  (steady_requestRefresh _).after ((steady_raise _ _ _ _).after ⟨rfl, rfl⟩)

theorem steady_failCalibration (r : CalRun) (s : State) : Steady s (failCalibration r s) := by
  rw [failCalibration_eq]
  refine Steady.after ⟨rfl, rfl⟩ (t := if s.lcu.engine = .calibrating .arming then
      { s.failTold r with lcu := { (s.failTold r).lcu with pauseLatch := true } }
    else finishOperation .failed (s.failTold r)) ?_
  split
  · exact ⟨(steady_failTold s r).faults, (steady_failTold s r).conversions⟩
  · exact (steady_finishOperation _ _).after (steady_failTold s r)

theorem steady_countCalibration (s : State) : Steady s (countCalibration s) := by
  unfold countCalibration
  split
  · split
    · exact (steady_failCalibration _ _).after ⟨rfl, rfl⟩
    · exact ⟨rfl, rfl⟩
  · exact ⟨rfl, rfl⟩

theorem steady_moveUp (s : State) : Steady s (moveUp s) := by
  unfold moveUp
  split <;> exact ⟨rfl, rfl⟩

theorem steady_labelEnd (s : State) : Steady s (labelEnd s) := by
  unfold labelEnd
  split
  next c _ =>
    have reported : Steady s (reportLabelEnd c s) := ⟨by rw [reportLabelEnd_lcu], by rw [reportLabelEnd_htu]⟩
    exact (steady_moveUp _).after ⟨reported.faults, reported.conversions⟩
  · exact ⟨rfl, rfl⟩

theorem steady_endCopyRows (c : Context) (s : State) : Steady s (endCopyRows c s) := by
  unfold endCopyRows
  extract_lets overlong s1 s2
  have ended : Steady s s2 := ⟨congrArg (fun l : Lcu => l.faults) (endWait_lcu s),
    congrArg (fun h : Htu => h.conversions) (endWait_htu s)⟩
  split
  · exact ended.trans (steady_raise _ _ _ _)
  · exact ended

theorem steady_copyEnd (s : State) : Steady s (copyEnd s) := by
  unfold copyEnd
  split
  next c _ =>
    extract_lets s1 s2
    have rows : Steady s s1 := (steady_endCopyRows _ _).after ⟨rfl, rfl⟩
    have ended : Steady s s2 := by
      unfold s2
      split
      · exact rows.trans (steady_labelEnd _)
      · exact rows.trans ⟨rfl, rfl⟩
    split
    · exact ended.trans ⟨rfl, rfl⟩
    · exact (steady_setEngine _ _).after ⟨ended.faults, ended.conversions⟩
  · exact ⟨rfl, rfl⟩

theorem reportFault_conversions (r : FaultReason) (s : State) :
    (reportFault r s).htu.conversions = s.htu.conversions := by
  by_cases taken : faultTaken r s = true
  · by_cases faulted : s.lcu.engine = .faulted
    · rw [(reportFault_again faulted).2.2.1]
    · rw [reportFault_taken taken faulted]
      obtain ⟨-, -, htu, -⟩ := takeFault_units r faulted
      rw [htu]
      rfl
  · rw [reportFault_not (Bool.eq_false_iff.2 taken)]

theorem reportFault_faults (r : FaultReason) (s : State) :
    (reportFault r s).lcu.faults = s.lcu.faults ∨ (reportFault r s).lcu.faults = s.lcu.faults.set r true := by
  by_cases taken : faultTaken r s = true
  · by_cases faulted : s.lcu.engine = .faulted
    · exact .inr (reportFault_again faulted).2.1
    · rw [reportFault_taken taken faulted, takeFault_lcu r faulted]
      exact .inr (congrArg (fun f => FaultSet.set f r true) (faultCut_engine s).2.1)
  · exact .inl (by rw [reportFault_not (Bool.eq_false_iff.2 taken)])

/-- R135: a forward step reports no fault but GAP_MISSING, and no conversion. -/
theorem forwardStep_steady (index period : Nat) (s : State) :
    (forwardStep index period s).htu.conversions = s.htu.conversions ∧
    ((forwardStep index period s).lcu.faults = s.lcu.faults ∨
      (forwardStep index period s).lcu.faults = s.lcu.faults.set .gapMissing true) := by
  have reached : Steady s (reachTof (s.stepped index period)) := by
    rw [reachTof_eq]
    exact ⟨congrArg (fun l : Lcu => l.faults) (stepped_lcu s index period),
      congrArg (fun h : Htu => h.conversions) (stepped_htu s index period)⟩
  have counted := reached.trans (steady_countCalibration _)
  have judged : Steady s (judgeCopyEnd (reachesTof (s.stepped index period))
      (countCalibration (reachTof (s.stepped index period)))) := by
    unfold judgeCopyEnd
    split
    · exact counted.trans (steady_copyEnd _)
    · exact counted
  have step_ : forwardStep index period s = judgeLimits (judgeCopyEnd (reachesTof (s.stepped index period))
      (countCalibration (reachTof (s.stepped index period)))) := rfl
  rw [step_]
  unfold judgeLimits
  split
  · refine ⟨(reportFault_conversions _ _).trans judged.conversions, ?_⟩
    rw [← judged.faults]
    exact reportFault_faults _ _
  · exact ⟨judged.conversions, .inl judged.faults⟩

theorem startPrinting_steady (s : State) :
    (startPrinting s).htu.conversions = s.htu.conversions ∧
    ((startPrinting s).lcu.faults = s.lcu.faults ∨
      (startPrinting s).lcu.faults = s.lcu.faults.set .gapMissing true) := by
  have entered : Steady s (setEngine .printing { s with mtu := { s.mtu with source := .horizon } }) :=
    (steady_setEngine _ _).after ⟨rfl, rfl⟩
  obtain ⟨conversions, faults⟩ := forwardStep_steady 0
    ((setEngine .printing { s with mtu := { s.mtu with source := .horizon } }).mtu.ramps.period 0)
    (setEngine .printing { s with mtu := { s.mtu with source := .horizon } })
  rw [entered.faults] at faults
  exact ⟨conversions.trans entered.conversions, faults⟩

theorem leaveThermalHold_steady (s : State) :
    (leaveThermalHold s).htu.conversions = s.htu.conversions ∧
    ((leaveThermalHold s).lcu.faults = s.lcu.faults ∨
      (leaveThermalHold s).lcu.faults = s.lcu.faults.set .gapMissing true) := by
  unfold leaveThermalHold
  split
  · split
    · exact startPrinting_steady s
    · exact ⟨(steady_setEngine _ _).conversions, .inl (steady_setEngine _ _).faults⟩
  · exact ⟨rfl, .inl rfl⟩

/-! ## Conversion samples -/

/-- R171 to R173: the state a valid code of temperature `theta` leaves before the grade's change is acted on. -/
def State.sampled (s : State) (theta : Int) : State := { s with
  lcu := { s.lcu with faults :=
    if s.htu.sensorValid then s.lcu.faults else s.lcu.faults.set .thermSensor false }
  htu := { s.htu with
    conversions := s.htu.conversions - 1, theta := theta, sensorValid := true
    grade := nextGrade s.cfg theta s.htu.grade }
  seu := { s.seu with band := bandOf theta } }

theorem takeSample_none {s : State} (code : Byte) (none_ : s.settings = none) : takeSample code s =
    { s with htu := { s.htu with conversions := s.htu.conversions - 1 } } := by
  unfold takeSample
  simp only [none_]
  rfl

theorem takeSample_valid {s : State} {code : Byte} (settings : s.settings ≠ none) (low : code ≠ 0)
    (high : code ≠ 255) : takeSample code s =
      gradeChanged s.htu.grade (s.sampled (thermistorTheta s.cfg.thermistor code.toNat)) := by
  have valid : ¬ (code.toNat = 0 ∨ code.toNat = 255) := by bv_omega
  unfold takeSample
  simp only [if_pos (Option.isSome_iff_ne_none.2 settings), if_neg valid]
  unfold validSample State.sampled
  by_cases sensor : s.htu.sensorValid = true
  · simp only [if_pos sensor]
    rfl
  · simp only [if_neg sensor]
    rfl

theorem takeSample_invalid {s : State} {code : Byte} (settings : s.settings ≠ none)
    (invalid : code = 0 ∨ code = 255) : takeSample code s =
      if s.htu.sensorValid then reportFault .thermSensor
        { s with htu := { s.htu with conversions := s.htu.conversions - 1, sensorValid := false } }
      else { s with htu := { s.htu with conversions := s.htu.conversions - 1 } } := by
  have number : code.toNat = 0 ∨ code.toNat = 255 := by
    rcases invalid with rfl | rfl
    · exact .inl rfl
    · exact .inr rfl
  unfold takeSample
  simp only [if_pos (Option.isSome_iff_ne_none.2 settings), if_pos number]
  rfl

/-- R172: the temperature of a valid code, and its band. -/
theorem thermistorTheta_eq (table : List Int) (code : Nat) : thermistorTheta table code =
    table[code / 16]?.getD 0 +
      ((table[code / 16 + 1]?.getD 0 - table[code / 16]?.getD 0) * (code % 16 : Nat)).fdiv 16 :=
  congrArg (_ + ·) (Int.fdiv_eq_ediv_of_nonneg _ (by decide)).symm

theorem bandOf_eq (theta : Int) : (bandOf theta : Int) = max 0 (min 15 ((theta + 20).fdiv 8)) := by
  rw [bandOf, Int.fdiv_eq_ediv_of_nonneg _ (by decide)]
  omega

/-! ## What a change of the grade does -/

theorem gradeChanged_trip {v : State} {old : Grade} (trip : v.htu.grade = .trip) (rises : old ≠ .trip) :
    gradeChanged old v = reportFault .thermalTrip { v with htu := { v.htu with trip := true } } := by
  have cases_ : gradeChanged old v = if old = .trip then v else enterTrip v := by
    unfold gradeChanged
    simp only [trip]
  rw [cases_, if_neg rises]
  rfl

theorem gradeChanged_hold {v : State} {old : Grade} (hold : v.htu.grade = .hold) (rises : old.belowHold = true) :
    gradeChanged old v = enterHold v := by
  unfold gradeChanged
  simp only [hold]
  exact if_pos rises

/-- R174: the trip condition is gone. -/
def State.untripped (v : State) : State :=
  if v.htu.trip then clearFault .thermalTrip { v with htu := { v.htu with trip := false } } else v

theorem gradeChanged_below {v : State} {old : Grade} (below : v.htu.grade = .normal ∨ v.htu.grade = .slow) :
    gradeChanged old v = leaveThermalHold v.untripped := by
  unfold gradeChanged
  rcases below with h | h
  · simp only [h]
    rfl
  · simp only [h]
    rfl

theorem gradeChanged_cases (old : Grade) (v : State) :
    gradeChanged old v = v ∨
    gradeChanged old v = reportFault .thermalTrip { v with htu := { v.htu with trip := true } } ∨
    gradeChanged old v = enterHold v ∨ gradeChanged old v = leaveThermalHold v.untripped := by
  unfold gradeChanged
  split
  · split
    · exact .inl rfl
    · exact .inr (.inl rfl)
  · split
    · exact .inr (.inr (.inl rfl))
    · exact .inl rfl
  · exact .inr (.inr (.inr rfl))

/-- What a change of the grade leaves of the sample. -/
structure SampleKept (s t : State) : Prop where
  mem : t.mem = s.mem
  theta : t.htu.theta = s.htu.theta
  sensorValid : t.htu.sensorValid = s.htu.sensorValid
  grade : t.htu.grade = s.htu.grade
  band : t.seu.band = s.seu.band
  conversions : t.htu.conversions = s.htu.conversions
  sensorFault : t.lcu.faults.thermSensor = s.lcu.faults.thermSensor

theorem Inner.sampleKept {s t : State} (h : Inner s t) (conversions : t.htu.conversions = s.htu.conversions)
    (sensorFault : t.lcu.faults.thermSensor = s.lcu.faults.thermSensor) : SampleKept s t :=
  ⟨h.mem, h.theta, h.sensorValid, h.grade, h.band, conversions, sensorFault⟩

theorem SampleKept.trans {s t u : State} (h : SampleKept s t) (k : SampleKept t u) : SampleKept s u :=
  ⟨k.mem.trans h.mem, k.theta.trans h.theta, k.sensorValid.trans h.sensorValid, k.grade.trans h.grade,
    k.band.trans h.band, k.conversions.trans h.conversions, k.sensorFault.trans h.sensorFault⟩

theorem sampleKept_untripped (v : State) : SampleKept v v.untripped := by
  unfold State.untripped
  split <;> exact ⟨rfl, rfl, rfl, rfl, rfl, rfl, rfl⟩

theorem sampleKept_enterHold (v : State) : SampleKept v (enterHold v) := by
  refine (inner_enterHold v).sampleKept ?_ ?_
  · unfold enterHold
    split
    · rfl
    · exact (steady_setEngine _ _).conversions
    · rfl
  · unfold enterHold
    split
    · rfl
    · exact congrArg FaultSet.thermSensor (steady_setEngine _ _).faults
    · rfl

theorem sampleKept_leave (v : State) : SampleKept v (leaveThermalHold v) := by
  obtain ⟨conversions, faults⟩ := leaveThermalHold_steady v
  refine (inner_leaveThermalHold v).sampleKept conversions ?_
  rcases faults with same | missing
  · rw [same]
  · rw [missing]
    rfl

theorem sampleKept_gradeChanged (old : Grade) (v : State) : SampleKept v (gradeChanged old v) := by
  rcases gradeChanged_cases old v with h | h | h | h
  · rw [h]
    exact ⟨rfl, rfl, rfl, rfl, rfl, rfl, rfl⟩
  · rw [h]
    refine SampleKept.trans (t := { v with htu := { v.htu with trip := true } }) ⟨rfl, rfl, rfl, rfl, rfl, rfl, rfl⟩ ?_
    refine (inner_reportFault _ _).sampleKept (reportFault_conversions _ _) ?_
    rcases reportFault_faults .thermalTrip { v with htu := { v.htu with trip := true } } with same | trips
    · rw [same]
    · rw [trips]
      rfl
  · rw [h]
    exact sampleKept_enterHold v
  · rw [h]
    exact (sampleKept_untripped v).trans (sampleKept_leave _)

/-- R73, R175: while UNCONFIGURED a change of the grade changes no unit but the trip condition and its fault. -/
theorem gradeChanged_unconfigured {v : State} (old : Grade) (unconf : v.lcu.engine = .unconfigured) :
    (gradeChanged old v).asu = v.asu ∧ (gradeChanged old v).bpu = v.bpu ∧ (gradeChanged old v).mtu = v.mtu ∧
      (gradeChanged old v).lcu = { v.lcu with faults := (gradeChanged old v).lcu.faults } := by
  rcases gradeChanged_cases old v with h | h | h | h
  · rw [h]
    exact ⟨rfl, rfl, rfl, rfl⟩
  · rw [h, reportFault_not (faultTaken_unconfigured (by exact unconf))]
    exact ⟨rfl, rfl, rfl, rfl⟩
  · rw [h, enterHold, unconf]
    exact ⟨rfl, rfl, rfl, rfl⟩
  · have stands : v.untripped.asu = v.asu ∧ v.untripped.bpu = v.bpu ∧ v.untripped.mtu = v.mtu ∧
        v.untripped.lcu = { v.lcu with faults := v.untripped.lcu.faults } := by
      unfold State.untripped
      split <;> exact ⟨rfl, rfl, rfl, rfl⟩
    have engine : v.untripped.lcu.engine ≠ .holding .thermal := by
      rw [stands.2.2.2]
      dsimp only
      rw [unconf]
      decide
    rw [h, leaveThermalHold, if_neg fun holding => engine holding.1]
    exact stands

/-! ## The grade and the engine -/

/-- R90: the horizon reads neither the fault set nor the temperature. -/
theorem horizonSum_temperature (s : State) (f : FaultSet) (h : Htu) (e : Seu) (runs : List CopyRun) :
    ∀ start tof tofs sum,
      horizonSum { s with lcu := { s.lcu with faults := f }, htu := h, seu := e } start tof tofs sum runs =
        horizonSum s start tof tofs sum runs := by
  induction runs with
  | nil => exact fun _ _ _ _ => rfl
  | cons r rest ih =>
    intro start tof tofs sum
    have ends : copyEndOf { s with lcu := { s.lcu with faults := f }, htu := h, seu := e } start tof tofs
      r.label = copyEndOf s start tof tofs r.label := rfl
    simp only [horizonSum, ends, ih]
    rfl

theorem horizonReady_temperature (s : State) (f : FaultSet) (h : Htu) (e : Seu) (rows : Nat) :
    horizonReady { s with lcu := { s.lcu with faults := f }, htu := h, seu := e } rows =
      horizonReady s rows := by
  have same : horizon { s with lcu := { s.lcu with faults := f }, htu := h, seu := e } = horizon s :=
    congrArg (min 65535) (horizonSum_temperature s f h e _ _ _ _ _)
  rw [horizonReady, same]
  rfl

/-- R173, R174: what a trip leaves. -/
theorem trips {v : State} {old : Grade} (trip : v.htu.grade = .trip) (rises : old ≠ .trip) :
    let t := settle (gradeChanged old v)
    t.htu.trip = true ∧ (v.lcu.engine ≠ .unconfigured →
      t.lcu.engine = .faulted ∧ t.lcu.faults.thermalTrip = true ∧
      (v.lcu.engine ≠ .faulted → t.mtu.motion = .rest ∧ t.htu.supply = .off ∧
        t.hdu.state = .idle ∧ t.hdu.strobes = List.replicate 8 false)) := by
  rw [gradeChanged_trip trip rises]
  intro t
  have f := settle_followsUp (reportFault .thermalTrip { v with htu := { v.htu with trip := true } })
  refine ⟨?_, fun engaged => ?_⟩
  · rw [f.htu, (inner_reportFault _ _).trip]
  · have taken : faultTaken .thermalTrip { v with htu := { v.htu with trip := true } } = true :=
      faultTaken_always rfl engaged
    by_cases faulted : v.lcu.engine = .faulted
    · obtain ⟨engine, faults, -⟩ := reportFault_again (r := .thermalTrip)
        (s := { v with htu := { v.htu with trip := true } }) faulted
      rw [f.lcu]
      exact ⟨engine, by rw [faults]; rfl, fun fresh => absurd faulted fresh⟩
    · have leaves := reportFault_leaves taken faulted
      exact ⟨leaves.engine, by rw [leaves.faults]; rfl,
        fun _ => ⟨leaves.motion, by rw [leaves.htu]; rfl, leaves.head⟩⟩

theorem untripped_htu (v : State) : v.untripped.htu.trip = false ∧
    (v.htu.trip = true → v.untripped.lcu.faults.thermalTrip = false) := by
  unfold State.untripped
  by_cases tripped : v.htu.trip = true
  · simp only [if_pos tripped]
    exact ⟨rfl, fun _ => rfl⟩
  · simp only [if_neg tripped]
    exact ⟨Bool.eq_false_iff.2 tripped, fun h => absurd h tripped⟩

/-- The units the end of the trip condition leaves alone. -/
theorem untripped_eq (v : State) : v.untripped =
    { v with lcu := { v.lcu with faults := v.untripped.lcu.faults }, htu := { v.htu with trip := false } } := by
  unfold State.untripped
  by_cases tripped : v.htu.trip = true
  · simp only [if_pos tripped]
    rfl
  · simp only [if_neg tripped]
    rw [← Bool.eq_false_iff.2 tripped]

/-- R174: below HOLD the trip condition ends. -/
theorem tripEnds {v : State} {old : Grade} (below : v.htu.grade = .normal ∨ v.htu.grade = .slow)
    (tripped : v.htu.trip = true) :
    let t := settle (gradeChanged old v)
    t.htu.trip = false ∧ t.lcu.faults.thermalTrip = false := by
  rw [gradeChanged_below below]
  intro t
  have f := settle_followsUp (leaveThermalHold v.untripped)
  obtain ⟨trip, faults⟩ := untripped_htu v
  refine ⟨?_, ?_⟩
  · rw [f.htu, (inner_leaveThermalHold _).trip, trip]
  · rw [f.lcu]
    rcases (leaveThermalHold_steady v.untripped).2 with same | missing
    · rw [same, faults tripped]
    · rw [missing]
      exact faults tripped

/-- R70, R71: a rise into HOLD. -/
theorem holdEntered {v : State} {old : Grade} (hold : v.htu.grade = .hold) (rises : old.belowHold = true) :
    let t := settle (gradeChanged old v)
    let counted : Prop := t.lcu.thermalStops = min 65535 (v.lcu.thermalStops + 1) ∧
      t.lcu.printing = v.lcu.printing.map fun c => { c with thermalStops := min 65535 (c.thermalStops + 1) }
    (v.lcu.engine = .printing → counted ∧ t.lcu.engine = .printing ∧ t.mtu.source = .decelerate ∧
      t.mtu.motion = v.mtu.motion ∧ t.mtu.ramp = v.mtu.ramp) ∧
    (v.lcu.engine = .stalled → counted ∧ t.lcu.engine = .holding .thermal ∧ t.mtu.motion = v.mtu.motion) := by
  rw [gradeChanged_hold hold rises]
  intro t counted
  have f := settle_followsUp (enterHold v)
  obtain ⟨runOn, mtu⟩ : ∃ b, t.mtu = { (enterHold v).mtu with tailRunOn := b } := ⟨_, f.mtu⟩
  refine ⟨fun printing => ?_, fun stalled => ?_⟩
  · have enters : enterHold v = orderDeceleration (countThermalStop v) := by rw [enterHold, printing]
    have lcu : t.lcu = (countThermalStop v).lcu := by rw [f.lcu, enters]; rfl
    rw [enters] at mtu
    refine ⟨⟨by rw [lcu]; rfl, by rw [lcu]; rfl⟩, by rw [lcu]; exact printing, ?_, ?_, ?_⟩
    · rw [mtu]
      rfl
    · rw [mtu]
      rfl
    · rw [mtu]
      rfl
  · have enters : enterHold v = setEngine (.holding .thermal) (countThermalStop v) := by
      rw [enterHold, stalled]
    have lcu : t.lcu = { (countThermalStop v).lcu with engine := .holding .thermal } := by
      rw [f.lcu, enters, setEngine_lcu]
    rw [enters, setEngine_mtu] at mtu
    refine ⟨⟨by rw [lcu]; rfl, by rw [lcu]; rfl⟩, by rw [lcu], ?_⟩
    rw [mtu]
    rfl

/-- R71: a thermal hold is left while the horizon allows no start. -/
theorem holdLeft_stalls {v : State} {old : Grade} (below : v.htu.grade = .normal ∨ v.htu.grade = .slow)
    (holding : v.lcu.engine = .holding .thermal) (short : ¬ horizonReady v v.cfg.restartRows = true) :
    let t := settle (gradeChanged old v)
    t.lcu.engine = .stalled ∧ t.lcu.printing = v.lcu.printing ∧ t.mtu.motion = v.mtu.motion := by
  rw [gradeChanged_below below]
  have same := untripped_eq v
  generalize v.untripped = w at same
  intro t
  have leaves : leaveThermalHold w = setEngine .stalled w := by
    rw [leaveThermalHold, if_pos, if_neg]
    · rw [same, horizonReady_temperature v w.lcu.faults { v.htu with trip := false } v.seu]
      exact short
    · rw [same]
      exact ⟨holding, (belowHold_iff _).2 below⟩
  have f := settle_followsUp (leaveThermalHold w)
  obtain ⟨runOn, mtu⟩ : ∃ b, t.mtu = { (leaveThermalHold w).mtu with tailRunOn := b } := ⟨_, f.mtu⟩
  rw [leaves, setEngine_mtu, same] at mtu
  have lcu : t.lcu = { w.lcu with engine := .stalled } := by rw [f.lcu, leaves, setEngine_lcu]
  rw [same] at lcu
  exact ⟨by rw [lcu], by rw [lcu], by rw [mtu]⟩

/-- R71: a thermal hold is left for printing. -/
theorem holdLeft_prints {v : State} {old : Grade} (below : v.htu.grade = .normal ∨ v.htu.grade = .slow)
    (holding : v.lcu.engine = .holding .thermal) (ready : horizonReady v v.cfg.restartRows = true)
    (cal : v.msu.cal = none) (head : ∀ e ∈ v.msu.queue.head?, e.tof ≠ v.mtu.position + 1)
    (seek : v.lcu.seek = none)
    (tail : ∀ p, v.lcu.copyTof = some p → linesAhead (v.mtu.position + 1) p < v.cfg.calLimit)
    (length : v.gapped = false → ∀ p, v.lcu.copyTof = some p →
      v.mtu.position + 1 ≠ p + BitVec.ofNat 32 ((v.lcu.printing.map fun c => c.length).getD 0)) :
    let t := settle (gradeChanged old v)
    t.lcu.engine = .printing ∧ t.lcu.printing = v.lcu.printing ∧ t.mtu.source = .horizon ∧
      t.mtu.motion = .forward ∧ t.mtu.ramp = 0 ∧ t.mtu.position = v.mtu.position + 1 ∧
      t.mtu.timer = some { period := v.mtu.ramps.period 0, elapsed := 0 } := by
  rw [gradeChanged_below below]
  have same := untripped_eq v
  generalize v.untripped = w at same
  intro t
  have leaves : leaveThermalHold w = startPrinting w := by
    rw [leaveThermalHold, if_pos, if_pos]
    · rw [same, horizonReady_temperature v w.lcu.faults { v.htu with trip := false } v.seu]
      exact ready
    · rw [same]
      exact ⟨holding, (belowHold_iff _).2 below⟩
  have start : startPrinting w = w.printingFrom.stepped 0 (w.mtu.ramps.period 0) := by
    have printingOf : w.lcu.printing = v.lcu.printing := by rw [same]
    refine startPrinting_eq ?_ ?_ ?_ ?_ ?_ ?_
    · rw [same]
      exact fun printing => Engine.noConfusion (holding.symm.trans printing)
    · rw [same]
      exact cal
    · rw [same]
      exact head
    · rw [same]
      exact seek
    · rw [same]
      exact tail
    · rw [printingOf, same]
      exact length
  obtain ⟨lcu, -, -, mtu, -⟩ := startPrinting_settled start
  rw [← leaves, same] at lcu mtu
  have same' : t = settle (leaveThermalHold w) := rfl
  rw [same', same, lcu, mtu]
  exact ⟨rfl, rfl, rfl, rfl, rfl, rfl, rfl⟩

/-- R172: a sample of code 0 or 255. -/
theorem invalidTaken {s : State} {code : Byte} (settings : s.settings ≠ none) (invalid : code = 0 ∨ code = 255) :
    let t := settle (takeSample code s)
    t.mem = s.mem ∧
    (s.lcu.engine = .unconfigured → ∃ u, FollowsUp u t ∧ u.asu = s.asu ∧ u.bpu = s.bpu ∧ u.mtu = s.mtu ∧
      u.lcu = { s.lcu with faults := u.lcu.faults }) ∧
    t.htu.conversions = s.htu.conversions - 1 ∧
    t.htu.sensorValid = false ∧ t.htu.theta = s.htu.theta ∧ t.htu.grade = s.htu.grade ∧
    (s.htu.sensorValid = true → s.lcu.engine ≠ .unconfigured →
      t.lcu.engine = .faulted ∧ t.lcu.faults.thermSensor = true) ∧
    (s.htu.sensorValid = false → FollowsUp
      { s with htu := { s.htu with conversions := s.htu.conversions - 1 } } t) := by
  rw [takeSample_invalid settings invalid]
  by_cases sensor : s.htu.sensorValid = true
  · rw [if_pos sensor]
    intro t
    have reported := inner_reportFault .thermSensor
      { s with htu := { s.htu with conversions := s.htu.conversions - 1, sensorValid := false } }
    have f := settle_followsUp (reportFault .thermSensor
      { s with htu := { s.htu with conversions := s.htu.conversions - 1, sensorValid := false } })
    refine ⟨f.mem.trans reported.mem, fun unconf => ⟨_, f, ?_⟩, ?_, ?_, ?_, ?_, fun _ engaged => ?_,
      fun lost => absurd sensor (by simp [lost])⟩
    · rw [reportFault_not (faultTaken_unconfigured (by exact unconf))]
      exact ⟨rfl, rfl, rfl, rfl⟩
    · rw [f.htu, reportFault_conversions]
    · rw [f.htu, reported.sensorValid]
    · rw [f.htu, reported.theta]
    · rw [f.htu, reported.grade]
    · by_cases faulted : s.lcu.engine = .faulted
      · obtain ⟨engine, faults, -⟩ := reportFault_again (r := .thermSensor)
          (s := { s with htu := { s.htu with conversions := s.htu.conversions - 1, sensorValid := false } }) faulted
        rw [f.lcu]
        exact ⟨engine, by rw [faults]; rfl⟩
      · have leaves := reportFault_leaves (r := .thermSensor)
          (s := { s with htu := { s.htu with conversions := s.htu.conversions - 1, sensorValid := false } })
          (faultTaken_always rfl engaged) faulted
        exact ⟨leaves.engine, by rw [leaves.faults]; rfl⟩
  · rw [if_neg sensor]
    have f := settle_followsUp { s with htu := { s.htu with conversions := s.htu.conversions - 1 } }
    refine ⟨f.mem, fun _ => ⟨_, f, rfl, rfl, rfl, rfl⟩, by rw [f.htu], ?_, by rw [f.htu], by rw [f.htu],
      fun valid => absurd valid sensor, fun _ => f⟩
    rw [f.htu]
    exact Bool.eq_false_iff.2 sensor

/-- R172, R173: a sample of any other code. -/
theorem validTaken {s : State} {code : Byte} (settings : s.settings ≠ none) (low : code ≠ 0)
    (high : code ≠ 255) :
    let t := settle (takeSample code s)
    let theta := thermistorTheta s.cfg.thermistor code.toNat
    t.mem = s.mem ∧
    (s.lcu.engine = .unconfigured → ∃ u, FollowsUp u t ∧ u.asu = s.asu ∧ u.bpu = s.bpu ∧ u.mtu = s.mtu ∧
      u.lcu = { s.lcu with faults := u.lcu.faults }) ∧
    t.htu.conversions = s.htu.conversions - 1 ∧ t.htu.theta = theta ∧ t.htu.sensorValid = true ∧
    t.seu.band = bandOf theta ∧ t.htu.grade = nextGrade s.cfg theta s.htu.grade ∧
    (s.htu.sensorValid = false → t.lcu.faults.thermSensor = false) := by
  rw [takeSample_valid settings low high]
  intro t theta
  have kept := sampleKept_gradeChanged s.htu.grade (s.sampled theta)
  have f := settle_followsUp (gradeChanged s.htu.grade (s.sampled theta))
  refine ⟨f.mem.trans kept.mem, fun unconf => ⟨_, f, ?_⟩, ?_, ?_, ?_, ?_, ?_, fun lost => ?_⟩
  · obtain ⟨asu, bpu, mtu, lcu⟩ := gradeChanged_unconfigured s.htu.grade (v := s.sampled theta) unconf
    exact ⟨asu, bpu, mtu, lcu⟩
  · rw [f.htu, kept.conversions]
    rfl
  · rw [f.htu, kept.theta]
    rfl
  · rw [f.htu, kept.sensorValid]
    rfl
  · rw [f.seu]
    exact kept.band
  · rw [f.htu, kept.grade]
    rfl
  · rw [f.lcu, kept.sensorFault]
    refine (congrArg FaultSet.thermSensor (if_neg ?_)).trans rfl
    simp [lost]

/-- Settles O49. -/
theorem conversions : Obligations.Conversions := by
  refine ⟨fun s => ⟨fun stopped => ?_, fun runs => ?_⟩, fun code s none_ => ?_, fun code s settings => ?_,
    fun c theta g _ _ => ?_⟩
  · have same : periodicRequest s = s := by rw [periodicRequest, stopped]; rfl
    exact congrArg Host.Outcome.next same
  · exact congrArg Host.Outcome.next (if_pos (Option.isSome_iff_ne_none.2 runs))
  · refine ⟨_, rfl, ?_⟩
    rw [takeSample_none code none_]
    exact settle_followsUp _
  · intro graded
    by_cases invalid : code = 0 ∨ code = 255
    · obtain ⟨mem, unconf, conversions, sensor, theta, grade, fault, known⟩ := invalidTaken settings invalid
      exact ⟨_, rfl, mem, fun not => unconf (not_not.1 not), conversions,
        fun low high => (invalid.elim low high).elim, fun _ => ⟨sensor, theta, grade, fault, known⟩,
        fun low high => (invalid.elim low high).elim⟩
    · obtain ⟨low, high⟩ := not_or.1 invalid
      obtain ⟨mem, unconf, conversions, theta, sensor, band, grade, cleared⟩ := validTaken settings low high
      refine ⟨_, rfl, mem, fun not => unconf (not_not.1 not), conversions, fun _ _ => ?_,
        fun not => absurd not invalid, fun _ _ => ?_⟩
      · dsimp only
        rw [← thermistorTheta_eq]
        exact ⟨theta, sensor, (congrArg Nat.cast band).trans (bandOf_eq _), grade⟩
      · rw [takeSample_valid settings low high] at cleared ⊢
        obtain ⟨v, same⟩ : ∃ v, s.sampled (thermistorTheta s.cfg.thermistor code.toNat) = v := ⟨_, rfl⟩
        rw [same] at cleared ⊢
        intro theta g below reaches counted
        have low_ {x : Grade} (h : below x) : x.belowHold = true := (belowHold_iff x).2 h
        have ready : horizonReady v s.cfg.restartRows = true ↔ reaches := by
          refine (congrArg (· = true) ?_).to_iff.trans (horizonReady_iff s _)
          rw [← same]
          exact horizonReady_temperature s _ _ _ _
        have grade_ : v.htu.grade = g := by rw [← same]; rfl
        have trip_ : v.htu.trip = s.htu.trip := by rw [← same]; rfl
        have mtu_ : v.mtu = s.mtu := by rw [← same]; rfl
        have cfg_ : v.cfg = s.cfg := by rw [← same]; rfl
        have engine_ : v.lcu.engine = s.lcu.engine := by rw [← same]; rfl
        have printing_ : v.lcu.printing = s.lcu.printing := by rw [← same]; rfl
        have stops_ : v.lcu.thermalStops = s.lcu.thermalStops := by rw [← same]; rfl
        have held (hold : g = .hold) (rises : below s.htu.grade) :=
          holdEntered (old := s.htu.grade) (grade_.trans hold) (low_ rises)
        have tripped (trip : g = .trip) (rises : s.htu.grade ≠ .trip) :=
          trips (old := s.htu.grade) (grade_.trans trip) rises
        have ends (falls : below g) (trip : s.htu.trip = true) :=
          tripEnds (old := s.htu.grade) (grade_.symm ▸ falls) (trip_.trans trip)
        have stalls (falls : below g) (holding : s.lcu.engine = .holding .thermal) (short : ¬ reaches) :=
          holdLeft_stalls (old := s.htu.grade) (v := v) (grade_.symm ▸ falls) (engine_.trans holding)
            (by rw [cfg_]; exact mt ready.1 short)
        rw [engine_] at held tripped
        rw [printing_, mtu_] at held stalls
        rw [stops_] at held
        refine ⟨fun hold rises => (held hold rises).1, fun hold rises => (held hold rises).2, cleared,
          fun trip rises => (tripped trip rises).1, fun trip rises => (tripped trip rises).2, ends, stalls, ?_⟩
        intro c falls holding far printing cal seek head tail length
        have left := holdLeft_prints (v := v) (old := s.htu.grade) (grade_.symm ▸ falls) (engine_.trans holding)
          (by rw [cfg_]; exact ready.2 far) (by rw [← same]; exact cal) (by rw [← same]; exact head)
          (by rw [← same]; exact seek) (by rw [← same]; exact tail)
          (by rw [printing_, printing, ← same]; exact length)
        rw [printing_, mtu_] at left
        obtain ⟨engine, copy, rest⟩ := left
        exact ⟨engine, copy.trans printing, rest⟩
  · intro h reached
    obtain ⟨rises, falls⟩ := nextGrade_spec c theta g
    refine ⟨rises, fun low => ?_⟩
    obtain ⟨⟨most, passed⟩, stays⟩ := falls low
    exact ⟨most, stays, passed⟩

/-! ## The head-open switch -/

/-- R164: a sample that changes no debounced state. -/
theorem sampleHead_quiet {s : State} {x : Bool} {m : Msu} (sample : s.msu.sampleSwitch x = (m, false)) :
    sampleHead x s = { s with msu := m } := by
  unfold sampleHead
  simp only [sample]
  rfl

theorem sampleHead_changed {s : State} {x : Bool} {m : Msu} (sample : s.msu.sampleSwitch x = (m, true)) :
    sampleHead x s = headChanged { s with msu := m } := by
  unfold sampleHead
  simp only [sample]
  rfl

theorem sampleSwitch_agrees {m : Msu} {x : Bool} (known : m.switchKnown = true) (same : x = m.headOpen) :
    m.sampleSwitch x = ({ m with headOpen := x, agree := 0, lastSample := some x }, false) := by
  unfold Msu.sampleSwitch
  simp only [known, Bool.not_true, Bool.false_eq_true, if_false, if_pos same]
  rw [same]

theorem sampleSwitch_counts {m : Msu} {x : Bool} (differs : m.switchKnown = true → x ≠ m.headOpen)
    (few : m.agreeing x < 3) :
    m.sampleSwitch x = ({ m with agree := m.agreeing x, lastSample := some x }, false) := by
  unfold Msu.sampleSwitch
  have short : ¬ m.agreeing x ≥ 3 := Nat.not_le.2 few
  cases known : m.switchKnown with
  | false => simp only [Bool.not_false, if_true, if_neg short]
  | true => simp only [Bool.not_true, Bool.false_eq_true, if_false, if_neg (differs known), if_neg short]

theorem sampleSwitch_learns {m : Msu} {x : Bool} (unknown : m.switchKnown = false) (third : m.agreeing x = 3) :
    m.sampleSwitch x =
      ({ m with headOpen := x, switchKnown := true, agree := 0, lastSample := some x }, false) := by
  unfold Msu.sampleSwitch
  simp only [unknown, Bool.not_false, if_true, third, Nat.le_refl, ge_iff_le]

theorem sampleSwitch_changes {m : Msu} {x : Bool} (known : m.switchKnown = true) (differs : x ≠ m.headOpen)
    (third : m.agreeing x = 3) :
    m.sampleSwitch x = ({ m with headOpen := x, agree := 0, lastSample := some x }, true) := by
  unfold Msu.sampleSwitch
  simp only [known, Bool.not_true, Bool.false_eq_true, if_false, if_neg differs, third, Nat.le_refl, ge_iff_le,
    if_true]

theorem cutActive_idle {s : State} (idle : s.hdu.state ≠ .active) : cutActive s = s := if_neg idle

theorem cutActive_eq (s : State) :
    cutActive s = { s with hdu := if s.hdu.state = .active then s.hdu.cut else s.hdu } := by
  unfold cutActive
  split
  · rfl
  · rfl

/-- R74, R165: a closing while engaged. -/
theorem headChanged_closes {s : State} (closed : s.msu.headOpen = false) (engaged : s.lcu.engine ≠ .unconfigured) :
    headChanged s = raise .media Code.headClosed 0 { s with lcu := { s.lcu with faults := { s.lcu.faults with
      headOpen := false
      paperOut := s.lcu.faults.paperOut && !s.lcu.openedSincePaperOut } } } := by
  have clears : clearAtClosing s = { s with lcu := { s.lcu with faults := { s.lcu.faults with
      headOpen := false
      paperOut := s.lcu.faults.paperOut && !s.lcu.openedSincePaperOut } } } := by
    unfold clearAtClosing
    cases s.lcu.openedSincePaperOut with
    | false =>
      simp only [Bool.false_eq_true, if_false, Bool.not_false, Bool.and_true]
      rfl
    | true =>
      simp only [if_true, Bool.not_true, Bool.and_false]
      rfl
  unfold headChanged
  simp only [closed, Bool.false_eq_true, if_false]
  rw [clears]
  exact if_pos ((configured_iff s).2 engaged)

/-- R74, R126, R165: an opening while engaged. -/
theorem headChanged_opens {s : State} (opened : s.msu.headOpen = true) (engaged : s.lcu.engine ≠ .unconfigured) :
    headChanged s = headOpens (noteOpening (cutActive s)) := by
  unfold headChanged
  rw [if_pos opened]
  exact if_pos ((configured_iff s).2 engaged)

theorem headOpens_told {s : State} (untaken : faultTaken .headOpen s = false) :
    headOpens s = raise .media Code.headOpen 0 { s with msu := s.msu.opened s.mtu.position } := by
  unfold headOpens
  simp only [untaken]
  rfl

theorem headOpens_fault {s : State} (taken : faultTaken .headOpen s = true) :
    headOpens s = reportFault .headOpen { s with msu := s.msu.opened s.mtu.position } := by
  unfold headOpens
  simp only [taken]
  rfl

theorem Msu.dropCalibration_switch (m : Msu) :
    m.dropCalibration.headOpen = m.headOpen ∧ (m.valid = false → m.dropCalibration.valid = false) := by
  unfold Msu.dropCalibration
  split
  · exact ⟨rfl, id⟩
  · exact ⟨rfl, fun _ => rfl⟩

/-- R73, R75, R126, R165: an opening in PRINTING, the paper moving. -/
theorem opensPrinting {s : State} (opened : s.msu.headOpen = true) (printing : s.lcu.engine = .printing)
    (moves : s.mtu.motion ≠ .rest) :
    let t := settle (headChanged s)
    t.lcu.engine = .faulted ∧ t.lcu.faults.headOpen = true ∧ t.msu.headOpen = true ∧
      t.msu.valid = false ∧ t.mtu.motion = .rest ∧ t.mtu.ramp = 0 ∧ t.htu.supply = .off ∧
      t.hdu.state = .idle ∧ t.hdu.strobes = List.replicate 8 false ∧
      t.mtu.position = s.mtu.position ∧ t.mem = s.mem ∧
      (t.asu.records.get .fault).pending = true ∧ (t.asu.records.get .fault).code = 4 ∧
      ∀ c, s.lcu.printing = some c → CopySpoiled t c := by
  have engaged : s.lcu.engine ≠ .unconfigured := fun h => Engine.noConfusion (printing.symm.trans h)
  rw [headChanged_opens opened engaged, cutActive_eq]
  generalize (if s.hdu.state = .active then s.hdu.cut else s.hdu) = h
  have taken : faultTaken .headOpen (noteOpening { s with hdu := h }) = true := by
    rw [faultTaken, noteOpening, printing]
  rw [headOpens_fault taken]
  intro t
  have leaves : FaultLeaves _ t .headOpen := reportFault_leaves (r := .headOpen)
    (s := { noteOpening { s with hdu := h } with msu := s.msu.opened s.mtu.position }) taken
    fun faulted => Engine.noConfusion (printing.symm.trans faulted)
  have head : t.msu.headOpen = true ∧ t.msu.valid = false := by
    rw [leaves.msu, if_pos (by exact (moving_iff s).2 moves)]
    obtain ⟨open_, valid⟩ := Msu.dropCalibration_switch { s.msu.opened s.mtu.position with sensing := none }
    exact ⟨open_.trans opened, valid rfl⟩
  obtain ⟨idle, strobes⟩ := leaves.head
  obtain ⟨pending, code⟩ := leaves.event
  exact ⟨leaves.engine, by rw [leaves.faults]; rfl, head.1, head.2, leaves.motion, (leaves.stopped moves).1,
    by rw [leaves.htu]; rfl, idle, strobes, leaves.position, leaves.mem, pending, code,
    fun c own => leaves.spoiled c (by rw [noteOpening, printing]; rfl) own moves⟩

/-- Settles O48. -/
theorem hopenSample : Obligations.HopenSample := by
  intro x s
  refine ⟨fun asserted => congrArg Host.Outcome.next (if_pos asserted), fun released =>
    ⟨settle (sampleHead x s), congrArg Host.Outcome.next (if_neg (by simp [released])), ?_⟩⟩
  intro third n m
  have counted : third → s.msu.agreeing x = 3 := fun ⟨same, two⟩ => by
    rw [Msu.agreeing, if_pos same, two]
  refine ⟨fun known same => ?_, fun differs few => ?_, fun unknown last => ?_, fun known was now last engaged => ?_,
    fun known was now last idle engine => ?_, fun known was now last printing moves => ?_⟩
  · rw [sampleHead_quiet (sampleSwitch_agrees known same)]
    exact settle_followsUp _
  · rw [sampleHead_quiet (sampleSwitch_counts differs few)]
    exact settle_followsUp _
  · rw [sampleHead_quiet (sampleSwitch_learns unknown (counted last))]
    exact settle_followsUp _
  · have sample := sampleSwitch_changes known (by rw [was, now]; decide) (counted last)
    rw [sampleHead_changed sample, headChanged_closes (by exact now) (by exact engaged)]
    exact settle_followsUp _
  · have sample := sampleSwitch_changes known (by rw [was, now]; decide) (counted last)
    have untaken : faultTaken .headOpen (noteOpening { s with msu := m }) = false := by
      rw [faultTaken, noteOpening, engine]
      rfl
    rw [sampleHead_changed sample, headChanged_opens (by exact now) (by rw [engine]; decide),
      cutActive_idle (by exact idle), headOpens_told (by exact untaken)]
    exact settle_followsUp _
  · have sample := sampleSwitch_changes known (by rw [was, now]; decide) (counted last)
    rw [sampleHead_changed sample]
    exact opensPrinting (s := { s with msu := m }) now printing moves

/-! ## A sensed line -/

/-- R151: whether a line of this raw level is GAP, under a known polarity. -/
def Polarity.gapOf (p : Polarity) (high : Bool) : Bool := if p = .gapLow then !high else high

theorem isGap_known {p : Polarity} (known : p ≠ .unknown) (high : Bool) : isGap p high = some (p.gapOf high) := by
  cases p with
  | unknown => exact absurd rfl known
  | gapHigh => rfl
  | gapLow => rfl

/-- R151, R152: the sensing unit after a line at `p` that its level run has taken. -/
def Msu.sensed (m : Msu) (run : LevelRun) (p : Pos) : Msu :=
  { m with sensing := none, senseMark := p + 1, run := some run }

/-- R150: a line behind the sense mark is not taken. -/
theorem senseForward_behind {s : State} {p : Pos} {period : Nat} (a b c : Bool)
    (sensing : s.msu.sensing = some (p, period)) (behind : ahead p s.msu.senseMark < 0) :
    senseForward a b c s = { s with msu := { s.msu with sensing := none } } := by
  have out : sensedNow p s.msu.senseMark = false := by
    simp only [sensedNow, decide_eq_false_iff_not]
    omega
  unfold senseForward
  simp only [sensing, out]
  rfl

theorem senseForward_taken {s : State} {p : Pos} {period : Nat} (a b c : Bool)
    (sensing : s.msu.sensing = some (p, period)) (reached : 0 ≤ ahead p s.msu.senseMark) :
    senseForward a b c s =
      senseLine (majority a b c) p { s with msu := { s.msu with sensing := none, senseMark := p + 1 } } := by
  have taken : sensedNow p s.msu.senseMark = true := decide_eq_true reached
  unfold senseForward
  simp only [sensing, taken]
  rfl

/-- R161: a line in LEARNING. -/
theorem senseLine_learning {s : State} {r : CalRun} (high : Bool) (p : Pos) (cal : s.msu.cal = some r)
    (learning : r.phase = .learning) : senseLine high p s =
      { s with msu := s.msu.learn r (nextRun s.msu.run high p) s.cfg.guardLength } := by
  unfold senseLine
  simp only [cal, if_pos learning]

theorem senseLine_unknown {s : State} (high : Bool) (p : Pos)
    (cal : ∀ r, s.msu.cal = some r → r.phase ≠ .learning) (unknown : s.msu.polarity = .unknown) :
    senseLine high p s = s := by
  unfold senseLine
  cases h : s.msu.cal with
  | none => simp only [unknown, isGap]
  | some r => simp only [if_neg (cal r h), unknown, isGap]

theorem senseLine_known {s : State} (high : Bool) (p : Pos)
    (cal : ∀ r, s.msu.cal = some r → r.phase ≠ .learning) (known : s.msu.polarity ≠ .unknown) :
    senseLine high p s = classedLine (s.msu.polarity.gapOf high) high p s := by
  unfold senseLine
  cases h : s.msu.cal with
  | none => simp only [isGap_known known]
  | some r => simp only [if_neg (cal r h), isGap_known known]

/-! ## The tracker -/

/-- R152: a run that has not come to the guard length now meets no tracker. -/
theorem trackLine_not {s : State} {run : LevelRun} (gap : Bool)
    (not : ¬ (s.gapped = true ∧ run.length = s.cfg.guardLength)) : trackLine gap run s = s :=
  if_neg not

theorem trackLine_none {s : State} {run : LevelRun} {gap : Bool}
    (confirms : s.gapped = true ∧ run.length = s.cfg.guardLength)
    (none_ : s.msu.entryAt s.cfg gap run.first = none) :
    trackLine gap run s = { s with msu := s.msu.confirm gap run.first } := by
  unfold trackLine
  rw [if_pos confirms]
  simp only [none_]

theorem trackLine_some {s : State} {run : LevelRun} {gap : Bool} {e : Edge}
    (confirms : s.gapped = true ∧ run.length = s.cfg.guardLength)
    (some_ : s.msu.entryAt s.cfg gap run.first = some e) :
    trackLine gap run s = offerEdge e { s with msu := s.msu.confirm gap run.first } := by
  unfold trackLine
  rw [if_pos confirms]
  simp only [some_]

/-- R152: a confirmation that changes nothing. -/
theorem confirm_again {m : Msu} {gap : Bool} (q : Pos) (c : Settings)
    (again : (m.phase = .body ∧ gap = false) ∨ (m.phase = .gap ∧ gap = true)) :
    m.confirm gap q = m ∧ m.entryAt c gap q = none := by
  unfold Msu.confirm Msu.entryAt
  rcases again with ⟨phase, rfl⟩ | ⟨phase, rfl⟩
  · simp only [phase, and_self]
  · simp only [phase, and_self]

theorem confirm_start {m : Msu} (q : Pos) (c : Settings) (start : m.phase = .start) :
    m.confirm false q = { m with phase := .body } ∧
    m.confirm true q =
      { m with phase := .gap, openGap := some { edge := q, exact := false, pitch := 0 } } ∧
    ∀ gap, m.entryAt c gap q = none := by
  unfold Msu.confirm Msu.entryAt
  simp only [start, implies_true, and_self]

theorem confirm_gap {m : Msu} (q : Pos) (c : Settings) (body : m.phase = .body) :
    m.confirm true q =
      { m with phase := .gap, refEdge := some q
               openGap := some { edge := q, exact := true, pitch := gapPitch m.refEdge q } } ∧
    m.entryAt c true q = none := by
  unfold Msu.confirm Msu.entryAt
  simp only [body, and_self]

/-- R153: the entry of a confirmed body. -/
def Settings.entryFor (c : Settings) (g : OpenGap) (q : Pos) : Edge :=
  { tof := q + BitVec.ofNat 32 (c.sensorDistance + c.tofAdjust)
    gap := min 65535 (linesAhead q g.edge), pitch := g.pitch }

theorem confirm_body {m : Msu} {g : OpenGap} (q : Pos) (c : Settings) (gap : m.phase = .gap)
    (open_ : m.openGap = some g) :
    m.confirm false q = { m with phase := .body, openGap := none } ∧
    m.entryAt c false q = some (c.entryFor g q) := by
  unfold Msu.confirm Msu.entryAt
  simp only [gap, open_]
  exact ⟨trivial, rfl⟩

/-! ## The checks -/

theorem checkPaperOut_not {s : State} {run : LevelRun} {gap : Bool}
    (not : ¬ (gap = true ∧ s.cfg.maxGap ≠ 0 ∧ run.length = s.cfg.maxGap)) : checkPaperOut gap run s = s :=
  if_neg not

theorem checkPaperOut_due {s : State} {run : LevelRun} {gap : Bool}
    (due : gap = true ∧ s.cfg.maxGap ≠ 0 ∧ run.length = s.cfg.maxGap) :
    checkPaperOut gap run s = reportFault .paperOut (loseRegistration 1 s) :=
  if_pos due

theorem checkGapMissing_not {s : State} {run : LevelRun} {gap : Bool}
    (not : ¬ (gap = false ∧ s.gapped = true ∧ s.cfg.maxPitch ≠ 0 ∧ s.lcu.engine = .printing ∧
      s.cfg.maxPitch ≤ run.length ∧ run.reported = false)) : checkGapMissing gap run s = s := by
  unfold checkGapMissing
  exact if_neg (by simpa using not)

theorem checkGapMissing_due {s : State} {run : LevelRun} {gap : Bool}
    (due : gap = false ∧ s.gapped = true ∧ s.cfg.maxPitch ≠ 0 ∧ s.lcu.engine = .printing ∧
      s.cfg.maxPitch ≤ run.length ∧ run.reported = false) : checkGapMissing gap run s =
      reportFault .gapMissing { s with msu := { s.msu with run := some { run with reported := true } } } := by
  unfold checkGapMissing
  exact if_pos (by simpa using due)

/-! ## An entry that is offered -/

theorem offerEdge_behind {e : Edge} {s : State} (behind : ahead e.tof s.mtu.position < 1) : offerEdge e s = s :=
  if_pos behind

theorem offerEdge_joins {e : Edge} {s : State} (lies : 1 ≤ ahead e.tof s.mtu.position)
    (room : s.msu.queue.length < 16) : offerEdge e s = giveSeekTarget e.tof (joinEdge e s) := by
  unfold offerEdge
  rw [if_neg (by omega), if_pos (by exact room)]

theorem offerEdge_overflows {e : Edge} {s : State} (lies : 1 ≤ ahead e.tof s.mtu.position)
    (full : 16 ≤ s.msu.queue.length) : offerEdge e s = reportOverflow (overflowEdges e s) := by
  unfold offerEdge
  rw [if_neg (by omega), if_neg (by exact Nat.not_lt.2 full)]

/-- R176: what an event does, course and motion do not decide. -/
theorem raise_of_course (n : Source) (code : Nat) (arg : BitVec 16) (s : State) (l : Lcu) (m : Mtu)
    (same : l.engine = s.lcu.engine) : raise n code arg { s with lcu := l, mtu := m } =
      { raise n code arg s with lcu := l, mtu := m } := by
  have offer (r : PerSource SourceRecord) :
      offerOf { s with lcu := l, mtu := m, asu := { s.asu with records := r } } =
        offerOf { s with asu := { s.asu with records := r } } := by
    unfold offerOf State.configured
    simp only [same]
  unfold raise recomputeOffer
  simp only [offer]
  split
  · unfold requestVector
    split <;> rfl
  · rfl

/-- R154, R162: an entry joins the edge queue. -/
def State.joined (s : State) (e : Edge) : State := { s with
  msu := { s.msu with
    queue := s.msu.queue ++ [e], lastPitch := e.pitch, valid := true
    cal := s.msu.cal.map fun r => r.measure e }
  mtu := if measuresNow s.msu e then
      { s.mtu with source := .distance (.at (e.tof + BitVec.ofNat 32 s.cfg.presentOffset)) }
    else s.mtu }

theorem joinEdge_eq (e : Edge) (s : State) : joinEdge e s =
    if pitchMismatch s e then raise .media Code.pitchMismatch (argOf e.pitch) (s.joined e) else s.joined e := by
  have joined : joinEdge e s = if pitchMismatch s e then raise .media Code.pitchMismatch (argOf e.pitch)
      (if measuresNow s.msu e then { s.joined e with mtu := { s.mtu with
        source := .distance (.at (e.tof + BitVec.ofNat 32 s.cfg.presentOffset)) } }
      else { s.joined e with mtu := s.mtu })
      else (if measuresNow s.msu e then { s.joined e with mtu := { s.mtu with
        source := .distance (.at (e.tof + BitVec.ofNat 32 s.cfg.presentOffset)) } }
      else { s.joined e with mtu := s.mtu }) := rfl
  have motion : (if measuresNow s.msu e then { s.joined e with mtu := { s.mtu with
        source := .distance (.at (e.tof + BitVec.ofNat 32 s.cfg.presentOffset)) } }
      else { s.joined e with mtu := s.mtu }) = s.joined e := by
    unfold State.joined
    split <;> rfl
  rw [joined, motion]

/-- R154: the pitch of an entry is off. -/
theorem pitchMismatch_iff {s : State} {e : Edge} : pitchMismatch s e = true ↔ s.msu.cal = none ∧
    0 < e.pitch ∧ 0 < s.msu.calPitch ∧ (e.pitch + s.cfg.pitchTolerance < s.msu.calPitch ∨
      s.msu.calPitch + s.cfg.pitchTolerance < e.pitch) := by
  have off : s.cfg.pitchTolerance < pitchDiff e.pitch s.msu.calPitch ↔
      (e.pitch + s.cfg.pitchTolerance < s.msu.calPitch ∨ s.msu.calPitch + s.cfg.pitchTolerance < e.pitch) := by
    unfold pitchDiff
    omega
  unfold pitchMismatch
  simp only [Bool.and_eq_true, decide_eq_true_eq, Option.isNone_iff_eq_none, off, and_assoc]

theorem giveSeekTarget_none {s : State} (tof : Pos) (seek : ∀ k, s.lcu.seek = some k → k.target ≠ none) :
    giveSeekTarget tof s = s := by
  unfold giveSeekTarget
  split
  next k h => exact if_neg (by simpa using seek k h)
  · rfl

theorem giveSeekTarget_given {s : State} {start : Pos} (tof : Pos)
    (seek : s.lcu.seek = some { start := start, target := none }) : giveSeekTarget tof s = { s with
      lcu := { s.lcu with seek := some { start := start, target := some tof } }
      mtu := { s.mtu with source := .distance (.at tof) } } := by
  unfold giveSeekTarget
  simp only [seek]
  rfl

/-- R150 to R153: a line that joins a level run. -/
theorem senseForward_classed {s : State} {p : Pos} {period : Nat} (a b c : Bool)
    (sensing : s.msu.sensing = some (p, period)) (reached : 0 ≤ ahead p s.msu.senseMark)
    (cal : ∀ r, s.msu.cal = some r → r.phase ≠ .learning) (known : s.msu.polarity ≠ .unknown) :
    senseForward a b c s =
      checkGapMissing (s.msu.polarity.gapOf (majority a b c)) (nextRun s.msu.run (majority a b c) p)
        (checkPaperOut (s.msu.polarity.gapOf (majority a b c)) (nextRun s.msu.run (majority a b c) p)
          (trackLine (s.msu.polarity.gapOf (majority a b c)) (nextRun s.msu.run (majority a b c) p)
            { s with msu := s.msu.sensed (nextRun s.msu.run (majority a b c) p) p })) := by
  rw [senseForward_taken a b c sensing reached, senseLine_known _ _ (by exact cal) (by exact known)]
  rfl

/-! ## The choice of the next state -/

theorem chooseNext_paused {s : State} (latch : s.lcu.pauseLatch = true) :
    chooseNext s = setEngine (.holding .pause) (endCourse (releaseCopy s)) :=
  if_pos latch

theorem chooseNext_arms {s : State} {c : Context} (latch : s.lcu.pauseLatch = false)
    (printing : s.lcu.printing = some c) : chooseNext s = enterArming (endCourse (releaseCopy s)) := by
  have next_ : (endCourse (releaseCopy s)).lcu.pauseLatch = false ∧
      (endCourse (releaseCopy s)).lcu.printing.isSome = true := ⟨latch, by
    show s.lcu.printing.isSome = true
    rw [printing]
    rfl⟩
  unfold chooseNext
  simp only [next_]
  rfl

theorem chooseNext_empty {s : State} (latch : s.lcu.pauseLatch = false) (printing : s.lcu.printing = none)
    (ready : operationReady (endCourse (releaseCopy s)) = none) :
    chooseNext s = setEngine .idle (endCourse (releaseCopy s)) := by
  have next_ : (endCourse (releaseCopy s)).lcu.pauseLatch = false ∧
      (endCourse (releaseCopy s)).lcu.printing.isSome = false := ⟨latch, by
    show s.lcu.printing.isSome = false
    rw [printing]
    rfl⟩
  unfold chooseNext
  simp only [next_, ready]
  rfl

/-- R49: no operation waits in the output hold. -/
theorem operationReady_none {s : State} (feed : ∀ i n, s.rrd.hold ≠ some (.feed i n))
    (calibrate : ∀ i, s.rrd.hold ≠ some (.calibrate i)) : operationReady s = none := by
  unfold operationReady
  split
  · split
    next i n h => exact absurd h (feed i n)
    next i h => exact absurd h (calibrate i)
    · rfl
  · rfl

/-! ## The edge overflow -/

theorem overflowEdges_eq (e : Edge) (s : State) : overflowEdges e s =
    raise .media Code.edgeOverflow (e.tof.truncate 16) { s with msu := s.msu.lose } := by
  have arg : argOf e.tof.toNat = e.tof.truncate 16 := by
    apply BitVec.eq_of_toNat_eq
    simp [argOf]
  rw [overflowEdges, arg]

theorem reportOverflow_told {s : State} (engine : s.lcu.engine.inCopy = false) (seek : s.lcu.seek = none) :
    reportOverflow s = s := by
  unfold reportOverflow
  simp only [engine, seek, Bool.and_false, Bool.false_eq_true, if_false]

/-- R66, R76: a seek goes on without a target. -/
theorem reportOverflow_seek {s : State} {k : SeekRun} (engine : s.lcu.engine.inCopy = false)
    (seek : s.lcu.seek = some k) (near : linesAhead s.mtu.position k.start < s.cfg.calLimit) :
    reportOverflow s = { s with
      lcu := { s.lcu with seek := some { k with target := none } }
      mtu := { s.mtu with source := .distance .renewed } } := by
  have quiet : judgeLimits { s with
      lcu := { s.lcu with seek := some { k with target := none } }
      mtu := { s.mtu with source := .distance .renewed } } = { s with
      lcu := { s.lcu with seek := some { k with target := none } }
      mtu := { s.mtu with source := .distance .renewed } } := by
    refine judgeLimits_quiet (fun j same _ => ?_) fun printing => ?_
    · obtain rfl := Option.some.inj same
      exact near
    · have printing_ : s.lcu.engine = .printing := printing
      rw [printing_] at engine
      exact nomatch engine
  unfold reportOverflow
  simp only [engine, seek, Bool.and_false, Bool.false_eq_true, if_false]
  exact quiet

theorem reportOverflow_copy {s : State} (gapped : s.gapped = true) (engine : s.lcu.engine.inCopy = true) :
    reportOverflow s = if s.moving then enterPresentingStop (spoilCopy s) else chooseNext (spoilCopy s) := by
  unfold reportOverflow
  rw [if_pos (by rw [gapped, engine]; rfl)]

/-- R69: an entry into PRESENTING(STOP) with no step and no stop waiting. -/
theorem enterPresentingStop_eq {s : State} (differs : s.lcu.engine ≠ .presenting .stop)
    (stopping : s.mtu.stopping = none) (latch : s.mtu.latch = none) : enterPresentingStop s =
      { s with
        bpu := { s.bpu with waiting := withRefresh s.bpu.waiting }
        lcu := { s.lcu with
          engine := .presenting .stop, copyTof := none, started := false, seek := none, presentTof := none
          armCancelled := false, restTof := none }
        mtu := { s.mtu with source := .decelerate }, hdu := s.hdu.cut } := by
  have plain : setEngine (.presenting .stop) (endCourse (releaseCopy s)) =
      requestRefresh { s with lcu := { s.lcu with
        engine := .presenting .stop, copyTof := none, started := false, seek := none, presentTof := none
        armCancelled := false } } := setEngine_plain (s := endCourse (releaseCopy s)) differs rfl
  unfold enterPresentingStop
  rw [plain, requestRefresh_eq]
  exact lineEnded_none (by exact stopping) (by exact latch)

/-- R75, R76: an edge overflow in PRINTING. -/
theorem overflowStops {s : State} {c : Context} (gapped : s.gapped = true) (engine : s.lcu.engine = .printing)
    (printing : s.lcu.printing = some c) (motion : s.mtu.motion = .forward) (stopping : s.mtu.stopping = none)
    (latch : s.mtu.latch = none) :
    (reportOverflow s).lcu.engine = .presenting .stop ∧
    let t := settle (reportOverflow s)
    t.lcu.engine = .presenting .stop ∧ CopySpoiled t c ∧ t.msu = s.msu ∧ t.mtu.source = .decelerate ∧
      t.mtu.motion = .forward ∧ t.mtu.position = s.mtu.position ∧ t.hdu.state = .idle ∧
      t.hdu.strobes = List.replicate 8 false ∧ t.htu = s.htu ∧
      t.asu.records.get .media = s.asu.records.get .media := by
  have moves : s.moving = true := (moving_iff s).2 (by rw [motion]; decide)
  have stop := enterPresentingStop_eq (s := spoilCopy s) (by rw [spoilCopy_lcu printing, engine]; decide)
    (by rw [spoilCopy_mtu]; exact stopping) (by rw [spoilCopy_mtu]; exact latch)
  have units : reportOverflow s = enterPresentingStop (spoilCopy s) := by
    rw [reportOverflow_copy gapped (by rw [engine]; rfl), if_pos moves]
  rw [units]
  have f := settle_followsUp (enterPresentingStop (spoilCopy s))
  obtain ⟨runOn, mtu⟩ : ∃ b, (settle (enterPresentingStop (spoilCopy s))).mtu =
    { (enterPresentingStop (spoilCopy s)).mtu with tailRunOn := b } := ⟨_, f.mtu⟩
  obtain ⟨time, hdu⟩ : ∃ n, (settle (enterPresentingStop (spoilCopy s))).hdu =
    { (enterPresentingStop (spoilCopy s)).hdu with forecastTime := n } := ⟨_, f.hdu⟩
  have lcu := congrArg State.lcu stop
  refine ⟨by rw [lcu], by rw [f.lcu, lcu], ?_, ?_, ?_, ?_, ?_, ?_, ?_, ?_, ?_⟩
  · refine copySpoiled_of printing f ⟨?_, ?_, ?_, ?_, ?_⟩ ?_ ?_
    · rw [lcu]
    · rw [lcu, spoilCopy_lcu printing]
    · rw [lcu]
    · rw [lcu]
    · rw [lcu]
    · rw [stop]
    · have same : (enterPresentingStop (spoilCopy s)).rrd = (spoilCopy s).rrd := by
        rw [stop]
      rw [same]
      exact ⟨rfl, rfl, rfl, rfl, rfl⟩
  · rw [f.msu, stop]
    dsimp only
    rw [spoilCopy_msu]
  · rw [mtu, stop]
  · rw [mtu, stop]
    dsimp only
    rw [spoilCopy_mtu, motion]
  · rw [mtu, stop]
    dsimp only
    rw [spoilCopy_mtu]
  · rw [hdu, stop]
    rfl
  · rw [hdu, stop]
    rfl
  · rw [f.htu, stop]
    dsimp only
    rw [spoilCopy_htu]
  · rw [settle_record (by decide) (by decide), stop]
    dsimp only
    rw [spoilCopy_asu]

/-- R64, R75, R76: an edge overflow at the rest of a copy, under the pause latch. -/
theorem overflowHolds {s : State} {c : Context} (gapped : s.gapped = true)
    (engine : s.lcu.engine = .stalled ∨ s.lcu.engine = .holding .thermal)
    (printing : s.lcu.printing = some c) (motion : s.mtu.motion = .rest) (paused : s.lcu.pauseLatch = true)
    (restTof : s.lcu.restTof = none) :
    (reportOverflow s).lcu.engine = .holding .pause ∧
    let t := settle (reportOverflow s)
    t.lcu.engine = .holding .pause ∧ CopySpoiled t c ∧ t.msu = s.msu ∧ t.mtu.motion = .rest := by
  have still : ¬ s.moving = true := fun moves => (moving_iff s).1 moves motion
  have copy : s.lcu.engine.inCopy = true := by rcases engine with h | h <;> rw [h] <;> rfl
  have units : reportOverflow s = setEngine (.holding .pause) (endCourse (releaseCopy (spoilCopy s))) := by
    rw [reportOverflow_copy gapped copy, if_neg still, chooseNext_paused]
    rw [spoilCopy_lcu printing]
    exact paused
  rw [units]
  have f := settle_followsUp (setEngine (.holding .pause) (endCourse (releaseCopy (spoilCopy s))))
  obtain ⟨runOn, mtu⟩ : ∃ b, (settle (setEngine (.holding .pause) (endCourse (releaseCopy (spoilCopy s))))).mtu =
    { (setEngine (.holding .pause) (endCourse (releaseCopy (spoilCopy s)))).mtu with tailRunOn := b } :=
    ⟨_, f.mtu⟩
  have lcu := setEngine_lcu (.holding .pause) (endCourse (releaseCopy (spoilCopy s)))
  refine ⟨by rw [lcu], by rw [f.lcu, lcu], ?_, ?_, ?_⟩
  · refine copySpoiled_of printing f ⟨?_, ?_, ?_, ?_, ?_⟩ ?_ ?_
    · rw [lcu]
      rfl
    · rw [lcu]
      exact (congrArg (fun l : Lcu => l.staged) (spoilCopy_lcu printing)).trans rfl
    · rw [lcu]
      rfl
    · rw [lcu]
      rfl
    · rw [lcu]
      exact (congrArg (fun l : Lcu => l.restTof) (spoilCopy_lcu printing)).trans restTof
    · rw [setEngine_rsu]
      rfl
    · rw [setEngine_rrd]
      exact ⟨rfl, rfl, rfl, rfl, rfl⟩
  · rw [f.msu, setEngine_msu]
    exact spoilCopy_msu s
  · rw [mtu, setEngine_mtu]
    exact (congrArg (fun m : Mtu => m.motion) (spoilCopy_mtu s)).trans motion

theorem nextRun_high (run : Option LevelRun) (high : Bool) (p : Pos) : (nextRun run high p).high = high := by
  unfold nextRun
  split
  · split
    next same => exact same
    · rfl
  · rfl

/-- R161: a line in LEARNING, by the length of its run. -/
theorem learn_cases {m : Msu} {r : CalRun} {run : LevelRun} (guard : Nat) :
    (run.length ≠ 2 * guard → m.learn r run guard = { m with run := some run }) ∧
    (run.length = 2 * guard → m.learn r run guard =
      { m with run := some run, polarity := if run.high then .gapLow else .gapHigh, phase := .body
               cal := some { r with phase := .measuring } }) :=
  ⟨fun other => if_neg other, fun twice => if_pos twice⟩

/-- R150 to R153: what a classed line does where no check is due. -/
theorem classed_unchecked {s : State} {run : LevelRun} {gap : Bool}
    (noGap : ¬ (gap = true ∧ s.cfg.maxGap ≠ 0 ∧ run.length = s.cfg.maxGap))
    (noBody : ¬ (gap = false ∧ s.gapped = true ∧ s.cfg.maxPitch ≠ 0 ∧ s.lcu.engine = .printing ∧
      s.cfg.maxPitch ≤ run.length ∧ run.reported = false)) :
    checkGapMissing gap run (checkPaperOut gap run s) = s := by
  rw [checkPaperOut_not noGap, checkGapMissing_not noBody]

/-- R66: a target given to a seek leaves the engine and the settings. -/
theorem giveSeekTarget_kept (tof : Pos) (s : State) : (giveSeekTarget tof s).lcu.engine = s.lcu.engine ∧
    (giveSeekTarget tof s).settings = s.settings := by
  unfold giveSeekTarget
  split
  · split <;> exact ⟨rfl, rfl⟩
  · exact ⟨rfl, rfl⟩

/-- R66, R176: an event does not decide a seek's target. -/
theorem giveSeekTarget_raise (tof : Pos) (n : Source) (code : Nat) (arg : BitVec 16) (s : State) :
    giveSeekTarget tof (raise n code arg s) = raise n code arg (giveSeekTarget tof s) := by
  cases seek : s.lcu.seek with
  | none =>
    have untold {u : State} (h : u.lcu.seek = none) : giveSeekTarget tof u = u :=
      giveSeekTarget_none tof fun k same => by rw [h] at same; exact nomatch same
    rw [untold seek, untold (by rw [raise_lcu]; exact seek)]
  | some k =>
    obtain ⟨start, target⟩ := k
    cases target with
    | none =>
      rw [giveSeekTarget_given tof seek, giveSeekTarget_given (start := start) tof (by rw [raise_lcu]; exact seek),
        raise_lcu, raise_mtu]
      exact (raise_of_course n code arg s { s.lcu with seek := some { start := start, target := some tof } }
        { s.mtu with source := .distance (.at tof) } rfl).symm
    | some q =>
      have known {u : State} (h : u.lcu.seek = some { start := start, target := some q }) :
          giveSeekTarget tof u = u := giveSeekTarget_none tof fun k same => by
        rw [h] at same
        rw [← Option.some.inj same]
        exact nofun
      rw [known seek, known (by rw [raise_lcu]; exact seek)]

/-- R154: what an entry that joins with no calibration run under way leaves. -/
theorem joined_uncalibrated {s : State} (e : Edge) (cal : s.msu.cal = none) : s.joined e =
    { s with msu := { s.msu with queue := s.msu.queue ++ [e], lastPitch := e.pitch, valid := true } } := by
  have still : measuresNow s.msu e = false := by
    unfold measuresNow
    rw [cal]
  unfold State.joined
  simp only [still, cal]
  rfl

/-- R162: what an entry that joins during a calibration run leaves. -/
theorem joined_calibrating {s : State} {r : CalRun} (e : Edge) (cal : s.msu.cal = some r) :
    (r.phase = .measuring → 0 < e.pitch → s.joined e = { s with
      msu := { s.msu with
        queue := s.msu.queue ++ [e], lastPitch := e.pitch, valid := true
        cal := some { r with phase := .finishing, measured := some e } }
      mtu := { s.mtu with source := .distance (.at (e.tof + BitVec.ofNat 32 s.cfg.presentOffset)) } }) ∧
    (r.phase ≠ .measuring ∨ e.pitch = 0 → s.joined e =
      { s with msu := { s.msu with queue := s.msu.queue ++ [e], lastPitch := e.pitch, valid := true } }) := by
  refine ⟨fun measuring exact_ => ?_, fun other => ?_⟩
  · have now : measuresNow s.msu e = true := by
      unfold measuresNow
      rw [cal]
      simp [measuring, exact_]
    have measured : r.measure e = { r with phase := .finishing, measured := some e } :=
      if_pos ⟨measuring, exact_⟩
    unfold State.joined
    simp only [now, cal, Option.map_some, measured]
    rfl
  · have still : measuresNow s.msu e = false := by
      unfold measuresNow
      rw [cal]
      simp only [Bool.and_eq_false_iff, beq_eq_false_iff_ne, ne_eq, decide_eq_false_iff_not, Nat.not_lt,
        Nat.le_zero]
      exact other
    have same : r.measure e = r := if_neg fun h => other.elim (· h.1) fun zero => by omega
    unfold State.joined
    simp only [still, cal, Option.map_some, same]
    rw [← cal]
    rfl

/-- R152: a run that confirms nothing new. -/
theorem trackLine_kept {s : State} {run : LevelRun} {gap : Bool}
    (kept : ¬ (s.gapped = true ∧ run.length = s.cfg.guardLength) ∨ (s.msu.phase = .body ∧ gap = false) ∨
      (s.msu.phase = .gap ∧ gap = true)) : trackLine gap run s = s := by
  by_cases confirms : s.gapped = true ∧ run.length = s.cfg.guardLength
  · obtain ⟨same, none_⟩ := confirm_again run.first s.cfg (kept.resolve_left (not_not.2 confirms))
    rw [trackLine_none confirms none_, same]
  · exact trackLine_not gap confirms

/-- R73, R145: a fault taken with the paper moving, by the units that stood before. -/
theorem faultStops_of {s v t : State} {r : FaultReason} (leaves : FaultLeaves v t r)
    (faults : v.lcu.faults = s.lcu.faults) (mtu : v.mtu = s.mtu) (mem : v.mem = s.mem)
    (moves : s.mtu.motion ≠ .rest) : FaultStops s t r := by
  have moves_ : v.mtu.motion ≠ .rest := by rw [mtu]; exact moves
  obtain ⟨ramp, timer⟩ := leaves.stopped moves_
  obtain ⟨idle, strobes⟩ := leaves.head
  exact ⟨leaves.engine, by rw [leaves.faults, faults], leaves.restTof moves_, leaves.motion, ramp, timer,
    by rw [leaves.position, mtu], by rw [leaves.htu]; rfl, idle, strobes, leaves.mem.trans mem,
    leaves.event⟩

/-- R73: with the paper moving a reason is taken in every state of motion. -/
theorem faultTaken_moving {s : State} {e : Engine} (r : FaultReason) (engine : s.lcu.engine = e)
    (moves : s.mtu.motion ≠ .rest) (listed : e ∈ [Engine.arming, .seeking, .printing, .presenting .atEnd,
      .presenting .stop, .feeding, .calibrating .item, .calibrating .arming]) :
    faultTaken r s = true ∧ s.lcu.engine ≠ .faulted := by
  have moving : s.moving = true := (moving_iff s).2 moves
  unfold faultTaken
  rw [engine]
  fin_cases listed <;> simp [moving]

theorem loseRegistration_media (n : Nat) (s : State) :
    (s.msu.valid = true → (loseRegistration n s).asu.records.get .media =
      (s.asu.records.get .media).record Code.regLost (argOf n)) ∧
    (s.msu.valid = false → (loseRegistration n s).asu.records.get .media = s.asu.records.get .media) := by
  unfold loseRegistration raiseRegLost
  refine ⟨fun valid => ?_, fun lost => ?_⟩
  · rw [if_pos valid, raise_records, PerSource.get_set]
  · rw [lost]
    rfl

theorem loseRegistration_units (n : Nat) (s : State) : (loseRegistration n s).lcu = s.lcu ∧
    (loseRegistration n s).mtu = s.mtu ∧ (loseRegistration n s).mem = s.mem ∧
    (loseRegistration n s).msu = s.msu.loseAndEmpty ∧ (loseRegistration n s).htu = s.htu := by
  unfold loseRegistration raiseRegLost
  split
  · simp only [raise_lcu, raise_mtu, raise_mem, raise_msu, raise_htu, and_self]
  · exact ⟨rfl, rfl, rfl, rfl, rfl⟩

theorem inCopy_false {e : Engine} (printing : e ≠ .printing) (stalled : e ≠ .stalled)
    (holding : e ≠ .holding .thermal) : e.inCopy = false := by
  cases e with
  | printing => exact absurd rfl printing
  | stalled => exact absurd rfl stalled
  | holding r =>
    cases r with
    | thermal => exact absurd rfl holding
    | pause => rfl
  | _ => rfl

/-! ## Calibration runs -/

theorem finishOperation_rrd_some {s : State} {o : Operation} (r : ItemResult) (operation : s.lcu.operation = some o) :
    (finishOperation r s).rrd = { s.rrd with table := s.rrd.table.map fun e : ItemEntry =>
        if e.index = o.index then { e.ends r with byte13 := 0 } else e } := by
  unfold finishOperation
  simp only [operation]
  rfl

theorem failCalibration_course (r : CalRun) (s : State) :
    (failCalibration r s).lcu = (if s.lcu.engine = .calibrating .arming then { s.lcu with pauseLatch := true }
      else { s.lcu with operation := none }) := by
  have told : (s.failTold r).lcu = s.lcu := by
    rw [State.failTold, requestRefresh_lcu, raise_lcu]
  rw [failCalibration_eq]
  split
  · rw [orderDeceleration, told]
  · rw [orderDeceleration, finishOperation_lcu, told]

/-- R161: a forward step of a calibration run, counted. -/
def State.calStepped (s : State) (r : CalRun) (index period : Nat) : State :=
  { s.stepped index period with msu :=
    { s.msu with cal := some r.counted, sensing := some (s.mtu.position, period) } }

/-- R161, R163: a step of a calibration run. -/
theorem forwardStep_calibrating {s : State} {r : CalRun} {why : CalReason} (index period : Nat)
    (engine : s.lcu.engine = .calibrating why) (cal : s.msu.cal = some r) (seek : s.lcu.seek = none)
    (head : ∀ e ∈ s.msu.queue.head?, e.tof ≠ s.mtu.position + 1) :
    forwardStep index period s =
      if r.counted.atLimit s.cfg.calLimit then failCalibration r (s.calStepped r index period)
      else s.calStepped r index period := by
  have reached : reachTof (s.stepped index period) = s.stepped index period :=
    reachTof_none (by rw [stepped_msu, stepped_mtu]; exact head)
  have counted : countCalibration (s.stepped index period) =
      if r.counted.atLimit s.cfg.calLimit then failCalibration r (s.calStepped r index period)
      else s.calStepped r index period := by
    have run : (s.stepped index period).msu.cal = some r := by rw [stepped_msu]; exact cal
    unfold countCalibration State.calStepped
    rw [run]
    simp only [cfg_congr (stepped_settings s index period), stepped_msu]
  have lcu : (countCalibration (s.stepped index period)).lcu.engine = .calibrating why ∧
      (countCalibration (s.stepped index period)).lcu.seek = none := by
    have stepped : (s.calStepped r index period).lcu = s.lcu := stepped_lcu s index period
    rw [counted]
    split
    · rw [failCalibration_course, stepped]
      split <;> exact ⟨engine, seek⟩
    · rw [stepped]
      exact ⟨engine, seek⟩
  have step_ : forwardStep index period s = judgeLimits (judgeCopyEnd (reachesTof (s.stepped index period))
      (countCalibration (reachTof (s.stepped index period)))) := rfl
  have noEnd (b : Bool) : judgeCopyEnd b (countCalibration (s.stepped index period)) =
      countCalibration (s.stepped index period) := by
    refine if_neg ?_
    unfold atCopyEnd
    rw [lcu.1]
    exact Bool.false_ne_true
  rw [step_, reached, noEnd, ← counted]
  refine judgeLimits_quiet (fun k same => ?_) fun printing => ?_
  · rw [lcu.2] at same
    exact nomatch same
  · rw [lcu.1] at printing
    exact nomatch printing

theorem atLimit_iff (r : CalRun) (limit : Nat) : r.counted.atLimit limit = true ↔
    r.phase ≠ .finishing ∧ limit ≤ min 65535 (r.count + 1) := by
  simp [CalRun.atLimit, CalRun.counted, satSucc, satAdd]

/-- R163: what a failed calibration run does to the units. -/
theorem failCalibration_units (r : CalRun) (s : State) :
    (failCalibration r s).mtu = { s.mtu with source := .decelerate } ∧ (failCalibration r s).htu = s.htu ∧
      (failCalibration r s).msu = s.msu.dropCalibration ∧
      (failCalibration r s).asu.records.get .media =
        (s.asu.records.get .media).record Code.calFailed (argOf r.phase.failArg) := by
  have mtu : (s.failTold r).mtu = s.mtu := by rw [State.failTold, requestRefresh_mtu, raise_mtu]
  have htu : (s.failTold r).htu = s.htu := by rw [State.failTold, requestRefresh_htu, raise_htu]
  have msu : (s.failTold r).msu = s.msu.dropCalibration := by
    rw [State.failTold, requestRefresh_msu, raise_msu]
  have media : (s.failTold r).asu.records.get .media =
      (s.asu.records.get .media).record Code.calFailed (argOf r.phase.failArg) := by
    rw [State.failTold, requestRefresh_asu, raise_records, PerSource.get_set]
  rw [failCalibration_eq]
  split
  · exact ⟨by rw [orderDeceleration, mtu], htu, msu, media⟩
  · refine ⟨?_, ?_, ?_, ?_⟩
    · rw [orderDeceleration, finishOperation_mtu, mtu]
    · exact (finishOperation_htu _ _).trans htu
    · exact (finishOperation_msu _ _).trans msu
    · exact (congrArg (fun a : Asu => a.records.get .media) (finishOperation_asu _ _)).trans media

theorem failCalibration_item {s : State} {o : Operation} (r : CalRun)
    (notArming : ¬ s.lcu.engine = .calibrating .arming) (operation : s.lcu.operation = some o) :
    (failCalibration r s).rrd = { s.rrd with table := s.rrd.table.map fun e : ItemEntry =>
      if e.index = o.index then { e.ends .failed with byte13 := 0 } else e } := by
  have lcu : (s.failTold r).lcu = s.lcu := by rw [State.failTold, requestRefresh_lcu, raise_lcu]
  have rrd : (s.failTold r).rrd = s.rrd := by rw [State.failTold, requestRefresh_rrd, raise_rrd]
  rw [failCalibration_eq, if_neg notArming]
  refine (finishOperation_rrd_some .failed (s := s.failTold r) (by rw [lcu]; exact operation)).trans ?_
  rw [rrd]

/-- R163: what a failed calibration run leaves. -/
theorem calibrationFails {s : State} {r : CalRun} {why : CalReason} (index period : Nat)
    (engine : s.lcu.engine = .calibrating why) (cal : s.msu.cal = some r) :
    let u := failCalibration r (s.calStepped r index period)
    let t := settle u
    t.mtu.motion = .forward ∧ t.mtu.position = s.mtu.position + 1 ∧ t.mtu.ramp = index ∧
      t.lcu.engine = .calibrating why ∧ t.htu = s.htu ∧
      CalibrationDropped s t r ∧ t.mtu.source = .decelerate ∧
      (t.asu.records.get .media).pending = true ∧
      (t.asu.records.get .media).code = Code.calFailed ∧
      (t.asu.records.get .media).arg = (if r.phase = .learning then 1 else 2) ∧
      (why = .arming → t.lcu = { s.lcu with pauseLatch := true }) ∧
      (why = .item → t.lcu = { s.lcu with operation := none } ∧
        ∀ o, s.lcu.operation = some o → u.lcu.operation = none ∧
          u.rrd = { s.rrd with table := s.rrd.table.map fun e : ItemEntry =>
            if e.index = o.index then { e.ends .failed with byte13 := 0 } else e }) := by
  intro u t
  have f : FollowsUp u t := settle_followsUp u
  obtain ⟨mtu, htu, msu, media⟩ := failCalibration_units r (s.calStepped r index period)
  have lcu := failCalibration_course r (s.calStepped r index period)
  have stepped : (s.calStepped r index period).lcu = s.lcu := stepped_lcu s index period
  have paper : (s.calStepped r index period).mtu = (s.stepped index period).mtu := rfl
  rw [stepped] at lcu
  rw [paper, stepped_mtu] at mtu
  obtain ⟨runOn, mtu_⟩ : ∃ b, t.mtu = { u.mtu with tailRunOn := b } := ⟨_, f.mtu⟩
  rw [mtu] at mtu_
  have media_ : t.asu.records.get .media =
      ((s.calStepped r index period).asu.records.get .media).record Code.calFailed (argOf r.phase.failArg) :=
    (settle_record (by decide) (by decide) u).trans media
  refine ⟨by rw [mtu_], by rw [mtu_], by rw [mtu_], ?_, ?_, ?_, by rw [mtu_], by rw [media_]; rfl,
    by rw [media_]; rfl, ?_, fun arming => ?_, fun item => ?_⟩
  · rw [f.lcu, lcu]
    split <;> exact engine
  · rw [f.htu, htu]
    exact stepped_htu s index period
  · have dropped : t.msu = (s.calStepped r index period).msu.dropCalibration := f.msu.trans msu
    rw [Msu.dropCalibration_some (r := r.counted) rfl] at dropped
    rw [CalibrationDropped, dropped]
    exact ⟨rfl, rfl, rfl, rfl, rfl, rfl, rfl, rfl, rfl, rfl, rfl, rfl⟩
  · rw [media_]
    cases r.phase <;> rfl
  · rw [f.lcu, lcu, if_pos (by rw [engine, arming])]
  · have notArming : ¬ s.lcu.engine = .calibrating .arming := by
      rw [engine, item]
      decide
    refine ⟨by rw [f.lcu, lcu, if_neg notArming], fun o operation => ⟨by rw [lcu, if_neg notArming], ?_⟩⟩
    rw [failCalibration_item r (by rw [stepped]; exact notArming) (by rw [stepped]; exact operation)]
    have ring : (s.calStepped r index period).rrd = s.rrd := stepped_rrd s index period
    rw [ring]

/-- R162: the state a calibration run's success leaves before the next state is chosen. -/
def State.calibrated (s : State) (e : Edge) : State :=
  { finishOperation .done (finishCalibration e s) with
    lcu := { s.lcu with operation := none, restTof := some e.tof } }

theorem finishCalibration_units (e : Edge) (s : State) :
    (finishCalibration e s).lcu = s.lcu ∧ (finishCalibration e s).mtu = s.mtu ∧
      (finishCalibration e s).rrd = s.rrd ∧
      (finishCalibration e s).msu =
        { s.msu with calPitch := e.pitch, calGap := e.gap, calibrated := true, cal := none } ∧
      (finishCalibration e s).asu.records.get .media =
        (s.asu.records.get .media).record Code.calDone (argOf e.pitch) := by
  unfold finishCalibration
  rw [requestRefresh_lcu, requestRefresh_mtu, requestRefresh_rrd, requestRefresh_msu, requestRefresh_asu,
    raise_lcu, raise_mtu, raise_rrd, raise_msu, raise_records, PerSource.get_set]
  exact ⟨rfl, rfl, rfl, rfl, rfl⟩

theorem endCalibrating_measured {s : State} {r : CalRun} {e : Edge} (cal : s.msu.cal = some r)
    (measured : r.measured = some e) : endCalibrating s = chooseNext (s.calibrated e) := by
  have found : s.msu.cal.bind (fun r => r.measured) = some e := by rw [cal]; exact measured
  have lcu : (finishOperation .done (finishCalibration e s)).lcu = { s.lcu with operation := none } := by
    rw [finishOperation_lcu, (finishCalibration_units e s).1]
  unfold endCalibrating State.calibrated
  simp only [found, lcu]

/-- R144, R162: a calibrating engine's paper comes to rest. -/
theorem comeToRest_calibrating {s : State} {why : CalReason} (engine : s.lcu.engine = .calibrating why) :
    comeToRest s = endCalibrating (motionRest s) := by
  have same : (motionRest s).lcu.engine = .calibrating why := engine
  rw [comeToRest, restReached, same]

/-- R64, R72, R162: what the rest at the target of a calibration run leaves. -/
theorem calibrationSucceeds {s : State} {e : Edge} (printing : s.lcu.printing = none)
    (feed : ∀ i n, s.rrd.hold ≠ some (.feed i n)) (calibrate : ∀ i, s.rrd.hold ≠ some (.calibrate i)) :
    let u := chooseNext (s.calibrated e)
    let t := settle u
    t.mtu = { s.mtu with tailRunOn := t.mtu.tailRunOn } ∧
      t.lcu.engine = (if s.lcu.pauseLatch then .holding .pause else .idle) ∧
      t.lcu.restTof = some e.tof ∧
      t.msu = { s.msu with calPitch := e.pitch, calGap := e.gap, calibrated := true, cal := none } ∧
      (t.asu.records.get .media).pending = true ∧
      (t.asu.records.get .media).code = Code.calDone ∧
      (t.asu.records.get .media).arg = BitVec.ofNat 16 e.pitch ∧
      ∀ o, s.lcu.operation = some o → u.lcu.operation = none ∧
        u.rrd = { s.rrd with table := s.rrd.table.map fun x : ItemEntry =>
          if x.index = o.index then { x.ends .done with byte13 := 0 } else x } := by
  obtain ⟨lcu, mtu, rrd, msu, media⟩ := finishCalibration_units e s
  have hold : (s.calibrated e).rrd.hold = s.rrd.hold := by
    refine (congrArg Rrd.hold (finishOperation_rrd .done (finishCalibration e s))).trans ?_
    rw [rrd]
  have chosen : chooseNext (s.calibrated e) =
      setEngine (if s.lcu.pauseLatch then .holding .pause else .idle)
        (endCourse (releaseCopy (s.calibrated e))) := by
    cases paused : s.lcu.pauseLatch with
    | true => exact chooseNext_paused paused
    | false =>
      refine chooseNext_empty paused printing (operationReady_none (fun i n => ?_) fun i => ?_)
      · show (s.calibrated e).rrd.hold ≠ _
        rw [hold]
        exact feed i n
      · show (s.calibrated e).rrd.hold ≠ _
        rw [hold]
        exact calibrate i
  intro u t
  have f : FollowsUp u t := settle_followsUp u
  obtain ⟨runOn, mtu_⟩ : ∃ b, t.mtu = { u.mtu with tailRunOn := b } := ⟨_, f.mtu⟩
  have lcu_ : u.lcu = { (endCourse (releaseCopy (s.calibrated e))).lcu with
      engine := if s.lcu.pauseLatch then .holding .pause else .idle } :=
    (congrArg State.lcu chosen).trans (setEngine_lcu _ _)
  have motion : u.mtu = s.mtu := by
    refine (congrArg State.mtu chosen).trans ?_
    rw [setEngine_mtu]
    exact (finishOperation_mtu .done (finishCalibration e s)).trans mtu
  have sensing : u.msu = (finishCalibration e s).msu := by
    refine (congrArg State.msu chosen).trans ?_
    rw [setEngine_msu]
    exact finishOperation_msu .done (finishCalibration e s)
  have media_ : t.asu.records.get .media = (s.asu.records.get .media).record Code.calDone (argOf e.pitch) := by
    refine (settle_record (by decide) (by decide) u).trans ?_
    have same : u.asu = (finishCalibration e s).asu := by
      refine (congrArg State.asu chosen).trans ?_
      rw [setEngine_asu]
      exact finishOperation_asu .done (finishCalibration e s)
    rw [same, media]
  refine ⟨by rw [mtu_, motion], by rw [f.lcu, lcu_], by rw [f.lcu, lcu_]; rfl, ?_, by rw [media_]; rfl,
    by rw [media_]; rfl, by rw [media_]; rfl, fun o operation => ⟨by rw [lcu_]; rfl, ?_⟩⟩
  · rw [f.msu, sensing, msu]
  · refine (congrArg State.rrd chosen).trans ?_
    rw [setEngine_rrd]
    refine (finishOperation_rrd_some .done (s := finishCalibration e s) (by rw [lcu]; exact operation)).trans ?_
    rw [rrd]

/-- Settles O47. -/
theorem lineSensing : Obligations.LineSensing := by
  refine ⟨fun a b c s => ⟨fun none_ => ?_, fun p period sensing => ?_⟩,
    fun s r why engine cal seek timer motion idle => ?_⟩
  · refine ⟨_, rfl, ?_⟩
    have same : senseForward a b c s = s := by
      unfold senseForward
      simp only [none_]
    rw [same]
    exact settle_followsUp s
  · intro high gap fresh run m confirms passedOver paperOut missing
    have gap_ : s.msu.polarity.gapOf (majority a b c) = gap := by
      unfold gap Polarity.gapOf
      cases s.msu.polarity <;> rfl
    have run_ : nextRun s.msu.run (majority a b c) p = run := rfl
    have high_ : run.high = high := nextRun_high _ _ _
    have line (reached : 0 ≤ ahead p s.msu.senseMark) (cal : ∀ r, s.msu.cal = some r → r.phase ≠ .learning)
        (known : s.msu.polarity ≠ .unknown) : senseForward a b c s =
          checkGapMissing gap run (checkPaperOut gap run
            (trackLine gap run { s with msu := s.msu.sensed run p })) := by
      rw [← gap_, ← run_]
      exact senseForward_classed a b c sensing reached cal known
    have track {v : State} (same : trackLine gap run { s with msu := s.msu.sensed run p } = v)
        (settings : v.settings = s.settings)
        (noGap : ¬ paperOut) (noBody : v.lcu.engine = .printing → s.lcu.engine = .printing ∧ ¬ missing)
        (reached : 0 ≤ ahead p s.msu.senseMark) (cal : ∀ r, s.msu.cal = some r → r.phase ≠ .learning)
        (known : s.msu.polarity ≠ .unknown) : senseForward a b c s = v := by
      rw [line reached cal known, same, classed_unchecked]
      · rw [cfg_congr settings]
        exact noGap
      · rw [cfg_congr settings, gapped_congr settings]
        intro due
        obtain ⟨isBody, gapped, max, printing, far, new⟩ := due
        exact (noBody printing).2 ⟨isBody, gapped, max, (noBody printing).1, far, new⟩
    clear_value gap run
    refine ⟨fun behind => ⟨_, rfl, ?_⟩, fun r reached cal learning => ⟨_, rfl, ?_⟩, fun reached cal =>
      ⟨fun unknown => ⟨_, rfl, ?_⟩, fun known over_ noGap noBody => ⟨_, rfl, ?_⟩,
        fun known confirmed start noGap noBody => ⟨_, rfl, ?_⟩,
        fun known confirmed isGap_ body noGap => ⟨_, rfl, ?_⟩,
        fun g known confirmed isBody phase open_ noBody => ?_,
        fun known over_ due noCal moves engines => ⟨_, rfl, ?_⟩,
        fun known over_ due noCal moves => ⟨_, rfl, ?_⟩⟩⟩
    · rw [senseForward_behind a b c sensing behind]
      exact settle_followsUp _
    · have learns : senseForward a b c s = { s with msu := m.learn r run s.cfg.guardLength } := by
        rw [senseForward_taken a b c sensing reached, senseLine_learning _ _ (by exact cal) learning, ← run_]
        rfl
      obtain ⟨short, twice⟩ := learn_cases (m := m) (r := r) (run := run) s.cfg.guardLength
      rw [learns]
      refine ⟨fun len => ?_, fun len => ?_⟩
      · rw [short len]
        exact settle_followsUp _
      · rw [twice len, high_]
        exact settle_followsUp _
    · have same : senseForward a b c s = { s with msu := m } := by
        rw [senseForward_taken a b c sensing reached]
        exact senseLine_unknown _ _ cal unknown
      rw [same]
      exact settle_followsUp _
    · rw [track (trackLine_kept (by exact over_)) rfl noGap (fun printing => ⟨printing, noBody⟩) reached cal known]
      exact settle_followsUp _
    · obtain ⟨toBody, toGap, none_⟩ := confirm_start (m := s.msu.sensed run p) run.first s.cfg start
      rw [track (trackLine_none (by exact confirmed) (none_ gap)) rfl noGap
        (fun printing => ⟨printing, noBody⟩) reached cal known]
      refine ⟨fun isBody => ?_, fun isGap_ => ?_⟩
      · rw [isBody]
        dsimp only
        rw [toBody]
        exact settle_followsUp _
      · rw [isGap_]
        dsimp only
        rw [toGap]
        exact settle_followsUp _
    · obtain ⟨toGap, none_⟩ := confirm_gap (m := s.msu.sensed run p) run.first s.cfg body
      have noBody : ¬ missing := fun miss => Bool.noConfusion (isGap_.symm.trans miss.1)
      rw [track (trackLine_none (by exact confirmed) (by rw [isGap_]; exact none_)) rfl noGap
        (fun printing => ⟨printing, noBody⟩) reached cal known, isGap_]
      dsimp only
      rw [toGap]
      exact settle_followsUp _
    · intro tof passed entry joined mismatch lost overflowed
      have noGap : ¬ paperOut := fun out => Bool.noConfusion (isBody.symm.trans out.1)
      obtain ⟨toBody, some_⟩ := confirm_body (m := s.msu.sensed run p) run.first s.cfg phase open_
      have offered : trackLine gap run { s with msu := s.msu.sensed run p } =
          offerEdge entry { s with msu := passed } := by
        rw [trackLine_some (e := entry) (by exact confirmed) (by rw [isBody]; exact some_), isBody]
        dsimp only
        rw [toBody]
        rfl
      refine ⟨fun behind => ⟨_, rfl, ?_⟩, fun lies room noCal => ?_, fun r lies room run_ noSeek => ?_,
        fun lies full => ⟨_, rfl, ?_⟩⟩
      · rw [track (offered.trans (offerEdge_behind (by exact behind))) rfl noGap
          (fun printing => ⟨printing, noBody⟩) reached cal known]
        exact settle_followsUp _
      · intro u
        refine ⟨_, rfl, ?_⟩
        have off : pitchMismatch { s with msu := passed } entry = true ↔ mismatch := by
          refine pitchMismatch_iff.trans ⟨fun h => h.2, fun h => ⟨noCal, h⟩⟩
        have gives : giveSeekTarget tof { s with msu := joined } = u := by
          cases seek : s.lcu.seek with
          | none =>
            rw [giveSeekTarget_none (s := { s with msu := joined }) tof fun k same => nomatch seek.symm.trans same]
            simp only [u, seek]
          | some k =>
            obtain ⟨start, target⟩ := k
            cases target with
            | none =>
              rw [giveSeekTarget_given (s := { s with msu := joined }) tof seek]
              simp only [u, seek]
            | some q =>
              rw [giveSeekTarget_none (s := { s with msu := joined }) tof fun k same => by
                rw [← Option.some.inj (seek.symm.trans same)]
                exact nofun]
              simp only [u, seek]
        have kept := giveSeekTarget_kept tof { s with msu := joined }
        rw [gives] at kept
        have joins : offerEdge entry { s with msu := passed } =
            if pitchMismatch { s with msu := passed } entry then
              raise .media Code.pitchMismatch (BitVec.ofNat 16 g.pitch) u else u := by
          rw [offerEdge_joins (by exact lies) (by exact room), joinEdge_eq, joined_uncalibrated _ (by exact noCal)]
          split
          · exact (giveSeekTarget_raise tof _ _ _ { s with msu := joined }).trans (congrArg _ gives)
          · exact gives
        refine ⟨fun fits => ?_, fun mis => ?_⟩
        · rw [track (offered.trans (joins.trans (if_neg (mt off.1 fits)))) kept.2 noGap
            (fun printing => ⟨kept.1.symm.trans printing, noBody⟩) reached cal known]
          exact settle_followsUp _
        · rw [track (offered.trans (joins.trans (if_pos (off.2 mis)))) (by rw [raise_settings]; exact kept.2) noGap
            (fun printing => ⟨kept.1.symm.trans (by rw [raise_lcu] at printing; exact printing), noBody⟩)
            reached cal known]
          exact settle_followsUp _
      · refine ⟨_, rfl, ?_⟩
        have fits : pitchMismatch { s with msu := passed } entry = false :=
          Bool.eq_false_iff.2 fun mis => nomatch run_.symm.trans (pitchMismatch_iff.1 mis).1
        have joins : offerEdge entry { s with msu := passed } = State.joined { s with msu := passed } entry := by
          rw [offerEdge_joins (by exact lies) (by exact room), joinEdge_eq, fits]
          exact giveSeekTarget_none _ fun k same => nomatch noSeek.symm.trans same
        obtain ⟨measures, other⟩ := joined_calibrating (s := { s with msu := passed }) entry run_
        refine ⟨fun measuring exact_ => ?_, fun not => ?_⟩
        · rw [track (offered.trans (joins.trans (measures measuring exact_))) rfl noGap
            (fun printing => ⟨printing, noBody⟩) reached cal known]
          exact settle_followsUp _
        · rw [track (offered.trans (joins.trans (other not))) rfl noGap
            (fun printing => ⟨printing, noBody⟩) reached cal known]
          exact settle_followsUp _
      · have flows : offerEdge entry { s with msu := passed } = reportOverflow (overflowed s) := by
          rw [offerEdge_overflows (by exact lies) (by exact full), overflowEdges_eq]
          rfl
        have lcu : (overflowed s).lcu = s.lcu := raise_lcu _ _ _ _
        have mtu : (overflowed s).mtu = s.mtu := raise_mtu _ _ _ _
        have settings : (overflowed s).settings = s.settings := raise_settings _ _ _ _
        have msu : (overflowed s).msu = lost := raise_msu _ _ _ _
        have gapped : (overflowed s).gapped = true := (gapped_congr settings).trans confirmed.1
        have sensed (quiet : (reportOverflow (overflowed s)).lcu.engine = .printing → s.lcu.engine = .printing) :
            senseForward a b c s = reportOverflow (overflowed s) :=
          track (offered.trans flows) ((inner_reportOverflow _).settings.trans settings) noGap
            (fun printing => ⟨quiet printing, noBody⟩) reached cal known
        refine ⟨fun notPrinting notStalled notHolding noSeek => ?_, fun k engines seek near => ?_,
          fun k printing own motion stopping latch => ?_, fun k engines own motion paused restTof => ?_⟩
        · have told := reportOverflow_told (s := overflowed s)
            (by rw [lcu]; exact inCopy_false notPrinting notStalled notHolding) (by rw [lcu]; exact noSeek)
          rw [sensed (fun printing => absurd (by rw [told, lcu] at printing; exact printing) notPrinting), told]
          exact settle_followsUp _
        · have other : s.lcu.engine.inCopy = false ∧ s.lcu.engine ≠ .printing := by
            rcases engines with h | h <;> rw [h] <;> exact ⟨rfl, by decide⟩
          have goesOn := reportOverflow_seek (s := overflowed s) (k := k) (by rw [lcu]; exact other.1)
            (by rw [lcu]; exact seek) (by rw [mtu, cfg_congr settings]; exact near)
          rw [lcu, mtu] at goesOn
          rw [sensed (fun printing => absurd (by rw [goesOn] at printing; exact printing) other.2), goesOn]
          have same := raise_of_course .media Code.edgeOverflow (tof.truncate 16) { s with msu := lost }
            { s.lcu with seek := some { k with target := none } } { s.mtu with source := .distance .renewed } rfl
          exact same ▸ settle_followsUp _
        · obtain ⟨presents, engine, spoiled, msu_, source, moves, position, idle, strobes, htu, media⟩ :=
            overflowStops gapped (by rw [lcu]; exact printing) (by rw [lcu]; exact own) (by rw [mtu]; exact motion)
              (by rw [mtu]; exact stopping) (by rw [mtu]; exact latch)
          rw [sensed fun printing => Engine.noConfusion (presents.symm.trans printing)]
          have event : (overflowed s).asu.records.get .media =
              (s.asu.records.get .media).record Code.edgeOverflow (tof.truncate 16) := by
            refine (congrArg (fun r => PerSource.get r .media) (raise_records _ _ _ _)).trans ?_
            exact PerSource.get_set _ _ _
          rw [event] at media
          exact ⟨engine, spoiled, msu_.trans msu, source, moves, position.trans (by rw [mtu]), idle, strobes,
            htu.trans (raise_htu _ _ _ _), by rw [media]; rfl, by rw [media]; rfl, by rw [media]; rfl⟩
        · obtain ⟨holds, engine, spoiled, msu_, rest⟩ :=
            overflowHolds gapped (by rw [lcu]; exact engines) (by rw [lcu]; exact own) (by rw [mtu]; exact motion)
              (by rw [lcu]; exact paused) (by rw [lcu]; exact restTof)
          rw [sensed fun printing => Engine.noConfusion (holds.symm.trans printing)]
          exact ⟨engine, spoiled, msu_.trans msu, rest⟩
    · have trackless : trackLine gap run { s with msu := s.msu.sensed run p } =
          { s with msu := s.msu.sensed run p } := trackLine_kept (by exact over_)
      have same : senseForward a b c s =
          reportFault .paperOut (loseRegistration 1 { s with msu := s.msu.sensed run p }) := by
        rw [line reached cal known, trackless, checkPaperOut_due (by exact due), checkGapMissing_not]
        exact fun body => Bool.noConfusion (body.1.symm.trans due.1)
      rw [same]
      obtain ⟨lcu, mtu, mem, msu, -⟩ := loseRegistration_units 1 { s with msu := s.msu.sensed run p }
      obtain ⟨told, untold⟩ := loseRegistration_media 1 { s with msu := s.msu.sensed run p }
      obtain ⟨taken, fresh⟩ := faultTaken_moving (s := loseRegistration 1 { s with msu := s.msu.sensed run p })
        .paperOut (congrArg (fun l : Lcu => l.engine) lcu) (by rw [mtu]; exact moves) engines
      have leaves := reportFault_leaves taken fresh
      refine ⟨faultStops_of leaves (by rw [lcu]) mtu mem moves, by rw [leaves.opened]; rfl, ?_, ?_, ?_, ?_⟩
      · rw [leaves.msu, if_pos ((moving_iff _).2 (by rw [mtu]; exact moves)), msu, Msu.dropCalibration_none]
        · rfl
        · exact noCal
      · intro valid
        rw [leaves.others .media (by decide) (by decide) (by decide), told valid]
        exact ⟨rfl, rfl, rfl⟩
      · intro lost
        rw [leaves.others .media (by decide) (by decide) (by decide), untold lost]
      · intro k printing own
        exact leaves.spoiled k (by rw [lcu]; dsimp only; rw [printing]; rfl) (by rw [lcu]; exact own)
          (by rw [mtu]; exact moves)
    · have trackless : trackLine gap run { s with msu := s.msu.sensed run p } =
          { s with msu := s.msu.sensed run p } := trackLine_kept (by exact over_)
      have noGap : ¬ paperOut := fun out => Bool.noConfusion (due.1.symm.trans out.1)
      have same : senseForward a b c s = reportFault .gapMissing
          { s with msu := s.msu.sensed { run with reported := true } p } := by
        rw [line reached cal known, trackless, checkPaperOut_not (by exact noGap),
          checkGapMissing_due (by exact due)]
        rfl
      rw [same]
      have printing : s.lcu.engine = .printing := due.2.2.2.1
      obtain ⟨taken, fresh⟩ := faultTaken_moving
        (s := { s with msu := s.msu.sensed { run with reported := true } p }) .gapMissing printing moves (by simp)
      have leaves := reportFault_leaves taken fresh
      refine ⟨faultStops_of leaves rfl rfl rfl moves, ?_, fun k own => ?_⟩
      · rw [leaves.msu, if_pos (by exact (moving_iff s).2 moves), Msu.dropCalibration_none]
        · rfl
        · exact noCal
      · exact leaves.spoiled k (by dsimp only; rw [printing]; rfl) own moves
  · intro done
    refine ⟨fun j plan head => ?_, fun stop e plan source measured printing staged feed calibrate => ?_⟩
    · have step_ : linePeriodExpires s = if r.counted.atLimit s.cfg.calLimit then
            failCalibration r (s.expired.calStepped r j (s.mtu.ramps.period j))
          else s.expired.calStepped r j (s.mtu.ramps.period j) := by
        rw [linePeriodExpires_forward timer motion, planningPoint_step plan idle]
        exact forwardStep_calibrating (s := s.expired) j _ engine cal seek head
      by_cases limit : r.counted.atLimit s.cfg.calLimit = true
      · obtain ⟨moving, position, ramp, same, htu, dropped, source, pending, code, arg, arming, item⟩ :=
          calibrationFails (s := s.expired) j (s.mtu.ramps.period j) engine cal
        obtain ⟨notDone, far⟩ := (atLimit_iff r _).1 limit
        rw [if_pos limit] at step_
        refine ⟨_, rfl, ?_⟩
        rw [step_]
        refine ⟨moving, position, ramp, same, htu, fun short => ?_, fun _ _ => ⟨dropped, source, pending, code, arg,
          arming, fun isItem => ⟨(item isItem).1, _, settle_followsUp _, (item isItem).2⟩⟩⟩
        exact absurd (short.resolve_left notDone) (Nat.not_lt.2 far)
      · rw [if_neg limit] at step_
        have f := settle_followsUp (s.expired.calStepped r j (s.mtu.ramps.period j))
        have lcu : (s.expired.calStepped r j (s.mtu.ramps.period j)).lcu = s.lcu := stepped_lcu s.expired _ _
        have htu : (s.expired.calStepped r j (s.mtu.ramps.period j)).htu = s.htu := stepped_htu s.expired _ _
        have paper : (s.expired.calStepped r j (s.mtu.ramps.period j)).mtu =
          (s.expired.stepped j (s.mtu.ramps.period j)).mtu := rfl
        rw [stepped_mtu] at paper
        have mtu := f.mtu
        rw [paper] at mtu
        refine ⟨_, rfl, ?_⟩
        rw [step_]
        refine ⟨by rw [mtu], by rw [mtu]; rfl, by rw [mtu], by rw [f.lcu, lcu]; exact engine, by rw [f.htu, htu],
          fun _ => ⟨by rw [f.lcu, lcu], by rw [mtu]; rfl, by rw [f.msu]; rfl⟩, fun notDone far => ?_⟩
        exact absurd ((atLimit_iff r _).2 ⟨notDone, far⟩) limit
    · have rests : linePeriodExpires s = chooseNext (State.calibrated { s.expired with
          mtu := s.expired.mtu.rested s.mtu.source
          seu := { s.seu with restTimer := some 0 }
          msu := { s.msu with sensing := none } } e) := by
        rw [linePeriodExpires_forward timer motion, planningPoint_stop plan idle,
          comeToRest_calibrating (by exact engine), motionRest_kept (by exact source)]
        exact endCalibrating_measured (by exact cal) measured
      obtain ⟨mtu, engine_, restTof, msu, pending, code, arg, ring⟩ := calibrationSucceeds (s := { s.expired with
          mtu := s.expired.mtu.rested s.mtu.source
          seu := { s.seu with restTimer := some 0 }
          msu := { s.msu with sensing := none } }) (e := e) printing feed calibrate
      refine ⟨_, rfl, ?_⟩
      rw [rests]
      exact ⟨by rw [mtu]; rfl, by rw [mtu]; rfl, by rw [mtu]; rfl, engine_, restTof, msu, pending, code, arg, _,
        settle_followsUp _, ring⟩

/-! ## Rows of dots -/

theorem byteDots_get (b : Byte) {k : Nat} (h : k < 8) : (byteDots b)[k]? = some (b.getLsbD (7 - k)) := by
  interval_cases k <;> rfl

theorem rowDots_length (bytes : List Byte) : (rowDots bytes).length = 8 * bytes.length := by
  induction bytes with
  | nil => rfl
  | cons b rest ih =>
    rw [rowDots, List.length_append, ih, List.length_cons]
    have : (byteDots b).length = 8 := rfl
    omega

/-- R2: dot `k` is bit 7 − k mod 8 of byte k div 8. -/
theorem rowDots_get (bytes : List Byte) (k : Nat) :
    (rowDots bytes)[k]? = (bytes[k / 8]?).map fun b => b.getLsbD (7 - k % 8) := by
  induction bytes generalizing k with
  | nil => rfl
  | cons b rest ih =>
    have eight : (byteDots b).length = 8 := rfl
    rw [rowDots]
    rcases Nat.lt_or_ge k 8 with low | high
    · rw [List.getElem?_append_left (by omega), byteDots_get b low, Nat.div_eq_of_lt low, Nat.mod_eq_of_lt low]
      rfl
    · rw [List.getElem?_append_right (by omega), eight, ih]
      have byte : k / 8 = (k - 8) / 8 + 1 := by omega
      have bit : (k - 8) % 8 = k % 8 := by omega
      rw [byte, bit, List.getElem?_cons_succ]

/-- R85: slots that are not PENDING are passed over. -/
theorem completeRowIn_skip (g : Geometry) (m : Memory) (before rest : List Slot)
    (complete : ∀ x ∈ before, ∀ b r c l got, x ≠ .row b r c l got none) :
    completeRowIn g m (before ++ rest) = before ++ completeRowIn g m rest ∧
      firstPending (before ++ rest) = firstPending rest := by
  induction before with
  | nil => exact ⟨rfl, rfl⟩
  | cons x before ih =>
    obtain ⟨rows, pending⟩ := ih fun y hy => complete y (List.mem_cons_of_mem _ hy)
    have skip : completeRowIn g m (x :: (before ++ rest)) = x :: completeRowIn g m (before ++ rest) ∧
        firstPending (x :: (before ++ rest)) = firstPending (before ++ rest) := by
      cases x with
      | row b r c l got image =>
        cases image with
        | none => exact absurd rfl (complete _ (List.mem_cons_self ..) b r c l got)
        | some i => exact ⟨rfl, rfl⟩
      | run => exact ⟨rfl, rfl⟩
      | endMark => exact ⟨rfl, rfl⟩
    exact ⟨skip.1.trans (congrArg _ rows), skip.2.trans pending⟩

/-! ## A fill made twice -/

theorem takeUpTo_ends : ∀ (n : Nat) (r : Rsu), 8 ≤ n + r.buffer.length →
    8 ≤ (Rsu.takeUpTo n r).buffer.length ∨ (Rsu.takeUpTo n r).queue = []
  | 0, r, h => .inl (by rw [Rsu.takeUpTo]; omega)
  | n + 1, r, h => by
    unfold Rsu.takeUpTo
    split
    · split
      next empty => exact .inr empty
      next seg rest queue =>
        refine takeUpTo_ends n _ ?_
        rw [List.length_append, List.length_singleton]
        omega
    next full => exact .inl (by simpa [Config.bufferSize] using full)

/-- R84: a fill leaves nothing to fill. -/
theorem fill_fill (r : Rsu) : r.fill.fill = r.fill := by
  by_cases fills : r.filling = true ∨ r.buffer.length ≤ 4
  · have once : r.fill = { Rsu.takeUpTo 8 r with
        filling := decide ((Rsu.takeUpTo 8 r).buffer.length < Config.bufferSize) } := if_pos fills
    rw [once]
    rcases takeUpTo_ends 8 r (Nat.le_add_right _ _) with full | empty
    · exact if_neg (not_or.2 ⟨fun filling => Nat.not_lt.2 full (decide_eq_true_iff.1 filling), by dsimp only; omega⟩)
    · have again := takeUpTo_done (r := { Rsu.takeUpTo 8 r with
        filling := decide ((Rsu.takeUpTo 8 r).buffer.length < Config.bufferSize) }) (.inr empty) Config.bufferSize
      unfold Rsu.fill
      rw [again]
      exact ite_self _
  · have none_ : r.fill = r := if_neg fills
    rw [none_, none_]

/-- R84: what follows a command fills the buffer; a fill before it changes nothing. -/
theorem FollowsUp.filled {u t : State} (f : FollowsUp (fillBuffer u) t) : FollowsUp u t := by
  by_cases engaged : u.bpu.engagement = .engaged
  · have form : fillBuffer u = { u with rsu := u.rsu.fill } := if_pos engaged
    rw [form] at f
    have rsu := f.rsu
    rw [if_pos (by exact engaged), fill_fill] at rsu
    exact {
      mem := f.mem, pending := f.pending, settings := f.settings, prescaler := f.prescaler, lcu := f.lcu
      msu := f.msu, htu := f.htu, mtu := f.mtu, hdu := f.hdu, seu := f.seu, bpu := f.bpu, rrd := f.rrd
      rsu := rsu.trans (if_pos engaged).symm
      asu := f.asu, tailRunOn := f.tailRunOn, forecast := f.forecast, forecastTime := f.forecastTime
      fetch := f.fetch, noFetch := f.noFetch, reread := f.reread, noReread := f.noReread
      threshold := f.threshold, waiting := f.waiting, retires := f.retires, quiet := f.quiet }
  · have form : fillBuffer u = u := if_neg engaged
    rwa [form] at f

/-! ## A delivery -/

/-- R87, R99, R108: the line of a started copy has its row: the record, the history and the supply after it. -/
def State.lineGiven (s : State) (c : Context) (dots : Dots) (left : List Slot) (image : Option RepeatImage) :
    State :=
  let line := lineRecord s.geo s.cfg s.seu.band c.darkness s.seu.h1 s.seu.h2 dots (some (c.copy, c.label))
  { s with
    rsu := { s.rsu with buffer := left, repeatImage := image, waiting := false }
    seu := { s.seu with record := line, h1 := line.fired, h2 := s.seu.h1 } }

theorem deliverLine_given {s : State} {c : Context} {dots : Dots} {left : List Slot} {image : Option RepeatImage}
    (started : s.lcu.started = true) (printing : s.lcu.printing = some c)
    (gives : s.rsu.headRow s.geo.blankRow = some (dots, { s.rsu with buffer := left, repeatImage := image })) :
    deliverLine s = fillBuffer (takeRecord (s.lineGiven c dots left image)) := by
  have owner : s.currentOwner = some (c.copy, c.label) := by
    rw [State.currentOwner, if_pos started, printing]
    rfl
  have line : takeLine { dots := dots, owner := some (c.copy, c.label) }
      { s with rsu := { s.rsu with buffer := left, repeatImage := image, waiting := false } } =
        s.lineGiven c dots left image := by
    unfold takeLine recordOf State.darkness State.lineGiven
    simp only [printing]
    rfl
  unfold deliverLine
  simp only [owner, gives]
  rw [line]

/-- R88: the line of a started copy with a PENDING head row waits. -/
theorem deliverLine_waits {s : State} {c : Context} {b r k : Nat} {l : Idx} {got : List Byte} {rest : List Slot}
    (started : s.lcu.started = true) (printing : s.lcu.printing = some c)
    (buffer : s.rsu.buffer = .row b r k l got none :: rest) :
    deliverLine s = { s with rsu := { s.rsu with waiting := true } } := by
  have owner : s.currentOwner = some (c.copy, c.label) := by
    rw [State.currentOwner, if_pos started, printing]
    rfl
  have row : s.rsu.headRow s.geo.blankRow = none := by rw [Rsu.headRow, buffer]; rfl
  unfold deliverLine
  simp only [owner, row]

/-- R120: the record of a line that is not fired. -/
theorem takeRecord_idle {s : State} (awaits : s.hdu.state = .awaiting)
    (blank : s.seu.record.slices = [] ∨ s.htu.supply ≠ .on ∨ s.msu.headOpen = true) :
    takeRecord s = { s with hdu := { s.hdu with state := .idle, line := none } } := by
  have unfired : (s.seu.record.slices.isEmpty || !firingAllowed s) = true := by
    rcases blank with none_ | off | open_
    · rw [none_]
      rfl
    · simp [firingAllowed, off]
    · simp [firingAllowed, open_]
  unfold takeRecord
  simp only [if_pos awaits, unfired, if_true]

/-- R120: the record of a line that is fired. -/
theorem takeRecord_fires {s : State} (awaits : s.hdu.state = .awaiting) (dotted : s.seu.record.slices ≠ [])
    (supply : s.htu.supply = .on) (closed : s.msu.headOpen = false) :
    takeRecord s = { s with hdu := { s.hdu with
      state := .active, line := some s.seu.record, shift := .shifting 1 0, firing := none, tGap := s.cfg.tGap
      bursts := s.seu.record.slices.map fun x => packBursts s.cfg.dotLimit none 0 x.counts } } := by
  have fired : (s.seu.record.slices.isEmpty || !firingAllowed s) = false := by
    simp [firingAllowed, supply, closed, dotted]
  unfold takeRecord
  simp only [if_pos awaits, fired]
  rfl

/-- Settles O39. -/
theorem rowFetchComplete : Obligations.RowFetchComplete := by
  refine ⟨fun bytes k => ⟨rowDots_length bytes, fun _ => rowDots_get bytes k⟩, ?_, ?_⟩
  · intro s before after b r c l got buffer idle complete
    obtain ⟨rows, pending⟩ := completeRowIn_skip s.geo s.mem before (.row b r c l got none :: after) complete
    have done : completeRow s = { s with rsu := { s.rsu with
        buffer := completeRowIn s.geo s.mem s.rsu.buffer } } := by
      unfold completeRow deliverWaiting
      rw [if_pos (by rw [buffer, pending]; rfl)]
      exact if_neg (by simp [idle])
    refine ⟨_, rfl, ?_⟩
    rw [done, buffer, rows]
    exact settle_followsUp _
  · intro s c rest b r k l got buffer waits started printing awaits stopping latch
    refine ⟨_, rfl, ?_⟩
    intro bytes line delivered
    have gives : HeadGives { s with rsu := { s.rsu with
        buffer := .row b r k l [] (some (rowDots bytes)) :: rest } } (rowDots bytes) rest
        (some { image := rowDots bytes, copy := k, label := l }) := .row b r k l [] (rowDots bytes) rest rfl
    have given := deliverLine_given (s := { s with rsu := { s.rsu with
        buffer := .row b r k l [] (some (rowDots bytes)) :: rest } }) (by exact started) (by exact printing)
      (headRow_of_gives gives)
    have done : completeRow s = lineEnded (fillBuffer (takeRecord delivered)) := by
      have first : firstPending s.rsu.buffer = true := by rw [buffer]; rfl
      have rows : completeRowIn s.geo s.mem s.rsu.buffer =
          .row b r k l [] (some (rowDots bytes)) :: rest := by rw [buffer]; rfl
      unfold completeRow deliverWaiting
      rw [if_pos first, rows]
      exact (if_pos (by exact waits)).trans (congrArg lineEnded given)
    have ended : lineEnded (fillBuffer (takeRecord delivered)) = fillBuffer (takeRecord delivered) := by
      refine lineEnded_none ?_ ?_
      · rw [fillBuffer_mtu, takeRecord_mtu]
        exact stopping
      · rw [fillBuffer_mtu, takeRecord_mtu]
        exact latch
    rw [done, ended]
    refine ⟨fun blank => ?_, fun dotted supply closed => ?_⟩
    · rw [takeRecord_idle (by exact awaits) (by exact blank)]
      exact (settle_followsUp _).filled
    · rw [takeRecord_fires (by exact awaits) (by exact dotted) (by exact supply) (by exact closed)]
      exact (settle_followsUp _).filled

/-! ## A printed line -/

theorem fill_kept (r : Rsu) : r.fill.repeatImage = r.repeatImage ∧ r.fill.discard = r.discard ∧
    r.fill.waiting = r.waiting := by
  have takes : ∀ (n : Nat) (r : Rsu), (Rsu.takeUpTo n r).repeatImage = r.repeatImage ∧
      (Rsu.takeUpTo n r).discard = r.discard ∧ (Rsu.takeUpTo n r).waiting = r.waiting := by
    intro n
    induction n with
    | zero => exact fun r => ⟨rfl, rfl, rfl⟩
    | succ n ih =>
      intro r
      unfold Rsu.takeUpTo
      split
      · split
        · exact ⟨rfl, rfl, rfl⟩
        · exact ih _
      · exact ⟨rfl, rfl, rfl⟩
  unfold Rsu.fill
  split
  · exact takes _ r
  · exact ⟨rfl, rfl, rfl⟩

/-- R83: a fill keeps the copies and labels of the stream. -/
theorem takeUpTo_all (P : Nat → Idx → Prop) : ∀ (n : Nat) (r : Rsu),
    (∀ e ∈ r.stream, P e.copy e.label) → ∀ e ∈ (Rsu.takeUpTo n r).stream, P e.copy e.label
  | 0, _, all => all
  | n + 1, r, all => by
    unfold Rsu.takeUpTo
    split
    · split
      · exact all
      next seg rest queue =>
        have split_ : r.stream = r.buffer.map Slot.element ++ seg.element :: rest.map Segment.element := by
          rw [Rsu.stream, queue, List.map_cons]
        have own : P seg.copy seg.label := all seg.element (by rw [split_]; simp)
        have slot : P seg.takeSlot.1.copy seg.takeSlot.1.label ∧
            ∀ x ∈ seg.takeSlot.2.toList, P x.copy x.label := by
          cases seg with
          | rows b f n c l =>
            refine ⟨own, fun x hx => ?_⟩
            unfold Segment.takeSlot at hx
            dsimp only at hx
            split at hx
            · exact absurd hx (by simp)
            · rw [Option.toList_some, List.mem_singleton] at hx
              rw [hx]
              exact own
          | repeatRun n c l => exact ⟨own, fun x hx => absurd hx (by simp [Segment.takeSlot])⟩
          | blankRun n c l => exact ⟨own, fun x hx => absurd hx (by simp [Segment.takeSlot])⟩
          | copyEnd c l => exact ⟨own, fun x hx => absurd hx (by simp [Segment.takeSlot])⟩
        refine takeUpTo_all P n _ fun e he => ?_
        simp only [Rsu.stream, List.map_append, List.mem_append, List.map_cons, List.map_nil,
          List.mem_singleton, List.mem_map] at he
        rcases he with (⟨x, hx, rfl⟩ | rfl) | ⟨x, hx, rfl⟩ | ⟨x, hx, rfl⟩
        · exact all _ (by rw [split_]; exact List.mem_append_left _ (List.mem_map_of_mem hx))
        · exact slot.1
        · exact slot.2 x hx
        · exact all _ (by
            rw [split_]
            exact List.mem_append_right _ (List.mem_cons_of_mem _ (List.mem_map_of_mem hx)))
    · exact all

theorem fill_all {P : Nat → Idx → Prop} {r : Rsu} (all : ∀ e ∈ r.stream, P e.copy e.label) :
    ∀ e ∈ r.fill.stream, P e.copy e.label := by
  unfold Rsu.fill
  split
  · exact takeUpTo_all P _ r all
  · exact all

/-- R89: the ended copy has left the stream. -/
theorem endCopy_stream (r : Rsu) (copy : Nat) (label : Idx) :
    ∀ e ∈ (r.endCopy copy label).stream, (e.copy == copy && e.label == label) = false := by
  intro e he
  simp only [Rsu.endCopy, Rsu.stream, List.mem_append, List.mem_map, List.mem_filter] at he
  rcases he with ⟨x, ⟨-, other⟩, rfl⟩ | ⟨x, ⟨-, other⟩, rfl⟩
  · exact Bool.not_eq_true' _ ▸ other
  · exact Bool.not_eq_true' _ ▸ other

theorem endCopy_discard (r : Rsu) (copy : Nat) (label : Idx) [Decidable (∃ e ∈ r.stream,
      (e.copy == copy && e.label == label) = true ∧ e.isEnd = true)] : (r.endCopy copy label).discard =
    if ∃ e ∈ r.stream, (e.copy == copy && e.label == label) = true ∧ e.isEnd = true then r.discard
    else some (label, copy) := by
  have seen : (r.stream.any fun e => (e.copy == copy && e.label == label) && e.isEnd) = true ↔
      ∃ e ∈ r.stream, (e.copy == copy && e.label == label) = true ∧ e.isEnd = true := by
    rw [List.any_eq_true]
    simp only [Bool.and_eq_true]
  unfold Rsu.endCopy
  dsimp only
  by_cases h : ∃ e ∈ r.stream, (e.copy == copy && e.label == label) = true ∧ e.isEnd = true
  · rw [if_pos h, if_pos (seen.2 h)]
  · rw [if_neg h, if_neg (mt seen.1 h)]

/-! ### The step -/

section
variable {s : State} {c : Context} {j period : Nat} {dots : Dots} {left : List Slot} {image : Option RepeatImage}

/-- R87, R99: the step of a started copy delivers the row the stream gives. -/
theorem stepped_given (started : s.lcu.started = true) (printing : s.lcu.printing = some c)
    (gives : HeadGives s dots left image) : s.stepped j period =
      advancePosition (fillBuffer (takeRecord ((beginLine j period s).lineGiven c dots left image))) :=
  congrArg advancePosition
    (deliverLine_given (s := beginLine j period s) started printing
      (show s.rsu.headRow s.geo.blankRow = _ from headRow_of_gives gives))

theorem stepped_seu (started : s.lcu.started = true) (printing : s.lcu.printing = some c)
    (gives : HeadGives s dots left image) :
    let line := lineRecord s.geo s.cfg s.seu.band c.darkness s.seu.h1 s.seu.h2 dots (some (c.copy, c.label))
    (s.stepped j period).seu =
      { s.seu with restTimer := none, record := line, h1 := line.fired, h2 := s.seu.h1 } := by
  rw [stepped_given started printing gives, advancePosition, fillBuffer_seu, takeRecord_seu]
  rfl

theorem stepped_rsu (started : s.lcu.started = true) (printing : s.lcu.printing = some c)
    (gives : HeadGives s dots left image) : (s.stepped j period).rsu =
      if s.bpu.engagement = .engaged then
        ({ s.rsu with buffer := left, repeatImage := image, waiting := false } : Rsu).fill
      else { s.rsu with buffer := left, repeatImage := image, waiting := false } := by
  rw [stepped_given started printing gives]
  unfold advancePosition fillBuffer
  rw [takeRecord_bpu]
  have same : (takeRecord ((beginLine j period s).lineGiven c dots left image)).rsu =
      { s.rsu with buffer := left, repeatImage := image, waiting := false } := takeRecord_rsu _
  split
  · dsimp only
    rw [if_pos (by assumption), same]
  · dsimp only
    rw [if_neg (by assumption), same]

theorem stepped_hdu (started : s.lcu.started = true) (printing : s.lcu.printing = some c)
    (gives : HeadGives s dots left image) :
    let line := lineRecord s.geo s.cfg s.seu.band c.darkness s.seu.h1 s.seu.h2 dots (some (c.copy, c.label))
    (line.slices = [] ∨ s.htu.supply ≠ .on ∨ s.msu.headOpen = true →
      (s.stepped j period).hdu.state = .idle ∧ (s.stepped j period).hdu.line = none) ∧
    (line.slices ≠ [] → s.htu.supply = .on → s.msu.headOpen = false →
      (s.stepped j period).hdu.state = .active ∧ (s.stepped j period).hdu.line = some line ∧
      (s.stepped j period).hdu.shift = .shifting 1 0 ∧ (s.stepped j period).hdu.firing = none ∧
      (s.stepped j period).hdu.bursts = line.slices.map fun x => packBursts s.cfg.dotLimit none 0 x.counts) := by
  intro line
  rw [stepped_given started printing gives]
  refine ⟨fun blank => ?_, fun dotted supply closed => ?_⟩
  · rw [advancePosition, fillBuffer_hdu, takeRecord_idle rfl (by exact blank)]
    exact ⟨rfl, rfl⟩
  · rw [advancePosition, fillBuffer_hdu, takeRecord_fires rfl (by exact dotted) (by exact supply) (by exact closed)]
    exact ⟨rfl, rfl, rfl, rfl, rfl⟩

end

/-! ## The copy end -/

/-- R67: the state after the ended copy has been counted, and its label ended where it was the last. -/
def copyNext (c : Context) (s : State) : State :=
  if c.total ≤ c.copy then labelEnd (endCopyRows c (s.updatePrinting Context.endGood))
  else (endCopyRows c (s.updatePrinting Context.endGood)).updatePrinting fun d => { d with copy := d.copy + 1 }

theorem copyEnd_eq {s : State} {c : Context} (printing : s.lcu.printing = some c) : copyEnd s =
    if labelReady (copyNext c s) && !(copyNext c s).lcu.pauseLatch then continueCopy (copyNext c s)
    else present (copyNext c s) := by
  unfold copyEnd
  simp only [printing]
  rfl

/-- R67, R89: what the end of the copy of `c` leaves before the next one is judged. -/
structure CopyOver (c : Context) (s t : State) : Prop where
  lcu : t.lcu = { s.lcu with
    printing := if c.total ≤ c.copy then s.lcu.staged else some { c.endGood with copy := c.copy + 1 }
    staged := if c.total ≤ c.copy then none else s.lcu.staged }
  rsu : t.rsu = s.rsu.endCopy c.copy c.label
  mtu : t.mtu = s.mtu
  msu : t.msu = s.msu
  htu : t.htu = s.htu
  seu : t.seu = s.seu
  hdu : t.hdu = s.hdu
  mem : t.mem = s.mem
  settings : t.settings = s.settings
  engagement : t.bpu.engagement = s.bpu.engagement
  ring : ¬ c.total ≤ c.copy → t.rrd = s.rrd
  label : t.asu.records.get .label =
    if s.rsu.atEnd c.copy c.label then s.asu.records.get .label
    else (s.asu.records.get .label).record Code.overlong c.tag

/-- R67: the rows of the ended copy, with no delivery waiting. -/
theorem endCopyRows_still {s : State} {c : Context} (still : s.rsu.waiting = false) : endCopyRows c s =
    if s.rsu.atEnd c.copy c.label then { s with rsu := s.rsu.endCopy c.copy c.label }
    else raise .label Code.overlong c.tag { s with rsu := s.rsu.endCopy c.copy c.label } := by
  have wait : endWait s = s := if_neg (by simp [still])
  unfold endCopyRows
  simp only [wait]
  cases s.rsu.atEnd c.copy c.label <;> rfl

theorem copyOver {s : State} {c : Context} (printing : s.lcu.printing = some c) (still : s.rsu.waiting = false)
    (engine : s.lcu.engine = .printing) : CopyOver c s (copyNext c s) := by
  have counted : s.updatePrinting Context.endGood =
      { s with lcu := { s.lcu with printing := some c.endGood } } := by
    rw [State.updatePrinting, printing]
    rfl
  obtain ⟨r, rows, lcu, rsu, mtu, msu, htu, seu, hdu, mem, settings, engagement, rrd, label⟩ :
      ∃ r, endCopyRows c (s.updatePrinting Context.endGood) = r ∧
        r.lcu = { s.lcu with printing := some c.endGood } ∧ r.rsu = s.rsu.endCopy c.copy c.label ∧
        r.mtu = s.mtu ∧ r.msu = s.msu ∧ r.htu = s.htu ∧ r.seu = s.seu ∧ r.hdu = s.hdu ∧ r.mem = s.mem ∧
        r.settings = s.settings ∧ r.bpu.engagement = s.bpu.engagement ∧ r.rrd = s.rrd ∧
        r.asu.records.get .label =
          if s.rsu.atEnd c.copy c.label then s.asu.records.get .label
          else (s.asu.records.get .label).record Code.overlong c.tag := by
    refine ⟨_, rfl, ?_⟩
    rw [counted, endCopyRows_still (by exact still)]
    dsimp only
    by_cases at_ : s.rsu.atEnd c.copy c.label = true
    · rw [if_pos at_, if_pos at_]
      exact ⟨rfl, rfl, rfl, rfl, rfl, rfl, rfl, rfl, rfl, rfl, rfl, rfl⟩
    · rw [if_neg at_, if_neg at_, raise_lcu, raise_rsu, raise_mtu, raise_msu, raise_htu, raise_seu, raise_hdu,
        raise_mem, raise_settings, raise_bpu_engagement, raise_rrd, raise_records, PerSource.get_set]
      exact ⟨rfl, rfl, rfl, rfl, rfl, rfl, rfl, rfl, rfl, rfl, rfl, rfl⟩
  unfold copyNext
  rw [rows]
  by_cases last : c.total ≤ c.copy
  · rw [if_pos last]
    have moved : (labelEnd r).lcu = { s.lcu with printing := s.lcu.staged, staged := none } := by
      unfold labelEnd
      simp only [lcu]
      unfold moveUp
      have configured : State.configured { reportLabelEnd c.endGood r with
          lcu := { (reportLabelEnd c.endGood r).lcu with printing := none } } = true := by
        refine (configured_iff _).2 ?_
        dsimp only
        rw [reportLabelEnd_lcu, lcu]
        dsimp only
        rw [engine]
        decide
      rw [if_pos ⟨configured, rfl⟩, reportLabelEnd_lcu, lcu]
    exact {
      lcu := by rw [moved, if_pos last, if_pos last]
      rsu := (labelEnd_rsu r).trans rsu, mtu := (labelEnd_mtu r).trans mtu, msu := (labelEnd_msu r).trans msu
      htu := (labelEnd_htu r).trans htu, seu := (labelEnd_seu r).trans seu, hdu := (labelEnd_hdu r).trans hdu
      mem := (labelEnd_mem r).trans mem, settings := (labelEnd_settings r).trans settings
      engagement := by rw [labelEnd_bpu, engagement]
      ring := fun more => absurd last more
      label := by rw [labelEnd_asu, label] }
  · rw [if_neg last]
    exact {
      lcu := by
        rw [if_neg last, if_neg last]
        have next_ : (r.updatePrinting fun d => { d with copy := d.copy + 1 }).lcu =
          { r.lcu with printing := r.lcu.printing.map fun d : Context => { d with copy := d.copy + 1 } } := rfl
        rw [next_, lcu]
        rfl
      rsu := rsu, mtu := mtu, msu := msu, htu := htu, seu := seu, hdu := hdu, mem := mem, settings := settings
      engagement := engagement, ring := fun _ => rrd, label := label }

/-- R67: the copy that follows the copy of `c`, if one does. -/
def Context.successor (c : Context) (staged : Option Context) : Option Context :=
  if c.total ≤ c.copy then staged else some { c.endGood with copy := c.copy + 1 }

/-- R67 step 4: the next copy goes on without a stop. -/
def GoesOn (s : State) (c : Context) : Prop :=
  (∃ d, c.successor s.lcu.staged = some d ∧ d.formatRead = true ∧
    (s.rsu.endCopy c.copy c.label).holds d.label d.copy = true) ∧ s.lcu.pauseLatch = false

/-- R67: what the end of the copy of `c` leaves. -/
structure CopyEnded (c : Context) (s t : State) : Prop where
  rsu : t.rsu = s.rsu.endCopy c.copy c.label
  mtu : t.mtu = { s.mtu with source := t.mtu.source }
  msu : t.msu = s.msu
  htu : t.htu = s.htu
  seu : t.seu = s.seu
  hdu : t.hdu = s.hdu
  mem : t.mem = s.mem
  settings : t.settings = s.settings
  engagement : t.bpu.engagement = s.bpu.engagement
  ring : ¬ c.total ≤ c.copy → t.rrd = s.rrd
  label : t.asu.records.get .label =
    if s.rsu.atEnd c.copy c.label then s.asu.records.get .label
    else (s.asu.records.get .label).record Code.overlong c.tag
  staged : t.lcu.staged = if c.total ≤ c.copy then none else s.lcu.staged
  seek : t.lcu.seek = s.lcu.seek
  goesOn : GoesOn s c → t.lcu.engine = .printing ∧
    t.lcu.printing = (c.successor s.lcu.staged).map (fun d => { d with strobed := false }) ∧
    t.lcu.copyTof = some s.mtu.position ∧ t.lcu.started = true ∧ t.mtu.source = s.mtu.source
  presents : ¬ GoesOn s c → t.lcu.engine = .presenting .atEnd ∧
    t.lcu.printing = c.successor s.lcu.staged ∧ t.lcu.copyTof = none ∧ t.lcu.started = false ∧
    t.lcu.presentTof = some s.mtu.position ∧
    t.mtu.source = .distance (.at (s.mtu.position + BitVec.ofNat 32 s.cfg.presentOffset))

/-- R69: an entry into PRESENTING(END). -/
theorem present_eq {s : State} (engine : s.lcu.engine = .printing) : present s = requestRefresh { s with
    lcu := { s.lcu with
      engine := .presenting .atEnd, copyTof := none, started := false, presentTof := some s.mtu.position }
    mtu := { s.mtu with
      source := .distance (.at (s.mtu.position + BitVec.ofNat 32 s.cfg.presentOffset)) } } :=
  setEngine_plain (by exact fun same => Engine.noConfusion (engine.symm.trans same)) rfl

theorem copyEnded {s : State} {c : Context} (printing : s.lcu.printing = some c) (still : s.rsu.waiting = false)
    (engine : s.lcu.engine = .printing) : CopyEnded c s (copyEnd s) := by
  have over_ := copyOver printing still engine
  have goesOn : (labelReady (copyNext c s) && !(copyNext c s).lcu.pauseLatch) = true ↔ GoesOn s c := by
    rw [GoesOn, labelReady, over_.lcu, over_.rsu]
    simp [Option.any_eq_true, Context.successor]
  rw [copyEnd_eq printing]
  generalize copyNext c s = y at over_ goesOn
  by_cases ready : GoesOn s c
  · rw [if_pos (goesOn.2 ready)]
    have lcu : (continueCopy y).lcu = { y.lcu with
        printing := y.lcu.printing.map (fun d => { d with strobed := false })
        copyTof := some y.mtu.position, started := true } := rfl
    rw [over_.lcu, over_.mtu] at lcu
    exact {
      mtu := by
        have paper : (continueCopy y).mtu = s.mtu := over_.mtu
        rw [paper]
      rsu := over_.rsu, msu := over_.msu, htu := over_.htu, seu := over_.seu, hdu := over_.hdu
      mem := over_.mem, settings := over_.settings, engagement := over_.engagement, ring := over_.ring
      label := over_.label
      staged := by rw [lcu]
      seek := by rw [lcu]
      goesOn := fun _ => ⟨by rw [lcu]; exact engine, by rw [lcu]; rfl, by rw [lcu], by rw [lcu],
        congrArg Mtu.source over_.mtu⟩
      presents := fun not => absurd ready not }
  · rw [if_neg (mt goesOn.1 ready), present_eq (by rw [over_.lcu]; exact engine)]
    have refreshed := requestRefresh_eq { y with
      lcu := { y.lcu with
        engine := .presenting .atEnd, copyTof := none, started := false, presentTof := some y.mtu.position }
      mtu := { y.mtu with
        source := .distance (.at (y.mtu.position + BitVec.ofNat 32 y.cfg.presentOffset)) } }
    rw [refreshed]
    exact {
      rsu := over_.rsu, msu := over_.msu, htu := over_.htu, seu := over_.seu, hdu := over_.hdu
      mtu := by dsimp only; rw [over_.mtu]
      mem := over_.mem, settings := over_.settings, engagement := over_.engagement, ring := over_.ring
      label := over_.label
      staged := by dsimp only; rw [over_.lcu]
      seek := by dsimp only; rw [over_.lcu]
      goesOn := fun h => absurd h ready
      presents := fun _ => by
        dsimp only
        rw [over_.lcu, over_.mtu, cfg_congr over_.settings]
        exact ⟨rfl, rfl, rfl, rfl, rfl, rfl⟩ }

/-- R55: the LABEL record after what follows a command. -/
theorem settle_events (s : State) : ∃ events,
    (settle s).asu.records.get .label = (s.asu.records.get .label).after events := by
  rw [settle_asu]
  unfold retireAdvance
  split
  · exact ⟨[], rfl⟩
  · refine ⟨(s.rrd.table.takeWhile (mayRetire s)).filterMap labelEvent, (judgeBandsFree_record _ _ .label).trans ?_⟩
    rw [if_neg fun h => Source.noConfusion h.1]
    exact (retireRun_record _ .label s).trans (if_pos rfl)

/-- R55, R176: what follows a command takes no LABEL event back. -/
theorem settle_label {s : State} (pending : (s.asu.records.get .label).pending = true) :
    ((settle s).asu.records.get .label).pending = true := by
  have after (events : List (Nat × BitVec 16)) : ∀ r : SourceRecord, r.pending = true →
      (r.after events).pending = true := by
    induction events with
    | nil => exact fun _ h => h
    | cons e events ih => exact fun r _ => ih (r.record e.1 e.2) rfl
  obtain ⟨events, record⟩ := settle_events s
  rw [record]
  exact after events _ pending

/-! ## The expiry of a line's period in PRINTING -/

/-- R87, R99, R120, R135: in `t` the step from `s` with index `j` has been taken and its line, of these dots,
delivered for the copy of `c`. -/
def LineTaken (s : State) (c : Context) (j : Nat) (dots : Dots) (t : State) : Prop :=
  let line := lineRecord s.geo s.cfg s.seu.band c.darkness s.seu.h1 s.seu.h2 dots (some (c.copy, c.label))
  t.mem = s.mem ∧ t.htu = s.htu ∧ t.mtu.motion = .forward ∧
    t.mtu.dirForward = true ∧ t.mtu.position = s.mtu.position + 1 ∧ t.mtu.ramp = j ∧ t.mtu.latch = none ∧
    t.mtu.timer = some { period := s.mtu.ramps.period j, elapsed := 0 } ∧
    t.msu.sensing = some (s.mtu.position, s.mtu.ramps.period j) ∧
    t.seu.record = line ∧ t.seu.h1 = line.fired ∧ t.seu.h2 = s.seu.h1 ∧
    t.seu.restTimer = none ∧
    (line.slices = [] ∨ s.htu.supply ≠ .on ∨ s.msu.headOpen = true →
      t.hdu.state = .idle ∧ t.hdu.line = none) ∧
    (line.slices ≠ [] → s.htu.supply = .on → s.msu.headOpen = false →
      t.hdu.state = .active ∧ t.hdu.line = some line ∧ t.hdu.shift = .shifting 1 0 ∧
      t.hdu.firing = none ∧
      t.hdu.bursts = line.slices.map fun x => packBursts s.cfg.dotLimit none 0 x.counts)

theorem headGives_expired {s : State} {dots : Dots} {left : List Slot} {image : Option RepeatImage}
    (gives : HeadGives s dots left image) : HeadGives s.expired dots left image := by
  cases gives with
  | row b r c l got dots left h => exact .row b r c l got dots left h
  | repeats n i rest h k => exact .repeats n i rest h k
  | repeatsNothing n c l rest h k => exact .repeatsNothing n c l rest h k
  | blank n c l rest h => exact .blank n c l rest h
  | endMark c l rest h => exact .endMark c l rest h
  | none h => exact .none h

theorem lineTaken_of {s u t : State} {c : Context} {j : Nat} {dots : Dots} {left : List Slot}
    {image : Option RepeatImage} (started : s.lcu.started = true) (printing : s.lcu.printing = some c)
    (gives : HeadGives s dots left image) (f : FollowsUp u t) (mem : u.mem = s.mem) (htu : u.htu = s.htu)
    (mtu : u.mtu = { (s.expired.stepped j (s.mtu.ramps.period j)).mtu with source := u.mtu.source })
    (sensing : u.msu.sensing = some (s.mtu.position, s.mtu.ramps.period j))
    (seu : u.seu = (s.expired.stepped j (s.mtu.ramps.period j)).seu)
    (hdu : u.hdu = (s.expired.stepped j (s.mtu.ramps.period j)).hdu) : LineTaken s c j dots t := by
  obtain ⟨runOn, mtu_⟩ : ∃ b, t.mtu = { u.mtu with tailRunOn := b } := ⟨_, f.mtu⟩
  obtain ⟨forecast, seu_⟩ : ∃ x, t.seu = { u.seu with forecast := x } := ⟨_, f.seu⟩
  obtain ⟨time, hdu_⟩ : ∃ n, t.hdu = { u.hdu with forecastTime := n } := ⟨_, f.hdu⟩
  have given := headGives_expired gives
  rw [stepped_seu (c := c) (by exact started) (by exact printing) given] at seu
  obtain ⟨idle, fires⟩ := stepped_hdu (j := j) (period := s.mtu.ramps.period j) (s := s.expired) (c := c)
    started printing given
  rw [← hdu] at idle fires
  rw [stepped_mtu] at mtu
  rw [mtu] at mtu_
  rw [seu] at seu_
  refine ⟨f.mem.trans mem, f.htu.trans htu, by rw [mtu_], by rw [mtu_], by rw [mtu_]; rfl, by rw [mtu_],
    by rw [mtu_], by rw [mtu_], by rw [f.msu]; exact sensing, by rw [seu_]; rfl, by rw [seu_]; rfl,
    by rw [seu_]; rfl, by rw [seu_], fun blank => ?_, fun dotted supply closed => ?_⟩
  · rw [hdu_]
    exact idle blank
  · rw [hdu_]
    exact fires dotted supply closed

/-- R67, R68: what the step from `s` does to the copy of `c` where it ends it. -/
theorem forwardStep_ends {s : State} {c : Context} (index period : Nat) (cal : s.msu.cal = none)
    (printing : s.lcu.printing = some c) (seek : s.lcu.seek = none) (limit : 0 < s.cfg.calLimit)
    (still : (s.stepped index period).rsu.waiting = false) (ends : StepEnds s) :
    CopyEnded c (reachTof (s.stepped index period)) (forwardStep index period s) := by
  have lcu : (reachTof (s.stepped index period)).lcu = s.lcu := by
    rw [reachTof_eq]
    exact stepped_lcu s index period
  have settings : (reachTof (s.stepped index period)).settings = s.settings := by
    rw [reachTof_eq]
    exact stepped_settings s index period
  have position : (reachTof (s.stepped index period)).mtu.position = s.mtu.position + 1 := by
    rw [reachTof_eq]
    exact congrArg Mtu.position (stepped_mtu s index period)
  have waits : (reachTof (s.stepped index period)).rsu.waiting = false := by
    rw [reachTof_eq]
    exact still
  have uncounted : countCalibration (reachTof (s.stepped index period)) = reachTof (s.stepped index period) :=
    countCalibration_none (by rw [reachTof_msu, stepped_msu]; exact cal)
  have ended := copyEnded (s := reachTof (s.stepped index period)) (c := c) (by rw [lcu]; exact printing) waits
    (by rw [lcu]; exact ends.1)
  have judged : judgeCopyEnd (reachesTof (s.stepped index period)) (reachTof (s.stepped index period)) =
      copyEnd (reachTof (s.stepped index period)) :=
    if_pos ((atCopyEnd_iff s _ index period lcu settings position).2 ends)
  have step_ : forwardStep index period s = judgeLimits (judgeCopyEnd (reachesTof (s.stepped index period))
      (countCalibration (reachTof (s.stepped index period)))) := rfl
  have quiet : judgeLimits (copyEnd (reachTof (s.stepped index period))) =
      copyEnd (reachTof (s.stepped index period)) := by
    refine judgeLimits_quiet (fun k same => ?_) fun engine p fixed => ?_
    · rw [ended.seek, lcu, seek] at same
      exact nomatch same
    · by_cases goes : GoesOn (reachTof (s.stepped index period)) c
      · obtain ⟨-, -, copyTof, -⟩ := ended.goesOn goes
        obtain rfl := Option.some.inj (copyTof.symm.trans fixed)
        rw [cfg_congr (ended.settings.trans settings), ended.mtu]
        have zero : linesAhead (reachTof (s.stepped index period)).mtu.position
            (reachTof (s.stepped index period)).mtu.position = 0 := by simp [linesAhead, ahead]
        exact zero.trans_lt limit
      · obtain ⟨presenting, -⟩ := ended.presents goes
        exact Engine.noConfusion (presenting.symm.trans engine)
  rw [step_, uncounted, judged, quiet]
  exact ended

/-- What a step's end over a queued top of form leaves alone. -/
theorem reached_units (s : State) (index period : Nat) :
    let x := reachTof (s.stepped index period)
    x.mem = s.mem ∧ x.htu = s.htu ∧ x.lcu = s.lcu ∧ x.bpu = s.bpu ∧ x.rrd = s.rrd ∧ x.asu = s.asu ∧
      x.settings = s.settings ∧ x.mtu = (s.stepped index period).mtu ∧ x.seu = (s.stepped index period).seu ∧
      x.hdu = (s.stepped index period).hdu ∧ x.rsu = (s.stepped index period).rsu ∧
      x.msu.sensing = some (s.mtu.position, period) := by
  intro x
  have form : x = { s.stepped index period with msu := x.msu } := reachTof_eq _
  have sensing : x.msu.sensing = some (s.mtu.position, period) := by
    rw [reachTof_msu, stepped_msu]
  refine ⟨?_, ?_, ?_, ?_, ?_, ?_, ?_, ?_, ?_, ?_, ?_, sensing⟩
  · rw [form, stepped_mem]
  · rw [form, stepped_htu]
  · rw [form, stepped_lcu]
  · rw [form, stepped_bpu]
  · rw [form, stepped_rrd]
  · rw [form, stepped_asu]
  · rw [form, stepped_settings]
  all_goals rw [form]

/-- R155: at a queued top of form the head entry leaves the edge queue. -/
theorem reachTof_pops {s : State} (at_ : s.msu.queue.head?.map (fun e => e.tof) = some s.mtu.position) :
    (reachTof s).msu.queue = s.msu.queue.tail := by
  unfold reachTof
  split
  next empty => exact empty ▸ rfl
  next e rest queue =>
    rw [queue] at at_ ⊢
    rw [if_pos (Option.some.inj at_)]
    rfl

theorem atEnd_iff (r : Rsu) (copy : Nat) (label : Idx) : r.atEnd copy label = true ↔
    ∃ rest, r.buffer = .endMark copy label :: rest := by
  unfold Rsu.atEnd
  split
  next c l rest buffer =>
    rw [buffer, Bool.and_eq_true, beq_iff_eq, beq_iff_eq]
    refine ⟨fun ⟨hc, hl⟩ => ⟨rest, by rw [hc, hl]⟩, fun ⟨_, same⟩ => ?_⟩
    obtain ⟨mark, -⟩ := List.cons.inj same
    exact ⟨(Slot.endMark.inj mark).1, (Slot.endMark.inj mark).2⟩
  next other =>
    refine ⟨fun h => Bool.noConfusion h, fun ⟨rest, same⟩ => absurd same (other copy label rest)⟩

/-- Settles O40. -/
theorem printedLine : Obligations.PrintedLine := by
  refine ⟨?_, ?_⟩
  · intro s c j dots left image engine started printing cal seek timer motion idle plan gives next line filled
      taken steps ends
    have takenKept : taken.discard = s.rsu.discard ∧ taken.waiting = false := by
      unfold taken filled
      split
      · exact ⟨(fill_kept _).2.1, (fill_kept _).2.2⟩
      · exact ⟨rfl, rfl⟩
    have expires : linePeriodExpires s = forwardStep j (s.mtu.ramps.period j) s.expired := by
      rw [linePeriodExpires_forward timer motion, planningPoint_step plan idle]
    have given := headGives_expired gives
    obtain ⟨mem, htu, lcu, bpu, rrd, asu, settings, mtu, seu, hdu, rsu, sensing⟩ :=
      reached_units s.expired j (s.mtu.ramps.period j)
    have rsu_ : (reachTof (s.expired.stepped j (s.mtu.ramps.period j))).rsu = taken :=
      rsu.trans (stepped_rsu (s := s.expired) (c := c) started printing given)
    have refill : filled taken = taken := by
      unfold taken filled
      split
      · exact fill_fill _
      · rfl
    have ends_ : StepEnds s.expired ↔ ends := by
      have length : (s.expired.lcu.printing.map fun c => c.length).getD 0 = c.length := by
        show (s.lcu.printing.map fun c => c.length).getD 0 = _
        rw [printing]
        rfl
      unfold StepEnds
      rw [length]
      exact ⟨fun h => h.2.2, fun h => ⟨engine, started, h⟩⟩
    refine ⟨fun goesOn tail => ⟨_, rfl, ?_⟩, fun isEnd limit => ⟨_, rfl, ?_⟩⟩
    · have step_ := forwardStep_quiet (s := s.expired) j (s.mtu.ramps.period j)
        (fun r h => nomatch cal.symm.trans h) (mt ends_.1 goesOn) (fun k h => nomatch seek.symm.trans h)
        (fun _ => tail)
      rw [expires, step_]
      dsimp only
      generalize reachTof (s.expired.stepped j (s.mtu.ramps.period j)) = x at *
      have f := settle_followsUp { x with msu := { x.msu with cal := s.expired.msu.cal.map CalRun.counted } }
      refine ⟨lineTaken_of started printing gives f mem htu (by dsimp only; rw [mtu]) sensing seu hdu,
        f.lcu.trans lcu, f.rsu.trans ?_⟩
      dsimp only
      rw [bpu, rsu_]
      exact refill
    · have still : (s.expired.stepped j (s.mtu.ramps.period j)).rsu.waiting = false := by
        rw [← rsu, rsu_]
        exact takenKept.2
      have ended := forwardStep_ends (s := s.expired) (c := c) j (s.mtu.ramps.period j) cal printing seek limit
        still (ends_.2 isEnd)
      have pops : s.gapped = true →
          (reachTof (s.expired.stepped j (s.mtu.ramps.period j))).msu.queue = s.msu.queue.tail := fun gapped => by
        have at_ : s.msu.queue.head?.map (fun e => e.tof) = some next := by
          have onGap := isEnd
          simp only [ends, gapped, if_true] at onGap
          obtain ⟨p, -, -, at_⟩ := onGap
          exact at_
        rw [reachTof_pops (by rw [stepped_msu, stepped_mtu]; exact at_), stepped_msu]
        rfl
      rw [expires]
      generalize forwardStep j (s.mtu.ramps.period j) s.expired = u at ended ⊢
      generalize reachTof (s.expired.stepped j (s.mtu.ramps.period j)) = x at *
      have f := settle_followsUp u
      have stream : (settle u).rsu = filled (taken.endCopy c.copy c.label) := by
        rw [f.rsu, ended.engagement, bpu, ended.rsu, rsu_]
        rfl
      have emptied : (filled (taken.endCopy c.copy c.label)).repeatImage = none ∧
          (filled (taken.endCopy c.copy c.label)).discard = (taken.endCopy c.copy c.label).discard := by
        unfold filled
        split
        · exact ⟨(fill_kept _).1, (fill_kept _).2.1⟩
        · exact ⟨rfl, rfl⟩
      obtain ⟨none_, discard⟩ := emptied
      have position : x.mtu.position = next := by rw [mtu, stepped_mtu]; rfl
      have source : x.mtu.source = s.mtu.source := by rw [mtu, stepped_mtu]; rfl
      refine ⟨lineTaken_of started printing gives f (ended.mem.trans mem) (ended.htu.trans htu)
        (by rw [ended.mtu, mtu]) (by rw [ended.msu]; exact sensing) (ended.seu.trans seu) (ended.hdu.trans hdu), ?_⟩
      intro mine good last successor ready
      have goesOn : GoesOn x c ↔ ready ∧ s.lcu.pauseLatch = false := by
        unfold GoesOn
        rw [lcu, rsu_]
        exact Iff.rfl
      refine ⟨by rw [stream]; exact none_, ?_, ?_, ?_, fun notAt => ?_, fun rest at_ more quiet => ?_, ?_, ?_, ?_⟩
      · rw [stream]
        unfold filled
        split
        · exact fill_all (P := fun k l => (k == c.copy && l == c.label) = false) (endCopy_stream _ _ _)
        · exact endCopy_stream _ _ _
      · rw [stream, discard, endCopy_discard, takenKept.1]
      · intro gapped
        rw [f.msu, ended.msu]
        exact pops gapped
      · have notAtEnd : ¬ x.rsu.atEnd c.copy c.label = true := fun h => by
          rw [rsu_] at h
          obtain ⟨rest, buffer⟩ := (atEnd_iff _ _ _).1 h
          exact notAt rest buffer
        have label := ended.label
        rw [if_neg notAtEnd] at label
        refine ⟨settle_label (by rw [label]; rfl), fun more quiet => ?_⟩
        have same : (settle u).asu = u.asu := (f.quiet fun e he => .inl (quiet e (by
          rw [ended.ring more, rrd] at he
          exact he))).2.2.2
        rw [same, label]
        exact ⟨rfl, rfl⟩
      · have atEnd : x.rsu.atEnd c.copy c.label = true := by
          rw [rsu_]
          exact (atEnd_iff _ _ _).2 ⟨rest, at_⟩
        have label := ended.label
        rw [if_pos atEnd, asu] at label
        have same : (settle u).asu = u.asu := (f.quiet fun e he => .inl (quiet e (by
          rw [ended.ring more, rrd] at he
          exact he))).2.2.2
        rw [same, label]
        rfl
      · rw [f.lcu, ended.staged, lcu]
        rfl
      · intro goes
        obtain ⟨engine_, printing_, copyTof, started_, source_⟩ := ended.goesOn (goesOn.2 goes)
        rw [f.lcu, f.mtu]
        exact ⟨engine_, by rw [printing_, lcu]; rfl, by rw [copyTof, position], started_, source_.trans source⟩
      · intro stays
        obtain ⟨engine_, printing_, copyTof, started_, presentTof, source_⟩ := ended.presents (mt goesOn.1 stays)
        rw [f.lcu, f.mtu]
        exact ⟨engine_, by rw [printing_, lcu]; rfl, copyTof, started_, by rw [presentTof, position],
          by dsimp only; rw [source_, position, cfg_congr settings]; rfl⟩
  · intro s c j b r k l got rest engine started printing cal seek timer motion idle plan buffer next tofs length
      tail
    have expires : linePeriodExpires s = forwardStep j (s.mtu.ramps.period j) s.expired := by
      rw [linePeriodExpires_forward timer motion, planningPoint_step plan idle]
    have head : ∀ e ∈ s.msu.queue.head?, e.tof ≠ next := by
      cases gapped : s.gapped with
      | true => exact tofs gapped
      | false => exact (length gapped).1
    have step_ := forwardStep_plain (s := s.expired) j (s.mtu.ramps.period j) cal head seek tail
      (fun gapped p hp => by
        show s.mtu.position + 1 ≠ p + BitVec.ofNat 32 ((s.lcu.printing.map fun c => c.length).getD 0)
        rw [printing]
        exact (length gapped).2 p hp)
    have waits := deliverLine_waits (s := beginLine j (s.mtu.ramps.period j) s.expired) (c := c) started printing
      buffer
    refine ⟨_, rfl, ?_⟩
    rw [expires, step_, State.stepped, waits]
    exact settle_followsUp _

/-! ## A settings re-read that rewinds the walk (R53, R67, R75, R170) -/

/-- Blank tail of a copy at PRINTING, a line still firing and the next step held back, while a re-read for the SETTINGS item
at index 44 has returned: its dwell time of 1 and its calibration limit, clamped up to 1, are both passed already. -/
def rereadingInTail : State :=
  let s := Tests.rereading .forward
  { s with
    lcu := { s.lcu with
      engine := .printing, printing := some { Tests.context with label := 43 }
      started := true, copyTof := some 0 }
    rsu := { s.rsu with buffer := [.endMark 1 43] }
    hdu := { s.hdu with state := .active }
    mtu := { s.mtu with latch := some (0, 200), position := 5 }
    htu := { s.htu with supply := .on, dwell := some 100 }
    rrd := { s.rrd with reread := some (List.replicate 56 0 ++ 1 :: List.replicate 199 0) } }

/-- The re-read of `rereadingInTail` ends in a fault whose rewind puts the walk index back on the SETTINGS item: the
item is COMPLETE and does not retire. -/
theorem rereadingInTail_keeps_item :
    ∃ t, exec .settingsRereadComplete rereadingInTail = .next t ∧ t.lcu.engine = .faulted ∧ t.rrd.walk = 44 ∧
      t.rrd.retire = 44 ∧ t.rrd.table.map ItemEntry.index = [44] ∧
      t.rrd.table.map ItemEntry.complete = [true] :=
  ⟨settle (completeReread rereadingInTail), rfl, by decide +kernel⟩

/-- Refutes O37: its last clause, that a lone SETTINGS item retires, leaves the timers out. In `rereadingInTail` the new
dwell time turns the supply OFF, the cut line releases the step it held back, this step passes the new calibration
limit of the blank tail, and GAP_MISSING spoils the copy: the rewind of the walk to index 44 keeps the item (log 51). -/
theorem not_settingsReread : ¬ Obligations.SettingsReread := by
  unfold Obligations.SettingsReread
  intro ⟨_, reread⟩
  obtain ⟨t, ran, _, _, _, _, _, _, _, _, _, _, _, lone⟩ :=
    reread rereadingInTail 44 _ rfl rfl (by decide)
  obtain ⟨u, same, -, -, -, indices, -⟩ := rereadingInTail_keeps_item
  obtain rfl : t = u := Host.Outcome.next.inj (ran.symm.trans same)
  have retired : t.rrd.table = [] :=
    (lone (Tests.entry 44 .settings false) rfl rfl rfl rfl rfl rfl rfl).1
  rw [retired] at indices
  cases indices

/-! ## Entry into ARMING (R65, R66, R146, R161) -/

/-- R65, R168, R171: the engine state, the supply and the conversion of an entry into ARMING, the media not yet
examined. -/
def State.arms (s : State) : State := requestConversion (requestSupply (setEngine .arming s))

theorem arms_units (s : State) : s.arms.mtu = s.mtu ∧ s.arms.msu = s.msu ∧ s.arms.seu = s.seu ∧
    s.arms.settings = s.settings ∧ s.arms.bpu.geometry = s.bpu.geometry ∧
    s.arms.lcu = { s.lcu with engine := .arming } := by
  simp [State.arms]

theorem arms_htu (s : State) :
    (s.lcu.engine ≠ .arming → s.arms.htu.dwell = s.htu.dwell.map fun _ => 0) ∧
    s.arms.htu = { s.htu with
      dwell := s.arms.htu.dwell
      conversions := s.htu.conversions + 1
      supply := if s.htu.supply = .off then .settling else s.htu.supply
      settle := if s.htu.supply = .off then
        some { time := s.cfg.settleTime, elapsed := 0 } else s.htu.settle } := by
  have cfg : (setEngine .arming s).cfg = s.cfg := cfg_congr (setEngine_settings _ _)
  have htu : (setEngine .arming s).htu = { s.htu with dwell := (setEngine .arming s).htu.dwell } := by
    rw [setEngine_htu]
    split <;> rfl
  have dwell : s.arms.htu.dwell = (setEngine .arming s).htu.dwell := by
    unfold State.arms requestConversion requestSupply
    split <;> rfl
  refine ⟨fun differs => ?_, ?_⟩
  · rw [dwell, setEngine_htu, if_pos ⟨differs, rfl⟩]
  · rw [dwell]
    unfold State.arms requestConversion requestSupply
    rw [cfg]
    split
    next off =>
      rw [htu] at off ⊢
      rw [if_pos off, if_pos off]
    next live =>
      rw [htu] at live ⊢
      rw [if_neg live, if_neg live]

/-- R155: a top of form that returns to the edge queue, or overflows it. -/
theorem returnTof_units (before : Pos) (s : State) : (returnTof before s).mtu = s.mtu ∧
    (returnTof before s).seu = s.seu ∧ (returnTof before s).lcu = s.lcu ∧ (returnTof before s).htu = s.htu := by
  unfold returnTof
  split
  · exact ⟨rfl, rfl, rfl, rfl⟩
  · split
    · split
      · exact ⟨rfl, rfl, rfl, rfl⟩
      · rw [overflowEdges_eq]
        exact ⟨raise_mtu .., raise_seu .., raise_lcu .., raise_htu ..⟩
    · exact ⟨rfl, rfl, rfl, rfl⟩

/-- R146, R155: a backward step in the Motion Unit and elsewhere. -/
theorem backwardStep_units (s : State) :
    (backwardStep s).mtu = { s.mtu with
      motion := .backward, dirForward := false, ramp := 0, latch := none, position := s.mtu.position - 1
      backfeed := s.mtu.backfeed - 1
      timer := some { period := s.mtu.ramps.period 0, elapsed := 0 } } ∧
    (backwardStep s).seu = { s.seu with restTimer := none } ∧ (backwardStep s).lcu = s.lcu ∧
    (backwardStep s).htu = s.htu :=
  returnTof_units _ _

/-- R65, R146, R110: what placing a copy does, by the lines the paper has to go back. -/
theorem prepareCopy_units (p : Pos) (s : State) :
    let t := prepareCopy p s
    let k := linesAhead s.mtu.position p
    t.lcu = { s.lcu with copyTof := some p } ∧ t.htu = s.htu ∧ (k = 0 → t.mtu = s.mtu) ∧
    (0 < k → t.mtu = { s.mtu with
        motion := .backward, dirForward := false, ramp := 0, latch := none, position := s.mtu.position - 1
        backfeed := k - 1, timer := some { period := s.mtu.ramps.period 0, elapsed := 0 } } ∧
      t.seu = { s.seu with h1 := s.geo.blankRow, h2 := s.geo.blankRow, restTimer := none }) := by
  intro t k
  by_cases none_ : k = 0
  · have stays : t = { s with lcu := { s.lcu with copyTof := some p } } := if_pos none_
    rw [stays]
    exact ⟨rfl, rfl, fun _ => rfl, fun some_ => absurd none_ some_.ne'⟩
  · have back : t = backwardStep (clearHistory
        { s with lcu := { s.lcu with copyTof := some p }, mtu := { s.mtu with backfeed := k } }) := if_neg none_
    obtain ⟨mtu, seu, lcu, htu⟩ := backwardStep_units (clearHistory
      { s with lcu := { s.lcu with copyTof := some p }, mtu := { s.mtu with backfeed := k } })
    rw [back]
    exact ⟨lcu, htu, fun h => absurd h none_, fun _ => ⟨mtu, seu⟩⟩

/-- R161, R163: a counted step outside an arming calibration changes the label control's operation alone. -/
theorem countCalibration_course {s : State} (engine : s.lcu.engine ≠ .calibrating .arming) :
    (countCalibration s).lcu = { s.lcu with operation := (countCalibration s).lcu.operation } ∧
    (countCalibration s).htu = s.htu ∧ (countCalibration s).settings = s.settings ∧
    (countCalibration s).mtu.position = s.mtu.position := by
  unfold countCalibration
  split
  next r _ =>
    dsimp only
    split
    · obtain ⟨mtu, htu, -⟩ := failCalibration_units r { s with msu := { s.msu with cal := some r.counted } }
      have lcu := failCalibration_course r { s with msu := { s.msu with cal := some r.counted } }
      rw [if_neg (by exact engine)] at lcu
      exact ⟨by rw [lcu], htu, (inner_failCalibration _ _).settings, by rw [mtu]⟩
    · exact ⟨rfl, rfl, rfl, rfl⟩
  · exact ⟨rfl, rfl, rfl, rfl⟩

/-- R66, R135: a step of a seek that has its target, or lines left. -/
theorem forwardStep_seeking {s : State} (index period : Nat) (engine : s.lcu.engine = .seeking)
    (few : ∀ k, s.lcu.seek = some k → k.target = none →
      linesAhead (s.mtu.position + 1) k.start < s.cfg.calLimit) :
    forwardStep index period s = countCalibration (reachTof (s.stepped index period)) := by
  have units : (reachTof (s.stepped index period)).lcu = s.lcu ∧
      (reachTof (s.stepped index period)).mtu.position = s.mtu.position + 1 ∧
      (reachTof (s.stepped index period)).settings = s.settings := by
    rw [reachTof_eq]
    exact ⟨stepped_lcu .., by dsimp only; rw [stepped_mtu], stepped_settings ..⟩
  obtain ⟨lcu, position, settings⟩ := units
  obtain ⟨course, -, kept, place⟩ := countCalibration_course (s := reachTof (s.stepped index period))
    (by rw [lcu, engine]; decide)
  have state : (countCalibration (reachTof (s.stepped index period))).lcu.engine = .seeking := by
    rw [course, lcu]
    exact engine
  have seek : (countCalibration (reachTof (s.stepped index period))).lcu.seek = s.lcu.seek := by
    rw [course, lcu]
  have noEnd : judgeCopyEnd (reachesTof (s.stepped index period))
      (countCalibration (reachTof (s.stepped index period))) =
      countCalibration (reachTof (s.stepped index period)) :=
    if_neg (by simp [atCopyEnd, state])
  refine (congrArg judgeLimits noEnd).trans (judgeLimits_quiet ?_ ?_)
  · rw [seek, place, position, cfg_congr (kept.trans settings)]
    exact few
  · rw [state]
    exact fun no => absurd no (by decide)

/-- What a first step forward from ramp index 0 shows. -/
def FirstStep (s t : State) : Prop :=
  t.mtu.motion = .forward ∧ t.mtu.dirForward = true ∧ t.mtu.ramp = 0 ∧
    t.mtu.position = s.mtu.position + 1 ∧ t.seu.restTimer = none ∧
    t.mtu.timer = some { period := s.mtu.ramps.period 0, elapsed := 0 }

theorem linesAhead_succ_lt {p : Pos} {n : Nat} (h : 1 < n) : linesAhead (p + 1) p < n := by
  have one : linesAhead (p + 1) p ≤ 1 := by
    unfold linesAhead ahead
    rw [BitVec.add_comm, BitVec.add_sub_cancel]
    decide
  omega

/-- R66: the planning source of a seek with this target. -/
def seekSource (target : Option Pos) : PlanSource := .distance (match target with
  | some p => .at p
  | none => .renewed)

/-- R66: a seek before its first step. -/
def State.seeks (s : State) : State :=
  let u := setEngine .seeking s
  { u with lcu := { u.lcu with seek := some { start := s.mtu.position, target := firstTofAhead s } }
           mtu := { s.mtu with source := seekSource (firstTofAhead s) } }

theorem enterSeeking_eq (s : State) : enterSeeking s = startForward s.seeks := by
  have target : firstTofAhead (setEngine .seeking s) = firstTofAhead s := by
    unfold firstTofAhead
    rw [setEngine_msu, setEngine_mtu]
  unfold enterSeeking startSeek State.seeks seekSource
  rw [target, setEngine_mtu] <;> rfl

/-- R66: entry into SEEKING, where the calibration limit allows a first step. -/
theorem enterSeeking_units {s : State} (far : 1 < s.cfg.calLimit) :
    let t := enterSeeking s
    t.lcu = { s.lcu with
      engine := .seeking, operation := t.lcu.operation
      seek := some { start := s.mtu.position, target := firstTofAhead s } } ∧
    t.htu = s.htu ∧
    (s.msu.cal = none → FirstStep s t ∧ t.mtu.source = seekSource (firstTofAhead s)) := by
  intro t
  have ran : t = countCalibration (reachTof (s.seeks.stepped 0 (s.mtu.ramps.period 0))) := by
    refine (enterSeeking_eq s).trans (forwardStep_seeking _ _ (by simp [State.seeks]) ?_)
    rintro k seek -
    obtain rfl := Option.some.inj seek
    have cfg : s.seeks.cfg = s.cfg := cfg_congr (setEngine_settings _ _)
    rw [cfg]
    exact linesAhead_succ_lt far
  have settings : s.seeks.settings = s.settings := setEngine_settings _ _
  have lcu : s.seeks.lcu = { s.lcu with
      engine := .seeking, seek := some { start := s.mtu.position, target := firstTofAhead s } } := by
    simp [State.seeks]
  obtain ⟨reached, htu⟩ : (reachTof (s.seeks.stepped 0 (s.mtu.ramps.period 0))).lcu = s.seeks.lcu ∧
      (reachTof (s.seeks.stepped 0 (s.mtu.ramps.period 0))).htu = s.htu := by
    rw [reachTof_eq]
    exact ⟨stepped_lcu .., (stepped_htu ..).trans (by simp [State.seeks, setEngine_htu, Engine.kept])⟩
  obtain ⟨course, heat, -⟩ := countCalibration_course
    (s := reachTof (s.seeks.stepped 0 (s.mtu.ramps.period 0))) (by rw [reached, lcu]; nofun)
  refine ⟨?_, ?_, fun cal => ?_⟩
  · rw [ran, course, reached, lcu]
  · rw [ran, heat, htu]
  · rw [ran, countCalibration_none (by rw [reachTof_msu, stepped_msu]; simpa [State.seeks] using cal)]
    rw [reachTof_eq]
    refine ⟨?_, ?_⟩
    · unfold FirstStep
      dsimp only
      rw [stepped_mtu, stepped_restTimer]
      exact ⟨rfl, rfl, rfl, rfl, rfl, rfl⟩
    · dsimp only
      rw [stepped_mtu]
      rfl

/-- R72, R161: a calibration run before its first step. -/
def State.calibrates (s : State) (why : CalReason) : State :=
  let u := startCalibration (setEngine (.calibrating why) s)
  { u with mtu := { u.mtu with source := .distance .unbounded, limitZero := true } }

/-- R161: the Media Sensing Unit as a calibration run begins. -/
def Msu.calibrates (m : Msu) (position : Pos) : Msu :=
  { m.loseAndEmpty with
    polarity := .unknown, senseMark := position
    cal := some { phase := .learning, count := 0, measured := none, savedPolarity := m.polarity,
                  savedCalibrated := m.calibrated } }

theorem startCalibration_units (s : State) :
    (startCalibration s).lcu = s.lcu ∧ (startCalibration s).mtu = s.mtu ∧ (startCalibration s).mem = s.mem ∧
    (startCalibration s).msu = s.msu.calibrates s.mtu.position ∧ (startCalibration s).htu = s.htu ∧
    (startCalibration s).settings = s.settings ∧
    (s.msu.valid = true → (startCalibration s).asu.records.get .media =
      (s.asu.records.get .media).record Code.regLost (argOf 3)) ∧
    (s.msu.valid = false →
      (startCalibration s).asu.records.get .media = s.asu.records.get .media) := by
  let run : CalRun :=
    { phase := .learning, count := 0, measured := none, savedPolarity := s.msu.polarity,
      savedCalibrated := s.msu.calibrated }
  let u : State :=
    { s with msu := { s.msu with polarity := .unknown, senseMark := s.mtu.position, cal := some run } }
  obtain ⟨lcu, mtu, mem, msu, htu⟩ := loseRegistration_units 3 u
  obtain ⟨was, lost⟩ := loseRegistration_media 3 u
  exact ⟨lcu, mtu, mem, msu, htu, loseRegistration_settings 3 u, was, lost⟩

theorem calibrates_units (s : State) (why : CalReason) :
    (s.calibrates why).mtu = { s.mtu with source := .distance .unbounded, limitZero := true } ∧
    (s.calibrates why).msu = s.msu.calibrates s.mtu.position ∧
    (s.calibrates why).lcu = { s.lcu with engine := .calibrating why } ∧ (s.calibrates why).htu = s.htu ∧
    (s.calibrates why).settings = s.settings ∧ (s.calibrates why).mem = s.mem := by
  obtain ⟨lcu, mtu, mem, msu, htu, settings, -⟩ := startCalibration_units (setEngine (.calibrating why) s)
  unfold State.calibrates
  dsimp only
  rw [lcu, mtu, mem, msu, htu, settings]
  simp [setEngine_htu, Engine.kept]

/-- R72, R161: entry into CALIBRATING, where the calibration limit allows a first step. -/
theorem enterCalibrating_units {s : State} (why : CalReason) (far : 1 < s.cfg.calLimit)
    (noSeek : s.lcu.seek = none) :
    enterCalibrating why s = { (s.calibrates why).stepped 0 (s.mtu.ramps.period 0) with
      msu := { s.msu.calibrates s.mtu.position with
        cal := (s.msu.calibrates s.mtu.position).cal.map CalRun.counted
        sensing := some (s.mtu.position, s.mtu.ramps.period 0) } } := by
  obtain ⟨mtu, msu, lcu, -, settings, -⟩ := calibrates_units s why
  have empty : (s.calibrates why).msu.queue = [] := by
    rw [msu]
    rfl
  have reached : reachTof ((s.calibrates why).stepped 0 (s.mtu.ramps.period 0)) =
      (s.calibrates why).stepped 0 (s.mtu.ramps.period 0) :=
    reachTof_none (by rw [stepped_msu, empty]; nofun)
  have period : (s.calibrates why).mtu.ramps.period 0 = s.mtu.ramps.period 0 := by
    rw [mtu]
    rfl
  have step : enterCalibrating why s = forwardStep 0 (s.mtu.ramps.period 0) (s.calibrates why) := by
    rw [← period]
    rfl
  rw [step, forwardStep_quiet]
  · dsimp only
    rw [reached, stepped_msu, msu, mtu]
  · intro r cal
    rw [msu] at cal
    obtain rfl := Option.some.inj cal
    rw [← Bool.not_eq_true, atLimit_iff, cfg_congr settings]
    dsimp only
    omega
  · rintro ⟨printing, -⟩
    rw [lcu] at printing
    cases printing
  · rw [lcu]
    rw [noSeek]
    nofun
  · rw [lcu]
    nofun

/-! ## The choice that enters ARMING (R64, R65) -/

/-- `u` stands as `s` in all that an entry into ARMING examines, with no copy, no seek and no pause. -/
structure ArmsAs (s u : State) : Prop where
  engine : u.lcu.engine = s.lcu.engine := by rfl
  mtu : u.mtu = s.mtu := by rfl
  msu : u.msu = s.msu := by rfl
  htu : u.htu = s.htu := by rfl
  settings : u.settings = s.settings := by rfl
  geometry : u.bpu.geometry = s.bpu.geometry := by rfl
  restTof : u.lcu.restTof = s.lcu.restTof := by rfl
  started : u.lcu.started = false := by rfl
  noSeek : u.lcu.seek = none := by rfl
  unpaused : u.lcu.pauseLatch = false

/-- R65, R146: from `s`, the copy's TOF is fixed at `p` in ARMING, paper ahead of it being backfed. -/
def PlacedAt (s t : State) (p : Pos) : Prop :=
  let k := linesAhead s.mtu.position p
  t.lcu.engine = .arming ∧ t.lcu.copyTof = some p ∧ t.lcu.started = false ∧
  (k = 0 → t.mtu = { s.mtu with tailRunOn := t.mtu.tailRunOn }) ∧
  (0 < k → t.mtu.motion = .backward ∧ t.mtu.dirForward = false ∧ t.mtu.ramp = 0 ∧
    t.mtu.position = s.mtu.position - 1 ∧ t.mtu.backfeed = k - 1 ∧
    t.mtu.timer = some { period := s.mtu.ramps.period 0, elapsed := 0 } ∧
    t.seu.h1 = s.geo.blankRow ∧ t.seu.h2 = s.geo.blankRow ∧ t.seu.restTimer = none)

theorem prepareCopy_placed {s u : State} (h : ArmsAs s u) (p : Pos) : PlacedAt s (prepareCopy p u.arms) p := by
  obtain ⟨mtu, -, -, -, geometry, lcu⟩ := arms_units u
  have geo : u.arms.geo = s.geo := by rw [State.geo, State.geo, geometry, h.geometry]
  obtain ⟨course, -, stays, back⟩ := prepareCopy_units p u.arms
  rw [mtu, h.mtu] at stays back
  unfold PlacedAt
  rw [course, lcu]
  refine ⟨rfl, rfl, h.started, fun near => ?_, fun far => ?_⟩
  · rw [stays near]
  · obtain ⟨motion, history⟩ := back far
    rw [motion, history, geo]
    exact ⟨rfl, rfl, rfl, rfl, rfl, rfl, rfl, rfl, rfl⟩

theorem examineMedia_continuous {s : State} (media : s.gapped = false) :
    examineMedia s = prepareCopy (s.lcu.restTof.getD s.mtu.position) s :=
  if_neg (by rw [media]; decide)

theorem examineMedia_unknown {s : State} (media : s.gapped = true) (unknown : s.msu.polarity = .unknown) :
    examineMedia s = enterCalibrating .arming s := by
  rw [examineMedia, if_pos media, if_pos unknown]

theorem examineMedia_known {s : State} {p : Pos} (media : s.gapped = true) (known : s.msu.polarity ≠ .unknown)
    (valid : s.msu.valid = true) (rest : s.lcu.restTof = some p) : examineMedia s = prepareCopy p s := by
  rw [examineMedia, if_pos media, if_neg known]
  simp only [valid, rest]

theorem examineMedia_lost {s : State} (media : s.gapped = true) (known : s.msu.polarity ≠ .unknown)
    (lost : s.msu.valid = false ∨ s.lcu.restTof = none) : examineMedia s = enterSeeking s := by
  rw [examineMedia, if_pos media, if_neg known]
  split
  next p valid rest =>
    rw [valid, rest] at lost
    simp at lost
  · rfl

/-- R65: what every entry into ARMING leaves of the Label Control Unit and does to the supply. -/
theorem examineMedia_units {s : State} (far : 1 < s.cfg.calLimit) (noSeek : s.lcu.seek = none) :
    (examineMedia s).lcu.printing = s.lcu.printing ∧ (examineMedia s).lcu.staged = s.lcu.staged ∧
    (examineMedia s).lcu.faults = s.lcu.faults ∧ (examineMedia s).lcu.pauseLatch = s.lcu.pauseLatch ∧
    (examineMedia s).htu = s.htu := by
  have placed (p : Pos) : (prepareCopy p s).lcu.printing = s.lcu.printing ∧
      (prepareCopy p s).lcu.staged = s.lcu.staged ∧ (prepareCopy p s).lcu.faults = s.lcu.faults ∧
      (prepareCopy p s).lcu.pauseLatch = s.lcu.pauseLatch ∧ (prepareCopy p s).htu = s.htu := by
    obtain ⟨lcu, htu, -⟩ := prepareCopy_units p s
    rw [lcu]
    exact ⟨rfl, rfl, rfl, rfl, htu⟩
  unfold examineMedia
  split
  · split
    · rw [enterCalibrating_units .arming far noSeek]
      obtain ⟨-, -, lcu, htu, -⟩ := calibrates_units s .arming
      dsimp only
      rw [stepped_lcu, stepped_htu, lcu]
      exact ⟨rfl, rfl, rfl, rfl, htu⟩
    · split
      · exact placed _
      · obtain ⟨lcu, htu, -⟩ := enterSeeking_units far
        rw [lcu]
        exact ⟨rfl, rfl, rfl, rfl, htu⟩
  · exact placed _

/-- R65: entry into ARMING, before what follows every command. -/
theorem enterArming_enters {s u : State} (h : ArmsAs s u) (far : 1 < s.cfg.calLimit) :
    EntersArming s (enterArming u) := by
  obtain ⟨mtu, msu, -, settings, -, lcu⟩ := arms_units u
  obtain ⟨dwell, heat⟩ := arms_htu u
  have cfg : u.cfg = s.cfg := cfg_congr h.settings
  have far' : 1 < u.arms.cfg.calLimit := by rwa [cfg_congr settings, cfg]
  have gapped : u.arms.gapped = s.gapped := gapped_congr (settings.trans h.settings)
  have noSeek : u.arms.lcu.seek = none := by rw [lcu]; exact h.noSeek
  have restTof : u.arms.lcu.restTof = s.lcu.restTof := by rw [lcu]; exact h.restTof
  have polarity : u.arms.msu.polarity = s.msu.polarity := by rw [msu, h.msu]
  have first {t : State} (step : FirstStep u.arms t) : FirstStep s t := by
    unfold FirstStep at step
    rwa [mtu, h.mtu] at step
  have run : enterArming u = examineMedia u.arms := rfl
  obtain ⟨-, -, -, pause, units⟩ := examineMedia_units far' noSeek
  rw [run]
  refine ⟨?_, fun differs => ?_, ?_, fun media => ?_, fun media unknown => ?_,
    fun media known cal lost => ?_, fun p media known valid rest => ?_⟩
  · rw [pause, lcu]
    exact h.unpaused
  · rw [units, dwell (by rwa [h.engine]), h.htu]
  · rw [units, heat, h.htu, cfg]
  · rw [examineMedia_continuous (by rw [gapped, media]), restTof, mtu, h.mtu]
    exact prepareCopy_placed h _
  · rw [examineMedia_unknown (by rw [gapped, media]) (by rw [polarity, unknown]),
      enterCalibrating_units .arming far' noSeek]
    obtain ⟨motion, -, state, -⟩ := calibrates_units u.arms .arming
    dsimp only
    rw [stepped_mtu, stepped_restTimer, stepped_lcu, motion, state, msu, h.msu, mtu, h.mtu, ← unknown]
    exact ⟨⟨rfl, rfl, rfl, rfl, rfl, rfl⟩, rfl, rfl, rfl, unknown.symm, rfl, rfl, rfl, rfl, rfl, rfl, rfl⟩
  · rw [examineMedia_lost (by rw [gapped, media]) (by rwa [polarity]) (by rwa [msu, h.msu, restTof])]
    obtain ⟨state, -, steps⟩ := enterSeeking_units far'
    obtain ⟨step, source⟩ := steps (by rwa [msu, h.msu])
    have target : firstTofAhead u.arms = firstTofAhead s := by
      rw [firstTofAhead, firstTofAhead, msu, h.msu, mtu, h.mtu]
    rw [target] at state source
    refine ⟨first step, by rw [state], ?_, source⟩
    rw [state, mtu, h.mtu]
    rfl
  · rw [examineMedia_known (by rw [gapped, media]) (by rwa [polarity]) (by rwa [msu, h.msu])
      (restTof.trans rest)]
    exact prepareCopy_placed h p

/-- What follows every command leaves what an entry into ARMING shows. -/
theorem EntersArming.followed {s u t : State} (h : EntersArming s u) (f : FollowsUp u t) : EntersArming s t := by
  obtain ⟨latch, dwell, htu, continuous, unknown, lost, known⟩ := h
  obtain ⟨b, mtu⟩ : ∃ b, t.mtu = { u.mtu with tailRunOn := b } := ⟨_, f.mtu⟩
  obtain ⟨x, seu⟩ : ∃ x, t.seu = { u.seu with forecast := x } := ⟨_, f.seu⟩
  have stays {p : Pos} (placed : PlacedAt s u p) : PlacedAt s t p := by
    obtain ⟨engine, copy, started, near, far⟩ := placed
    unfold PlacedAt
    rw [f.lcu, mtu, seu]
    refine ⟨engine, copy, started, fun none_ => ?_, far⟩
    rw [near none_]
  refine ⟨by rwa [f.lcu], by rwa [f.htu], by rwa [f.htu], fun media => stays (continuous media), ?_, ?_,
    fun p media polarity valid rest => stays (known p media polarity valid rest)⟩
  · rw [f.lcu, f.msu, mtu, seu]
    exact unknown
  · rw [f.lcu, mtu, seu]
    exact lost

/-- R65: entry into ARMING and what follows every command: the contexts and the fault set stand. -/
theorem enterArming_settled {s u : State} (h : ArmsAs s u) (far : 1 < s.cfg.calLimit) :
    let t := settle (enterArming u)
    EntersArming s t ∧ t.lcu.printing = u.lcu.printing ∧ t.lcu.staged = u.lcu.staged ∧
      t.lcu.faults = u.lcu.faults := by
  obtain ⟨-, -, -, settings, -, lcu⟩ := arms_units u
  obtain ⟨printing, staged, faults, -⟩ := examineMedia_units (s := u.arms)
    (by rwa [cfg_congr (settings.trans h.settings)]) (by rw [lcu]; exact h.noSeek)
  rw [lcu] at printing staged faults
  intro t
  have same : t.lcu = (enterArming u).lcu := settle_lcu _
  rw [same]
  exact ⟨(enterArming_enters h far).followed (settle_followsUp _), printing, staged, faults⟩

/-! ## A LABEL item that opens its label (R43, R62, R64) -/

/-- R65: entry into ARMING on continuous media with the rest TOF absent: the copy begins at the media position. -/
theorem enterArming_here {s : State} (differs : s.lcu.engine ≠ .arming) (media : s.gapped = false)
    (rest : s.lcu.restTof = none) : enterArming s = requestRefresh { s with
      lcu := { s.lcu with engine := .arming, copyTof := some s.mtu.position }
      htu := { s.htu with
        dwell := s.htu.dwell.map fun _ => 0
        conversions := s.htu.conversions + 1
        supply := if s.htu.supply = .off then .settling else s.htu.supply
        settle := if s.htu.supply = .off then
          some { time := s.cfg.settleTime, elapsed := 0 } else s.htu.settle } } := by
  obtain ⟨mtu, -, -, settings, -, lcu⟩ := arms_units s
  obtain ⟨dwell, htu⟩ := arms_htu s
  rw [dwell differs] at htu
  have plain : s.arms = requestRefresh { s with
      lcu := { s.lcu with engine := .arming }, htu := s.arms.htu } := by
    unfold State.arms
    rw [setEngine_kept differs rfl, requestRefresh_eq, requestRefresh_eq]
    unfold requestConversion requestSupply
    dsimp only
    split <;> rfl
  have near : linesAhead s.mtu.position s.mtu.position = 0 := by
    unfold linesAhead ahead
    rw [BitVec.sub_self]
    decide
  have here : prepareCopy s.arms.mtu.position s.arms =
      { s.arms with lcu := { s.arms.lcu with copyTof := some s.arms.mtu.position } } := by
    refine if_pos ?_
    rw [mtu]
    exact near
  have restTof : s.arms.lcu.restTof = none := by rw [lcu]; exact rest
  calc enterArming s
    _ = { s.arms with lcu := { s.lcu with engine := .arming, copyTof := some s.mtu.position } } := by
        refine (examineMedia_continuous (s := s.arms) (by rw [gapped_congr settings, media])).trans ?_
        rw [restTof, Option.getD_none, here, lcu, mtu]
    _ = _ := by rw [plain, htu, requestRefresh_eq, requestRefresh_eq]

/-- `enterArming_here` in the terms of a state that stands as `s`. -/
theorem ArmsAs.here {s u : State} (h : ArmsAs s u) (differs : s.lcu.engine ≠ .arming) (media : s.gapped = false)
    (rest : s.lcu.restTof = none) : enterArming u = requestRefresh { u with
      lcu := { u.lcu with engine := .arming, copyTof := some s.mtu.position }
      htu := { s.htu with
        dwell := s.htu.dwell.map fun _ => 0
        conversions := s.htu.conversions + 1
        supply := if s.htu.supply = .off then .settling else s.htu.supply
        settle := if s.htu.supply = .off then
          some { time := s.cfg.settleTime, elapsed := 0 } else s.htu.settle } } := by
  rw [enterArming_here (by rwa [h.engine]) (by rwa [gapped_congr h.settings]) (by rwa [h.restTof]), h.mtu, h.htu,
    cfg_congr h.settings]

/-- R176: what an event does, the course of a configured part and its supply do not decide. -/
theorem raise_of_choice (n : Source) (code : Nat) (arg : BitVec 16) (s : State) (l : Lcu) (h : Htu)
    (now : l.engine ≠ .unconfigured) (before : s.lcu.engine ≠ .unconfigured) :
    raise n code arg { s with lcu := l, htu := h } = { raise n code arg s with lcu := l, htu := h } := by
  have offer (r : PerSource SourceRecord) :
      offerOf { s with lcu := l, htu := h, asu := { s.asu with records := r } } =
        offerOf { s with asu := { s.asu with records := r } } := by
    unfold offerOf State.configured
    simp only [bne_iff_ne.2 now, bne_iff_ne.2 before]
  unfold raise recomputeOffer
  simp only [offer]
  split
  · unfold requestVector
    split <;> rfl
  · rfl

/-- R48: the LABEL item of a first walk that closes the label before it says so. -/
def toldClose (s : State) (u : State) : State :=
  if s.rrd.impliedClose = true ∧ s.rrd.walk = s.rrd.take then raise .ring Code.implicitEnd s.rrd.walk u else u

/-- R43, R48: the Ring Reader and the port once a LABEL item with these bytes has opened its label. -/
def labelOpened (b : List Byte) (s : State) : State :=
  { s with
    bpu := { s.bpu with waiting := s.bpu.waiting ++ [.format s.rrd.walk] }
    rrd := { s.rrd with
      fetch := none, walk := s.rrd.walk + 1, inside := true, supplyCopy := 1, impliedClose := false
      take := if s.rrd.walk = s.rrd.take then s.rrd.walk + 1 else s.rrd.take
      label := some { index := s.rrd.walk, total := itemCopies b, tag := itemTag b, closing := none,
                      ended := none }
      table := if s.rrd.walk = s.rrd.take then s.rrd.table ++
        [{ index := s.rrd.walk, kind := .label, complete := false, result := none, reason := 0, byte13 := 0,
           half14 := 0, tag := itemTag b, silent := false }] else s.rrd.table } }

theorem toldClose_units (s u : State) : (toldClose s u).lcu = u.lcu ∧ (toldClose s u).mtu = u.mtu ∧
    (toldClose s u).msu = u.msu ∧ (toldClose s u).htu = u.htu ∧ (toldClose s u).settings = u.settings ∧
    (toldClose s u).bpu.geometry = u.bpu.geometry := by
  unfold toldClose
  split
  · simp
  · exact ⟨rfl, rfl, rfl, rfl, rfl, rfl⟩

theorem toldClose_of_choice (s u : State) (l : Lcu) (h : Htu) (now : l.engine ≠ .unconfigured)
    (before : u.lcu.engine ≠ .unconfigured) :
    toldClose s { u with lcu := l, htu := h } = { toldClose s u with lcu := l, htu := h } := by
  unfold toldClose
  split
  · exact raise_of_choice _ _ _ _ _ _ now before
  · rfl

/-- R43: a LABEL item fetched outside a label. -/
theorem parseItem_label {s : State} {b : List Byte} (outside : s.rrd.inside = false) (label : field 0 1 b = 1) :
    parseItem b s = toldClose s
      { labelOpened b s with lcu := { s.lcu with staged := some (newContext s.cfg s.rrd.walk b) } } := by
  have kind := (kindOf_label_iff b).2 label
  have fine : refusalOf s.geo s.rrd.inside b = 0 := by
    unfold refusalOf
    rw [kind, outside]
  rw [parseItem_accepted (by simp [outside]) fine, passed_frame, newEntry_accepted kind]
  unfold acceptItem
  rw [kind]
  unfold openLabel toldClose
  dsimp only
  refine if_congr ?_ rfl rfl
  simp

theorem toldClose_printing (s u : State) (l : Lcu) (configured : u.lcu.engine ≠ .unconfigured)
    (same : l.engine = u.lcu.engine) : { toldClose s u with lcu := l } = toldClose s { u with lcu := l } := by
  obtain ⟨-, -, -, htu, -⟩ := toldClose_units s u
  have moved := toldClose_of_choice s u l u.htu (by rwa [same]) configured
  exact (moved.trans (by rw [← htu])).symm

/-- R62, R64: a label that arrives with the PRINTING context empty moves up; in IDLE the choice follows. -/
theorem labelArrives_moves {u : State} (configured : u.lcu.engine ≠ .unconfigured)
    (printing : u.lcu.printing = none) {c : Context} (staged : u.lcu.staged = some c) :
    labelArrives u = if u.lcu.engine = .idle then
        chooseNext { u with lcu := { u.lcu with printing := some c, staged := none } }
      else { u with lcu := { u.lcu with printing := some c, staged := none } } := by
  have moved : moveUp u = { u with lcu := { u.lcu with printing := some c, staged := none } } := by
    rw [← staged]
    exact if_pos ⟨(configured_iff u).2 configured, printing⟩
  unfold labelArrives
  rw [moved]
  refine if_congr ?_ rfl rfl
  simp [printing]

/-- R43, R62: the state in which an opened label has moved up. -/
def labelUp (b : List Byte) (s : State) : State :=
  toldClose s { labelOpened b s with
    lcu := { s.lcu with printing := some (newContext s.cfg s.rrd.walk b), staged := none } }

/-- R43, R62: a LABEL item fetched outside a label with the PRINTING context empty. -/
theorem fetchLabel_moves {s : State} {f : ItemFetch} (fetch : s.rrd.fetch = some f) (live : f.doomed = false)
    (returned : Transfer.item ∉ s.bpu.waiting) (outside : s.rrd.inside = false) (label : field 0 1 f.data = 1)
    (configured : s.lcu.engine ≠ .unconfigured) (printing : s.lcu.printing = none) :
    completeFetch s =
      if s.lcu.engine = .idle then chooseNext (labelUp f.data s) else labelUp f.data s := by
  let u : State :=
    { labelOpened f.data s with lcu := { s.lcu with staged := some (newContext s.cfg s.rrd.walk f.data) } }
  have lcu : (toldClose s u).lcu = { s.lcu with staged := some (newContext s.cfg s.rrd.walk f.data) } :=
    (toldClose_units s u).1
  have up := labelArrives_moves (u := toldClose s u) (by rw [lcu]; exact configured) (by rw [lcu]; exact printing)
    (by rw [lcu])
  have moved := toldClose_printing s u
    { s.lcu with printing := some (newContext s.cfg s.rrd.walk f.data), staged := none } configured rfl
  rw [lcu] at up
  rw [completeFetch_eq fetch live returned, parseItem_label outside label]
  refine up.trans ?_
  rw [labelUp, ← moved]

theorem labelUp_eq {s : State} (b : List Byte) (configured : s.lcu.engine ≠ .unconfigured) :
    labelUp b s = { toldClose s (labelOpened b s) with
      lcu := { s.lcu with printing := some (newContext s.cfg s.rrd.walk b), staged := none } } :=
  (toldClose_printing s (labelOpened b s)
    { s.lcu with printing := some (newContext s.cfg s.rrd.walk b), staged := none } configured rfl).symm

theorem labelUp_armsAs {s : State} (b : List Byte) (idle : s.lcu.engine = .idle) (unpaused : s.lcu.pauseLatch = false) :
    ArmsAs s (endCourse (releaseCopy (labelUp b s))) := by
  obtain ⟨-, mtu, msu, htu, settings, geometry⟩ := toldClose_units s (labelOpened b s)
  rw [labelUp_eq b (by rw [idle]; decide)]
  exact { mtu := mtu, msu := msu, htu := htu, settings := settings, geometry := geometry, unpaused := unpaused }

/-- R43, R65: the choice that enters ARMING for an opened label on continuous media, the rest TOF absent. -/
theorem enterArming_label {s : State} (b : List Byte) (idle : s.lcu.engine = .idle)
    (unpaused : s.lcu.pauseLatch = false) (media : s.gapped = false) (rest : s.lcu.restTof = none) :
    enterArming (endCourse (releaseCopy (labelUp b s))) = requestRefresh (toldClose s
      { labelOpened b s with
        lcu := { s.lcu with
          printing := some (newContext s.cfg s.rrd.walk b), staged := none, engine := .arming,
          copyTof := some s.mtu.position, started := false, seek := none, presentTof := none,
          armCancelled := false }
        htu := { s.htu with
          dwell := s.htu.dwell.map fun _ => 0
          conversions := s.htu.conversions + 1
          supply := if s.htu.supply = .off then .settling else s.htu.supply
          settle := if s.htu.supply = .off then
            some { time := s.cfg.settleTime, elapsed := 0 } else s.htu.settle } }) := by
  have configured : s.lcu.engine ≠ .unconfigured := by rw [idle]; decide
  have as := labelUp_armsAs b idle unpaused
  rw [labelUp_eq b configured] at as ⊢
  refine (as.here (by rw [idle]; decide) media rest).trans (congrArg requestRefresh ?_)
  exact (toldClose_of_choice s (labelOpened b s) _ _ (by exact nofun) configured).symm

/-- Settles O30. -/
theorem fetchLabel : Obligations.FetchLabel := by
  intro s f fetch live returned outside label
  have chosen (printing : s.lcu.printing = none) (idle : s.lcu.engine = .idle) (unpaused : s.lcu.pauseLatch = false) :
      completeFetch s = enterArming (endCourse (releaseCopy (labelUp f.data s))) := by
    have configured : s.lcu.engine ≠ .unconfigured := by rw [idle]; decide
    rw [fetchLabel_moves fetch live returned outside label configured printing, if_pos idle]
    rw [labelUp_eq f.data configured]
    exact chooseNext_arms unpaused rfl
  refine ⟨_, rfl, fun occupied => ?_, fun printing configured busy => ?_,
    fun printing idle unpaused far => ?_, fun printing idle unpaused media rest => ?_⟩
  · refine itemFetch_followsUp fetch live returned (parseItem_label outside label) fun none_ => ?_
    exact absurd ((congrArg Lcu.printing (toldClose_units s _).1).symm.trans none_) occupied
  · rw [fetchLabel_moves fetch live returned outside label configured printing, if_neg busy]
    exact settle_followsUp _
  · rw [chosen printing idle unpaused, labelUp_eq f.data (by rw [idle]; decide)]
    have as := labelUp_armsAs f.data idle unpaused
    rw [labelUp_eq f.data (by rw [idle]; decide)] at as
    obtain ⟨enters, context, staged, -⟩ := enterArming_settled as far
    exact ⟨enters, context, staged⟩
  · rw [chosen printing idle unpaused, enterArming_label f.data idle unpaused media rest]
    exact settle_followsUp _

/-! ## RESUME (R78) -/

/-- R78: a reason other than SUPPLY and GAP_MISSING stands. -/
def FaultSet.others (f : FaultSet) : Prop := f.thermalTrip ∨ f.thermSensor ∨ f.headOpen ∨ f.paperOut

theorem latchedOnly_iff (f : FaultSet) : f.latchedOnly = true ↔ ¬ f.others := by
  simp [FaultSet.latchedOnly, FaultSet.others, and_assoc]

/-- R78: the fault set a RESUME leaves where it chooses the next state. -/
def resumedFaults (s : State) : FaultSet :=
  if s.lcu.engine = .faulted then { s.lcu.faults with supply := false, gapMissing := false } else s.lcu.faults

/-- R78: the state in which a RESUME chooses. -/
def State.resumed (s : State) : State :=
  { s with lcu := { s.lcu with pauseLatch := false, faults := resumedFaults s } }

/-- R78: RESUME state by state. -/
theorem takeResume_cases {s : State} (engaged : s.lcu.engine ≠ .unconfigured) :
    (s.lcu.engine ≠ .faulted → s.lcu.engine ≠ .holding .pause →
      takeResume s = { s with lcu := { s.lcu with pauseLatch := false } }) ∧
    (s.lcu.engine = .faulted → s.lcu.faults.others →
      takeResume s = raise .ring Code.controlRefused 2 s) ∧
    (s.lcu.engine = .holding .pause ∨ (s.lcu.engine = .faulted ∧ ¬ s.lcu.faults.others) →
      takeResume s = chooseNext s.resumed) := by
  refine ⟨fun fine running => ?_, fun faulted others => ?_, fun chooses => ?_⟩
  · unfold takeResume
    dsimp only
    split
    next e => exact absurd e engaged
    next e => exact absurd e running
    next e => exact absurd e fine
    · rfl
  · have refused : s.lcu.faults.latchedOnly = false :=
      Bool.eq_false_iff.2 fun latched => (latchedOnly_iff _).1 latched others
    unfold takeResume
    simp only [faulted, refused]
    rfl
  · rcases chooses with pausing | ⟨faulted, clear⟩
    · have faults : resumedFaults s = s.lcu.faults := if_neg (by rw [pausing]; decide)
      unfold takeResume State.resumed
      simp only [pausing, faults]
    · have faults : resumedFaults s = s.lcu.faults.dropLatched := if_pos faulted
      unfold takeResume State.resumed
      simp only [faulted, faults, (latchedOnly_iff _).2 clear, if_true]

/-- Settles O14. -/
theorem resume : Obligations.Resume := by
  intro s anchored live engaged
  obtain ⟨-, run, -⟩ := exec_control anchored live
  refine ⟨_, run, ?_⟩
  obtain ⟨m, ρ, written⟩ := requested_form s 4 2
  rw [written]
  obtain ⟨other, refuses, choice⟩ := takeResume_cases (s := { s with mem := m, rsu := ρ }) engaged
  intro r others chooses faults idle
  let u : State := State.resumed { s with mem := m, rsu := ρ }
  have as : ArmsAs s (endCourse (releaseCopy u)) := { unpaused := rfl }
  have differs (h : chooses) : s.lcu.engine ≠ .arming ∧ s.lcu.engine ≠ .idle := by
    rcases h with e | ⟨e, -⟩ <;> rw [e] <;> decide
  have arms (h : chooses) (printing : s.lcu.printing ≠ none) :
      takeResume { s with mem := m, rsu := ρ } = enterArming (endCourse (releaseCopy u)) := by
    obtain ⟨c, some_⟩ := Option.ne_none_iff_exists'.1 printing
    exact (choice h).trans (chooseNext_arms (s := u) rfl some_)
  refine ⟨fun fine running => ?_, fun faulted reason => ?_, fun h printing ready => ?_,
    fun h printing media rest => ?_, fun h printing far => ?_⟩
  · rw [other fine running]
    exact settle_followsUp _
  · rw [refuses faulted reason]
    exact settle_followsUp _
  · have empty := chooseNext_empty (s := u) rfl printing ready
    rw [choice h, empty, setEngine_plain (by exact (differs h).2) rfl]
    exact settle_followsUp _
  · rw [arms h printing, as.here (differs h).1 media rest]
    exact settle_followsUp _
  · rw [arms h printing]
    exact enterArming_settled as far

/-! ## The hand-over of an operation (R49, R64, R72, R161) -/

theorem chooseNext_operation {s : State} {o : Operation} (latch : s.lcu.pauseLatch = false)
    (printing : s.lcu.printing = none) (ready : operationReady s = some o) :
    chooseNext s = takeOperation o (endCourse (releaseCopy s)) := by
  have same : operationReady (endCourse (releaseCopy s)) = operationReady s := rfl
  have next_ : (endCourse (releaseCopy s)).lcu.pauseLatch = false ∧
      (endCourse (releaseCopy s)).lcu.printing.isSome = false := ⟨latch, by
    show s.lcu.printing.isSome = false
    rw [printing]
    rfl⟩
  unfold chooseNext
  simp only [next_, same, ready]
  rfl

/-- R49: what the output hold offers while no label and no operation stands. -/
theorem operationReady_some {s : State} (printing : s.lcu.printing = none) (staged : s.lcu.staged = none)
    (operation : s.lcu.operation = none) :
    (∀ i n, s.rrd.hold = some (.feed i n) → operationReady s = some { index := i, feed := some n }) ∧
    ∀ i, s.rrd.hold = some (.calibrate i) → operationReady s = some { index := i, feed := none } := by
  unfold operationReady
  rw [printing, staged, operation]
  refine ⟨fun i n hold => ?_, fun i hold => ?_⟩ <;> rw [hold] <;> rfl

/-- R107, R120: a line that carries no copy is blank, and leaves the head idle. -/
theorem stepped_unowned {s : State} (index period : Nat) (started : s.lcu.started = false) :
    (s.stepped index period).hdu.state = .idle ∧ (s.stepped index period).hdu.strobes = List.replicate 8 false := by
  have owner : (beginLine index period s).currentOwner = none := by
    unfold State.currentOwner
    exact if_neg (by simp [beginLine, started])
  have line : deliverLine (beginLine index period s) =
      takeRecord (takeLine { dots := s.geo.blankRow, owner := none } (beginLine index period s)) := by
    unfold deliverLine
    rw [owner]
    rfl
  unfold State.stepped advancePosition
  rw [line, takeRecord_idle (by rfl) (.inl (by rfl))]
  exact ⟨rfl, rfl⟩

/-- R49, R72: a FEED as it is taken, before its first step. -/
def State.feeds (s : State) (i : Idx) (n : Nat) : State :=
  let u := setEngine .feeding { endCourse (releaseCopy s) with
    rrd := { s.rrd with hold := none }
    lcu := { (endCourse (releaseCopy s)).lcu with operation := some { index := i, feed := some n } } }
  { u with
    lcu := { u.lcu with restTof := none }
    mtu := { u.mtu with source := .distance (.at (s.mtu.position + BitVec.ofNat 32 n)) } }

theorem setEngine_htu_same {e : Engine} {s : State} (kept : e.kept = false) : (setEngine e s).htu = s.htu := by
  rw [setEngine_htu, kept]
  exact if_neg (by simp)

theorem feeds_units (s : State) (i : Idx) (n : Nat) :
    (s.feeds i n).lcu = { s.lcu with
      engine := .feeding, operation := some { index := i, feed := some n }, restTof := none
      copyTof := none, started := false, seek := none, presentTof := none, armCancelled := false } ∧
    (s.feeds i n).mtu = { s.mtu with source := .distance (.at (s.mtu.position + BitVec.ofNat 32 n)) } ∧
    (s.feeds i n).msu = s.msu ∧ (s.feeds i n).mem = s.mem ∧ (s.feeds i n).rrd.hold = none ∧
    (s.feeds i n).htu = s.htu := by
  unfold State.feeds
  dsimp only
  rw [setEngine_lcu, setEngine_mtu, setEngine_msu, setEngine_mem, setEngine_rrd, setEngine_htu_same rfl]
  exact ⟨rfl, rfl, rfl, rfl, rfl, rfl⟩

theorem chooseNext_feed {s : State} {i : Idx} {n : Nat} (latch : s.lcu.pauseLatch = false)
    (printing : s.lcu.printing = none) (ready : operationReady s = some { index := i, feed := some n })
    (some_ : 0 < n) : chooseNext s = forwardStep 0 (s.mtu.ramps.period 0) (s.feeds i n) := by
  have period : (s.feeds i n).mtu.ramps.period 0 = s.mtu.ramps.period 0 := by
    obtain ⟨-, mtu, -⟩ := feeds_units s i n
    rw [mtu]
    rfl
  rw [chooseNext_operation latch printing ready, ← period]
  unfold takeOperation enterFeeding
  exact if_pos some_

/-- R49, R72: a FEED of some lines. -/
theorem operationHandover_feed {s : State} {i : Idx} {n : Nat} (latch : s.lcu.pauseLatch = false)
    (printing : s.lcu.printing = none) (ready : operationReady s = some { index := i, feed := some n })
    (some_ : 0 < n) (cal : s.msu.cal = none) :
    let t := settle (chooseNext s)
    t.mem = s.mem ∧ t.lcu.engine = .feeding ∧ t.lcu.operation = some { index := i, feed := some n } ∧
      t.lcu.restTof = none ∧ t.rrd.hold = none ∧
      t.mtu.motion = .forward ∧ t.mtu.ramp = 0 ∧ t.mtu.dirForward = true ∧
      t.mtu.position = s.mtu.position + 1 ∧
      t.mtu.source = .distance (.at (s.mtu.position + BitVec.ofNat 32 n)) ∧
      t.mtu.timer = some { period := s.mtu.ramps.period 0, elapsed := 0 } ∧
      t.hdu.state = .idle ∧ t.hdu.strobes = List.replicate 8 false ∧ t.seu.restTimer = none ∧
      t.htu = s.htu := by
  obtain ⟨lcu, mtu, msu, mem, hold, htu⟩ := feeds_units s i n
  have step : chooseNext s = reachTof ((s.feeds i n).stepped 0 (s.mtu.ramps.period 0)) := by
    rw [chooseNext_feed latch printing ready some_, forwardStep_quiet]
    · have kept : (reachTof ((s.feeds i n).stepped 0 (s.mtu.ramps.period 0))).msu.cal = none := by
        rw [reachTof_msu, stepped_msu, msu, cal]
      rw [msu, cal, Option.map_none]
      dsimp only
      rw [← kept]
    · rw [msu, cal]
      nofun
    · rintro ⟨no, -⟩
      rw [lcu] at no
      cases no
    · rw [lcu]
      nofun
    · rw [lcu]
      nofun
  have f := settle_followsUp (chooseNext s)
  obtain ⟨b, moved⟩ : ∃ b, (settle (chooseNext s)).mtu = { (chooseNext s).mtu with tailRunOn := b } := ⟨_, f.mtu⟩
  obtain ⟨x, heat⟩ : ∃ x, (settle (chooseNext s)).seu = { (chooseNext s).seu with forecast := x } := ⟨_, f.seu⟩
  obtain ⟨y, head⟩ : ∃ y, (settle (chooseNext s)).hdu = { (chooseNext s).hdu with forecastTime := y } :=
    ⟨_, f.hdu⟩
  obtain ⟨idle, strobes⟩ := stepped_unowned (s := s.feeds i n) 0 (s.mtu.ramps.period 0) (by rw [lcu])
  dsimp only
  rw [f.mem, f.lcu, f.rrd, f.htu, moved, heat, head, step, reachTof_eq]
  dsimp only
  rw [stepped_mem, stepped_lcu, stepped_rrd, stepped_htu, stepped_mtu, stepped_restTimer, lcu, mtu, mem, hold, htu]
  exact ⟨rfl, rfl, rfl, rfl, rfl, rfl, rfl, rfl, rfl, rfl, rfl, idle, strobes, rfl, rfl⟩

/-- R72: a CALIBRATE on continuous media finishes at once. -/
theorem operationHandover_continuous {s : State} {i : Idx} (latch : s.lcu.pauseLatch = false)
    (printing : s.lcu.printing = none) (ready : operationReady s = some { index := i, feed := none })
    (media : s.gapped = false) :
    let t := settle (chooseNext s)
    t.mem = s.mem ∧ t.lcu.engine = .idle ∧ t.lcu.operation = none ∧ t.rrd.hold = none ∧
      t.mtu = { s.mtu with tailRunOn := t.mtu.tailRunOn } ∧ t.msu = s.msu ∧ t.htu = s.htu := by
  let u : State := setEngine (.calibrating .item) { endCourse (releaseCopy s) with
    rrd := { s.rrd with hold := none }
    lcu := { (endCourse (releaseCopy s)).lcu with operation := some { index := i, feed := none } } }
  have done : chooseNext s = setEngine .idle (finishOperation .done u) :=
    (chooseNext_operation latch printing ready).trans (if_neg (by rw [Bool.not_eq_true]; exact media))
  have f := settle_followsUp (chooseNext s)
  obtain ⟨b, moved⟩ : ∃ b, (settle (chooseNext s)).mtu = { (chooseNext s).mtu with tailRunOn := b } := ⟨_, f.mtu⟩
  intro t
  have tail : t.mtu.tailRunOn = b := by rw [moved]
  rw [tail]
  refine ⟨?_, ?_, ?_, ?_, ?_, ?_, ?_⟩
  · rw [f.mem, done, setEngine_mem, finishOperation_mem, setEngine_mem]
    rfl
  · rw [f.lcu, done, setEngine_lcu]
  · rw [f.lcu, done, setEngine_lcu, finishOperation_lcu]
  · rw [f.rrd, done, setEngine_rrd, finishOperation_rrd, setEngine_rrd]
  · rw [moved, done, setEngine_mtu, finishOperation_mtu, setEngine_mtu]
    rfl
  · rw [f.msu, done, setEngine_msu, finishOperation_msu, setEngine_msu]
    rfl
  · rw [f.htu, done, setEngine_htu_same rfl, finishOperation_htu, setEngine_htu_same rfl]
    rfl

/-- R72, R161: a CALIBRATE as it is taken, before the run begins. -/
def State.taken (s : State) (i : Idx) : State :=
  { endCourse (releaseCopy s) with
    rrd := { s.rrd with hold := none }
    lcu := { (endCourse (releaseCopy s)).lcu with operation := some { index := i, feed := none } } }

/-- R72, R161: a CALIBRATE on gapped media starts a calibration run. -/
theorem operationHandover_gapped {s : State} {i : Idx} (latch : s.lcu.pauseLatch = false)
    (printing : s.lcu.printing = none) (ready : operationReady s = some { index := i, feed := none })
    (media : s.gapped = true) (far : 1 < s.cfg.calLimit) :
    let t := settle (chooseNext s)
    t.mem = s.mem ∧ t.lcu.engine = .calibrating .item ∧ t.lcu.operation = some { index := i, feed := none } ∧
      t.rrd.hold = none ∧ t.mtu.motion = .forward ∧ t.mtu.ramp = 0 ∧ t.mtu.limitZero = true ∧
      t.mtu.source = .distance .unbounded ∧ t.mtu.position = s.mtu.position + 1 ∧
      t.mtu.timer = some { period := s.mtu.ramps.period 0, elapsed := 0 } ∧
      t.msu.polarity = .unknown ∧ t.msu.valid = false ∧ t.msu.queue = [] ∧ t.msu.passed = [] ∧
      t.msu.phase = .start ∧ t.msu.run = none ∧ t.msu.refEdge = none ∧ t.msu.senseMark = s.mtu.position ∧
      t.msu.cal = some { phase := .learning, count := 1, measured := none, savedPolarity := s.msu.polarity,
                         savedCalibrated := s.msu.calibrated } ∧
      (s.msu.valid = true → (t.asu.records.get .media).pending = true ∧
        (t.asu.records.get .media).code = Code.regLost ∧ (t.asu.records.get .media).arg = 3) ∧
      (s.msu.valid = false → t.asu.records.get .media = s.asu.records.get .media) ∧ t.htu = s.htu := by
  have run : chooseNext s = enterCalibrating .item (s.taken i) :=
    (chooseNext_operation latch printing ready).trans (if_pos media)
  obtain ⟨mtu, -, lcu, htu, -, mem⟩ := calibrates_units (s.taken i) .item
  obtain ⟨-, -, -, -, -, -, was, lost⟩ := startCalibration_units (setEngine (.calibrating .item) (s.taken i))
  rw [setEngine_msu, setEngine_asu] at was lost
  have rrd : ((s.taken i).calibrates .item).rrd = (s.taken i).rrd :=
    (loseRegistration_rrd _ _).trans (setEngine_rrd _ _)
  have asu : ((s.taken i).calibrates .item).asu =
      (startCalibration (setEngine (.calibrating .item) (s.taken i))).asu := rfl
  have f := settle_followsUp (chooseNext s)
  have media_ := settle_record (n := .media) (by decide) (by decide) (chooseNext s)
  obtain ⟨b, moved⟩ : ∃ b, (settle (chooseNext s)).mtu = { (chooseNext s).mtu with tailRunOn := b } := ⟨_, f.mtu⟩
  dsimp only
  rw [f.mem, f.lcu, f.rrd, f.htu, f.msu, moved, media_, run, enterCalibrating_units .item (by exact far) (by rfl)]
  dsimp only
  rw [stepped_mem, stepped_lcu, stepped_rrd, stepped_htu, stepped_mtu, stepped_asu, lcu, mtu, mem, htu, rrd, asu]
  refine ⟨rfl, rfl, rfl, rfl, rfl, rfl, rfl, rfl, rfl, rfl, rfl, rfl, rfl, rfl, rfl, rfl, rfl, rfl, rfl,
    fun valid => ?_, lost, rfl⟩
  rw [was valid]
  exact ⟨rfl, rfl, rfl⟩

/-- Settles O36. -/
theorem operationHandover : Obligations.OperationHandover := by
  refine ⟨fun s f kind held fetch live returned outside still item =>
    ⟨_, rfl, fetchOperation fetch live returned outside still item⟩, ?_⟩
  intro s idle latch printing staged operation cal
  obtain ⟨feed, calibrate⟩ := operationReady_some printing staged operation
  have run {o : Operation} (ready : operationReady s = some o) :
      exec .operationHandover s = .next (settle (chooseNext s)) :=
    congrArg (fun u => Host.Outcome.next (settle u)) (if_pos ⟨idle, by rw [ready]; rfl⟩)
  refine ⟨fun i n hold some_ => ?_, fun i hold media => ?_, fun i hold media far => ?_⟩
  · exact ⟨_, run (feed i n hold), operationHandover_feed latch printing (feed i n hold) some_ cal⟩
  · exact ⟨_, run (calibrate i hold), operationHandover_continuous latch printing (calibrate i hold) media⟩
  · exact ⟨_, run (calibrate i hold), operationHandover_gapped latch printing (calibrate i hold) media far⟩

/-! ## What the choice of the next state leaves of the ring and the stream

With no copy under way, neither the choice of R64 nor a line that ends releases a hold, delivers a row or queues an
outcome; with no operation either, no item completes. -/

/-- From a state with no copy started: the hold table, the stream and the queued outcomes stand, and where no
operation is in execution the ring does. -/
structure StreamKept (s t : State) : Prop where
  started : t.lcu.started = false
  operation : s.lcu.operation = none → t.lcu.operation = none := by exact id
  rrd : s.lcu.operation = none → t.rrd = s.rrd := by exact fun _ => rfl
  bht : t.bht = s.bht := by rfl
  rsu : t.rsu = s.rsu := by rfl
  outcomes : t.bpu.waiting.filter Transfer.isOutcome = s.bpu.waiting.filter Transfer.isOutcome := by rfl

/-- What `StreamKept` says, from every state with no copy started. -/
def StreamStands (s t : State) : Prop := s.lcu.started = false → StreamKept s t

theorem StreamStands.refl (s : State) : StreamStands s s := fun started => { started := started }

theorem StreamStands.trans {s t u : State} (h : StreamStands s t) (k : StreamStands t u) : StreamStands s u :=
  fun started =>
    have first := h started
    have second := k first.started
    { started := second.started, operation := fun none_ => second.operation (first.operation none_)
      rrd := fun none_ => (second.rrd (first.operation none_)).trans (first.rrd none_)
      bht := second.bht.trans first.bht, rsu := second.rsu.trans first.rsu
      outcomes := second.outcomes.trans first.outcomes }

theorem StreamStands.after {s t u : State} (k : StreamStands t u) (h : StreamStands s t) : StreamStands s u :=
  h.trans k

/-- Changes of the label control, the course and the sensing alone. -/
theorem StreamStands.of_units {s t : State} (operation : t.lcu.operation = s.lcu.operation)
    (started : t.lcu.started = s.lcu.started) (rrd : t.rrd = s.rrd) (bht : t.bht = s.bht) (rsu : t.rsu = s.rsu)
    (bpu : t.bpu = s.bpu) : StreamStands s t := fun unstarted =>
  { started := started.trans unstarted, operation := operation.trans, rrd := fun _ => rrd, bht := bht, rsu := rsu
    outcomes := by rw [bpu] }

theorem streamStands_raise (n : Source) (code : Nat) (arg : BitVec 16) (s : State) :
    StreamStands s (raise n code arg s) := fun started =>
  { started := by rwa [raise_lcu], operation := by rw [raise_lcu]; exact id
    rrd := fun _ => raise_rrd .., bht := raise_bht .., rsu := raise_rsu ..
    outcomes := raise_outcomes .. }

theorem withRefresh_outcomes (w : List Transfer) :
    (withRefresh w).filter Transfer.isOutcome = w.filter Transfer.isOutcome := by
  unfold withRefresh
  split
  · rfl
  · rw [List.filter_append]
    exact List.append_nil _

theorem streamStands_requestRefresh (s : State) : StreamStands s (requestRefresh s) := by
  rw [requestRefresh_eq]
  exact fun started => { started := started, outcomes := withRefresh_outcomes _ }

theorem streamStands_setEngine (e : Engine) (s : State) : StreamStands s (setEngine e s) := by
  unfold setEngine
  split
  · exact .refl s
  · refine .after (streamStands_requestRefresh _) ?_
    split
    · exact .of_units rfl rfl rfl rfl rfl rfl
    · exact .of_units rfl rfl rfl rfl rfl rfl

theorem streamStands_release (s : State) : StreamStands s (endCourse (releaseCopy s)) := fun _ =>
  { started := rfl }

theorem streamStands_finishOperation (r : ItemResult) (s : State) : StreamStands s (finishOperation r s) := by
  unfold finishOperation
  split
  next o some_ =>
    exact fun started =>
      { started := started, operation := fun none_ => nomatch some_.symm.trans none_
        rrd := fun none_ => nomatch some_.symm.trans none_ }
  · exact .refl s

theorem streamStands_failCalibration (r : CalRun) (s : State) : StreamStands s (failCalibration r s) := by
  have told : StreamStands s (s.failTold r) :=
    .after (streamStands_requestRefresh _) <| .after (streamStands_raise _ _ _ _) (.of_units rfl rfl rfl rfl rfl rfl)
  rw [failCalibration_eq]
  split
  · exact told.trans (.of_units rfl rfl rfl rfl rfl rfl)
  · exact told.trans <| (streamStands_finishOperation _ _).trans (.of_units rfl rfl rfl rfl rfl rfl)

theorem streamStands_countCalibration (s : State) : StreamStands s (countCalibration s) ∧
    (countCalibration s).lcu.engine = s.lcu.engine := by
  unfold countCalibration
  split
  next r _ =>
    have counted : StreamStands s { s with msu := { s.msu with cal := some r.counted } } :=
      .of_units rfl rfl rfl rfl rfl rfl
    dsimp only
    split
    · refine ⟨counted.trans (streamStands_failCalibration _ _), ?_⟩
      rw [failCalibration_course]
      split <;> rfl
    · exact ⟨counted, rfl⟩
  · exact ⟨.refl s, rfl⟩

theorem streamStands_stepped (s : State) (index period : Nat) : StreamStands s (s.stepped index period) := by
  intro started
  have owner : (beginLine index period s).currentOwner = none := by
    unfold State.currentOwner
    exact if_neg (by simp [beginLine, started])
  have rsu : (s.stepped index period).rsu = s.rsu := by
    unfold State.stepped deliverLine advancePosition
    rw [owner]
    exact (takeRecord_rsu _).trans rfl
  exact { started := by rwa [stepped_lcu], operation := by rw [stepped_lcu]; exact id
          rrd := fun _ => stepped_rrd .., bht := stepped_bht .., rsu := rsu
          outcomes := by rw [stepped_bpu] }

/-- R73: a fault taken with no copy under way. -/
theorem streamStands_reportFault (r : FaultReason) {s : State} (noCopy : s.lcu.engine.inCopy = false) :
    StreamStands s (reportFault r s) := by
  unfold reportFault
  split
  · split
    · split
      · exact .refl s
      · exact .after (streamStands_raise _ _ _ _) (.of_units rfl rfl rfl rfl rfl rfl)
    · have cut : s.faultCut = faultStop s := if_neg (by rw [noCopy]; decide)
      have stop : StreamStands s (faultStop s) := by
        rw [faultStop_eq]
        refine .of_units ?_ ?_ rfl rfl rfl rfl
        · dsimp only
          split <;> rfl
        · dsimp only
          split <;> rfl
      have work : StreamStands s s.faultLeft := by
        unfold State.faultLeft endWork
        rw [cut]
        refine .after (streamStands_release _) ?_
        exact .trans (stop.trans (streamStands_finishOperation _ _)) (.of_units rfl rfl rfl rfl rfl rfl)
      rw [takeFault_eq]
      refine .after (streamStands_raise _ _ _ _) <| .after (streamStands_setEngine _ _) ?_
      exact work.trans (.of_units rfl rfl rfl rfl rfl rfl)
  · exact .refl s

theorem inCopy_printing {e : Engine} (noCopy : e.inCopy = false) : e ≠ .printing := by
  rintro rfl
  cases noCopy

theorem streamStands_forwardStep {s : State} (index period : Nat) (noCopy : s.lcu.engine.inCopy = false) :
    StreamStands s (forwardStep index period s) := by
  have reached : StreamStands s (reachTof (s.stepped index period)) := by
    rw [reachTof_eq]
    exact (streamStands_stepped s index period).trans (.of_units rfl rfl rfl rfl rfl rfl)
  obtain ⟨counted, engine⟩ := streamStands_countCalibration (reachTof (s.stepped index period))
  rw [reachTof_lcu, stepped_lcu] at engine
  have noEnd : judgeCopyEnd (reachesTof (s.stepped index period))
      (countCalibration (reachTof (s.stepped index period))) =
      countCalibration (reachTof (s.stepped index period)) :=
    if_neg (by simp [atCopyEnd, engine, inCopy_printing noCopy])
  have run : forwardStep index period s = judgeLimits (countCalibration (reachTof (s.stepped index period))) :=
    congrArg judgeLimits noEnd
  rw [run]
  refine (reached.trans counted).trans ?_
  unfold judgeLimits
  split
  · exact streamStands_reportFault _ (by rwa [engine])
  · exact .refl _

theorem streamStands_prepareCopy (p : Pos) (s : State) : StreamStands s (prepareCopy p s) := by
  have returned (before : Pos) (u : State) : StreamStands u (returnTof before u) := by
    unfold returnTof
    split
    · exact .refl u
    · split
      · split
        · exact .of_units rfl rfl rfl rfl rfl rfl
        · rw [overflowEdges_eq]
          exact .after (streamStands_raise _ _ _ _) (.of_units rfl rfl rfl rfl rfl rfl)
      · exact .refl u
  unfold prepareCopy startBackfeed
  split
  · exact .of_units rfl rfl rfl rfl rfl rfl
  · exact .after (returned _ _) (.of_units rfl rfl rfl rfl rfl rfl)

theorem streamStands_enterSeeking (s : State) : StreamStands s (enterSeeking s) := by
  rw [enterSeeking_eq]
  refine .after (streamStands_forwardStep _ _ ?_) <| .trans (streamStands_setEngine .seeking s)
    (.of_units rfl rfl rfl rfl rfl rfl)
  simp [State.seeks, Engine.inCopy]

theorem streamStands_startCalibration (s : State) : StreamStands s (startCalibration s) := by
  unfold startCalibration loseRegistration raiseRegLost
  dsimp only
  split
  · exact .after (streamStands_raise _ _ _ _) (.of_units rfl rfl rfl rfl rfl rfl)
  · exact .of_units rfl rfl rfl rfl rfl rfl

theorem streamStands_enterCalibrating (why : CalReason) (s : State) : StreamStands s (enterCalibrating why s) := by
  have begun : StreamStands s (s.calibrates why) :=
    .trans (.trans (streamStands_setEngine (.calibrating why) s) (streamStands_startCalibration _))
      (.of_units rfl rfl rfl rfl rfl rfl)
  obtain ⟨-, -, lcu, -⟩ := calibrates_units s why
  exact begun.trans (streamStands_forwardStep _ _ (by rw [lcu]; rfl))

theorem streamStands_enterArming (s : State) : StreamStands s (enterArming s) := by
  have supply (u : State) : StreamStands u (requestSupply u) :=
    .of_units (by rw [requestSupply_lcu]) (by rw [requestSupply_lcu]) (requestSupply_rrd u) (requestSupply_bht u)
      (requestSupply_rsu u) (requestSupply_bpu u)
  have arms : StreamStands s s.arms :=
    .trans (.trans (streamStands_setEngine .arming s) (supply _)) (.of_units rfl rfl rfl rfl rfl rfl)
  refine arms.trans (u := examineMedia s.arms) ?_
  unfold examineMedia
  split
  · split
    · exact streamStands_enterCalibrating _ _
    · split
      · exact streamStands_prepareCopy _ _
      · exact streamStands_enterSeeking _
  · exact streamStands_prepareCopy _ _

/-- R64: the choice of the next state with no operation to hand over. -/
theorem streamStands_chooseNext {s : State} (idle : s.lcu.printing = none → operationReady s = none) :
    StreamStands s (chooseNext s) := by
  have released := streamStands_release s
  by_cases latch : s.lcu.pauseLatch = true
  · rw [chooseNext_paused latch]
    exact released.trans (streamStands_setEngine _ _)
  · rw [Bool.not_eq_true] at latch
    cases printing : s.lcu.printing with
    | none =>
      rw [chooseNext_empty latch printing (idle printing)]
      exact released.trans (streamStands_setEngine _ _)
    | some c =>
      rw [chooseNext_arms latch printing]
      exact released.trans (streamStands_enterArming _)

/-- R69, R127, R144: a stop through PRESENTING(STOP), whatever the cut line held back. -/
theorem streamStands_enterPresentingStop {s : State} (idle : s.lcu.printing = none → operationReady s = none) :
    StreamStands s (enterPresentingStop s) := by
  let u : State := setEngine (.presenting .stop) (endCourse (releaseCopy s))
  let v : State := cutLine (orderDeceleration { u with lcu := { u.lcu with restTof := none } })
  have cut : StreamStands s v :=
    .trans ((streamStands_release s).trans (streamStands_setEngine _ _)) (.of_units rfl rfl rfl rfl rfl rfl)
  have lcu : v.lcu = { (endCourse (releaseCopy s)).lcu with engine := .presenting .stop, restTof := none } := by
    show { u.lcu with restTof := none } = _
    rw [setEngine_lcu]
  have rrd : v.rrd = s.rrd := setEngine_rrd _ _
  refine cut.trans (u := lineEnded v) ?_
  unfold lineEnded
  split
  · split
    · have choice : comeToRest v = chooseNext (motionRest v) := by
        unfold comeToRest restReached
        have same : (motionRest v).lcu.engine = .presenting .stop := by
          rw [motionRest_eq, lcu]
        simp only [same]
      rw [choice]
      refine .after (streamStands_chooseNext fun printing => ?_) ?_
      · rw [motionRest_eq] at printing ⊢
        have none_ : s.lcu.printing = none := by
          rw [lcu] at printing
          exact printing
        have ready : operationReady { v with mtu := (motionRest v).mtu } = operationReady s := by
          unfold operationReady
          rw [lcu, rrd]
          rfl
        exact ready.trans (idle none_)
      · rw [motionRest_eq]
        exact .of_units rfl rfl rfl rfl rfl rfl
    · exact streamStands_forwardStep _ _ (by rw [lcu]; rfl)
    · exact .refl _
  · exact .refl _

/-! ## CANCEL_LABEL: the label's items, its context and its elements of the stream (R57, R79) -/

theorem withdraw_outcomes {p : Transfer → Bool} (other : ∀ x, p x = true → x.isOutcome = false) (s : State) :
    (s.withdraw p).bpu.waiting.filter Transfer.isOutcome = s.bpu.waiting.filter Transfer.isOutcome := by
  show (s.bpu.waiting.filter fun t => !p t).filter Transfer.isOutcome = _
  rw [List.filter_filter]
  refine List.filter_congr fun x _ => ?_
  cases h : p x with
  | false => simp
  | true => simp [other x h]

theorem discardHold_outcomes (s : State) :
    (discardHold s).bpu.waiting.filter Transfer.isOutcome = s.bpu.waiting.filter Transfer.isOutcome := by
  have reread := withdraw_outcomes (p := Transfer.isReread) (fun x => by cases x <;> simp [Transfer.isReread, Transfer.isOutcome])
    (discardFetch s)
  have item := withdraw_outcomes (p := fun t => t == .item) (fun x h => by rw [beq_iff_eq.1 h]; rfl)
    { s with rrd := { s.rrd with fetch := none } }
  exact reread.trans item

/-- R79: the state in which the PRINTING label `c` has gone and the engine state stands. -/
def State.cancelled (s : State) (c : Context) : State :=
  let u := flushLabel c.label (cancelInRing (c.cut s.lcu.engine) (dropFormat c.label s))
  moveUp { u with lcu := { u.lcu with printing := none } }

theorem takeCancelLabel_some {s : State} {c : Context} (engaged : s.lcu.engine ≠ .unconfigured)
    (printing : s.lcu.printing = some c) : takeCancelLabel s = engineAfterCancel (s.cancelled c) := by
  unfold takeCancelLabel
  rw [if_pos ((configured_iff s).2 engaged), printing]
  rfl

theorem takeCancelLabel_none {s : State} (engaged : s.lcu.engine ≠ .unconfigured)
    (printing : s.lcu.printing = none) : takeCancelLabel s = s := by
  unfold takeCancelLabel
  rw [if_pos ((configured_iff s).2 engaged), printing]

theorem cancelInRing_outcomes (c : Context) (s : State) :
    (cancelInRing c s).bpu.waiting.filter Transfer.isOutcome = s.bpu.waiting.filter Transfer.isOutcome := by
  unfold cancelInRing
  dsimp only
  split
  · exact discardHold_outcomes _
  · rfl

theorem cancelInRing_frame (c : Context) (s : State) : cancelInRing c s = { s with
    rrd := (cancelInRing c s).rrd
    bpu := { s.bpu with waiting := (cancelInRing c s).bpu.waiting } } := by
  unfold cancelInRing
  dsimp only
  split <;> rfl

/-- R79: the units a cancelled label leaves alone, and the contexts. -/
theorem cancelled_units {s : State} (c : Context) (engaged : s.lcu.engine ≠ .unconfigured) :
    (s.cancelled c).lcu = { s.lcu with printing := s.lcu.staged, staged := none } ∧
    (s.cancelled c).mtu = s.mtu ∧ (s.cancelled c).msu = s.msu ∧ (s.cancelled c).htu = s.htu ∧
    (s.cancelled c).settings = s.settings ∧ (s.cancelled c).bpu.geometry = s.bpu.geometry ∧
    (s.cancelled c).asu = s.asu ∧ (s.cancelled c).bht = s.bht ∧
    (s.cancelled c).bpu.waiting.filter Transfer.isOutcome = s.bpu.waiting.filter Transfer.isOutcome := by
  let v : State := cancelInRing (c.cut s.lcu.engine) (dropFormat c.label s)
  have frame : v = { s with rrd := v.rrd, bpu := { s.bpu with waiting := v.bpu.waiting } } :=
    cancelInRing_frame _ _
  have outcomes : v.bpu.waiting.filter Transfer.isOutcome = s.bpu.waiting.filter Transfer.isOutcome :=
    (cancelInRing_outcomes _ _).trans (withdraw_outcomes (fun x h => by rw [beq_iff_eq.1 h]; rfl) s)
  let u : State := flushLabel c.label v
  have lcu : u.lcu = s.lcu := by rw [flushLabel_lcu, frame]
  have up : s.cancelled c = { u with lcu := { u.lcu with printing := u.lcu.staged, staged := none } } :=
    if_pos ⟨(configured_iff _).2 (by show u.lcu.engine ≠ _; rw [lcu]; exact engaged), rfl⟩
  rw [up]
  dsimp only
  rw [lcu]
  refine ⟨rfl, ?_, ?_, ?_, ?_, ?_, ?_, ?_, ?_⟩
  · rw [flushLabel_mtu, frame]
  · rw [flushLabel_msu, frame]
  · rw [flushLabel_htu, frame]
  · rw [flushLabel_settings, frame]
  · rw [flushLabel_bpu, frame]
  · rw [flushLabel_asu, frame]
  · rw [flushLabel_bht, frame]
  · rw [flushLabel_bpu]
    exact outcomes

/-- R79: nothing of the cancelled label stays in the stream. -/
theorem cancelled_stream (s : State) (c : Context) :
    ∀ e ∈ (s.cancelled c).rsu.stream, e.label ≠ c.label := by
  have rsu : (s.cancelled c).rsu =
      (endWait (cancelInRing (c.cut s.lcu.engine) (dropFormat c.label s))).rsu.flushLabel c.label := moveUp_rsu _
  rw [rsu]
  intro e he
  simp only [Rsu.flushLabel, Rsu.stream, List.mem_append, List.mem_map, List.mem_filter] at he
  rcases he with ⟨x, ⟨-, other⟩, rfl⟩ | ⟨x, ⟨-, other⟩, rfl⟩
  · exact bne_iff_ne.1 other
  · exact bne_iff_ne.1 other

/-- R79: a cancelled copy that has strobed counts as spoiled. -/
theorem cut_eq (c : Context) (e : Engine) : c.cut e = { c with spoiled := (c.cut e).spoiled } := by
  unfold Context.cut
  split <;> rfl

theorem cut_spoiled (c : Context) (e : Engine)
    [Decidable (c.strobed = true ∧ e ∈ [Engine.printing, .stalled, .holding .thermal])] :
    (c.cut e).spoiled =
      if c.strobed = true ∧ e ∈ [Engine.printing, .stalled, .holding .thermal] then c.spoiled + 1 else c.spoiled := by
  have copy : e.inCopy = true ↔ e ∈ [Engine.printing, .stalled, .holding .thermal] := by
    cases e with
    | holding r => cases r <;> simp [Engine.inCopy]
    | _ => simp [Engine.inCopy]
  unfold Context.cut
  simp only [Bool.and_eq_true, copy, and_comm]
  split <;> rfl

/-- R54, R57: the item table with the items of a cancelled label completed. -/
def cancelledTable (s : State) (c : Context) : List ItemEntry :=
  labelEnds s.rrd.retire c.label (c.closing.getD (s.rrd.take - 1)) .cancelled c.good (c.cut s.lcu.engine).spoiled
    s.rrd.table

/-- R41, R57: the ring after a cancelled label. -/
theorem cancelled_rrd (s : State) (c : Context) :
    (s.lcu.staged = none → (s.cancelled c).rrd = { s.rrd with
      table := cancelledTable s c, walk := c.closing.getD (s.rrd.take - 1) + 1, inside := false, label := none
      hold := none, impliedClose := false, fetch := none, reread := none }) ∧
    (s.lcu.staged ≠ none → (∀ w ∈ s.rrd.label, w.index ≠ c.label) →
      (s.cancelled c).rrd = { s.rrd with table := cancelledTable s c }) := by
  have rrd : (s.cancelled c).rrd = (cancelInRing (c.cut s.lcu.engine) (dropFormat c.label s)).rrd :=
    (moveUp_rrd _).trans (flushLabel_rrd c.label _)
  obtain ⟨follows, stays⟩ := cancelInRing_rrd (c.cut s.lcu.engine) (dropFormat c.label s)
  rw [completeLabel_eq, cut_eq] at follows stays
  rw [rrd, cut_eq]
  refine ⟨fun none_ => follows ?_, fun some_ other => stays ?_⟩
  · unfold walkFollowsCancel
    rw [dropFormat_lcu, none_]
    simp
  · have walking : (s.rrd.label.any fun w => w.index == c.label) = false := by
      cases h : s.rrd.label with
      | none => rfl
      | some w => exact beq_eq_false_iff_ne.2 (other w h)
    have behind : s.lcu.staged.isNone = false :=
      Option.isNone_eq_false_iff.2 (Option.isSome_iff_ne_none.2 some_)
    unfold walkFollowsCancel
    rw [dropFormat_lcu, dropFormat_rrd, walking, behind]
    rfl

/-- R57, R79: what the cancel of the PRINTING label `c` makes of `s`, the engine state apart. -/
structure LabelCancelled (s t : State) (c : Context) : Prop where
  lcu : t.lcu = { s.lcu with printing := s.lcu.staged, staged := none }
  mtu : t.mtu = s.mtu
  msu : t.msu = s.msu
  htu : t.htu = s.htu
  settings : t.settings = s.settings
  geometry : t.bpu.geometry = s.bpu.geometry
  asu : t.asu = s.asu
  bht : t.bht = s.bht
  outcomes : t.bpu.waiting.filter Transfer.isOutcome = s.bpu.waiting.filter Transfer.isOutcome
  stream : ∀ e ∈ t.rsu.stream, e.label ≠ c.label
  follows : s.lcu.staged = none → t.rrd = { s.rrd with
    table := cancelledTable s c, walk := c.closing.getD (s.rrd.take - 1) + 1, inside := false, label := none
    hold := none, impliedClose := false, fetch := none, reread := none }
  stays : s.lcu.staged ≠ none → (∀ w ∈ s.rrd.label, w.index ≠ c.label) →
    t.rrd = { s.rrd with table := cancelledTable s c }

theorem cancelled_label {s : State} (c : Context) (engaged : s.lcu.engine ≠ .unconfigured) (m : Memory) (r : Rsu) :
    LabelCancelled s (State.cancelled { s with mem := m, rsu := r } c) c := by
  obtain ⟨lcu, mtu, msu, htu, settings, geometry, asu, bht, outcomes⟩ :=
    cancelled_units (s := { s with mem := m, rsu := r }) c engaged
  obtain ⟨follows, stays⟩ := cancelled_rrd { s with mem := m, rsu := r } c
  exact ⟨lcu, mtu, msu, htu, settings, geometry, asu, bht, outcomes, cancelled_stream _ c, follows, stays⟩

theorem LabelCancelled.idle {s t : State} {c : Context} (h : LabelCancelled s t c) (none_ : t.lcu.printing = none) :
    operationReady t = none := by
  have staged : s.lcu.staged = none := by
    rw [h.lcu] at none_
    exact none_
  have hold : t.rrd.hold = none := by rw [h.follows staged]
  exact operationReady_none (by rw [hold]; nofun) (by rw [hold]; nofun)

/-! ## CANCEL_LABEL: the engine state (R64, R69, R79) -/

/-- R79: what follows a cancelled label in each state. -/
theorem engineAfterCancel_cases (s : State) :
    (s.lcu.engine ∈ [Engine.printing, .seeking, .calibrating .arming] →
      engineAfterCancel s = enterPresentingStop (abandonCalibration s)) ∧
    (s.lcu.engine = .arming → s.mtu.motion ≠ .rest →
      engineAfterCancel s = { releaseCopy s with lcu := { (releaseCopy s).lcu with armCancelled := true } }) ∧
    ((s.lcu.engine = .arming ∧ s.mtu.motion = .rest) ∨ s.lcu.engine = .stalled ∨ s.lcu.engine = .holding .thermal →
      engineAfterCancel s = chooseNext s) ∧
    (s.lcu.engine ∈ [Engine.idle, .unconfigured, .presenting .atEnd, .presenting .stop, .feeding,
        .calibrating .item, .holding .pause, .faulted] → engineAfterCancel s = s) := by
  have moves : s.moving = true ↔ s.mtu.motion ≠ .rest := moving_iff s
  unfold engineAfterCancel
  refine ⟨fun stops => ?_, fun arming moving => ?_, fun chooses => ?_, fun stays => ?_⟩
  · refine if_pos ?_
    simp only [List.mem_cons, List.not_mem_nil, or_false] at stops
    rcases stops with e | e | e <;> rw [e] <;> rfl
  · simp only [arming, Engine.stopsAtCancel, moves.2 moving, if_true, Bool.false_eq_true, if_false]
  · rcases chooses with ⟨arming, rest⟩ | e | e
    · have still : s.moving = false := by
        rw [← Bool.not_eq_true, moves, rest]
        exact fun h => h rfl
      simp only [arming, Engine.stopsAtCancel, still, Bool.false_eq_true, if_false]
    · simp only [e, Engine.stopsAtCancel, Bool.false_eq_true, if_false]
    · simp only [e, Engine.stopsAtCancel, Bool.false_eq_true, if_false]
  · simp only [List.mem_cons, List.not_mem_nil, or_false] at stays
    rcases stays with e | e | e | e | e | e | e | e <;>
      simp only [e, Engine.stopsAtCancel, Bool.false_eq_true, if_false]

/-- The engine states, sorted by what a cancelled label makes of them. -/
theorem engine_atCancel (e : Engine) : e ∈ [Engine.printing, .seeking, .calibrating .arming] ∨ e = .arming ∨
    e = .stalled ∨ e = .holding .thermal ∨
    e ∈ [Engine.idle, .unconfigured, .presenting .atEnd, .presenting .stop, .feeding, .calibrating .item,
      .holding .pause, .faulted] := by
  cases e with
  | holding r => cases r <;> simp
  | presenting r => cases r <;> simp
  | calibrating r => cases r <;> simp
  | _ => simp

/-- R64, R69, R79: what follows a cancelled label leaves the stream, and with no operation the ring, where no operation
is ready. -/
theorem engineAfterCancel_stands {s : State} (idle : s.lcu.printing = none → operationReady s = none) :
    let t := engineAfterCancel s
    (s.lcu.operation = none → t.rrd = s.rrd) ∧ t.bht = s.bht ∧ t.rsu = s.rsu ∧
      t.bpu.waiting.filter Transfer.isOutcome = s.bpu.waiting.filter Transfer.isOutcome := by
  have kept {t : State} (h : StreamStands (releaseCopy s) t) : (s.lcu.operation = none → t.rrd = s.rrd) ∧
      t.bht = s.bht ∧ t.rsu = s.rsu ∧
      t.bpu.waiting.filter Transfer.isOutcome = s.bpu.waiting.filter Transfer.isOutcome := by
    obtain ⟨-, -, rrd, bht, rsu, outcomes⟩ := h rfl
    exact ⟨rrd, bht, rsu, outcomes⟩
  obtain ⟨stops, moving, chooses, stays⟩ := engineAfterCancel_cases s
  have chosen : StreamStands (releaseCopy s) (chooseNext s) :=
    streamStands_chooseNext (s := releaseCopy s) idle
  rcases engine_atCancel s.lcu.engine with e | e | e | e | e
  · dsimp only
    rw [stops e]
    refine kept (.after (streamStands_enterPresentingStop (s := abandonCalibration (releaseCopy s)) idle) ?_)
    exact .of_units rfl rfl rfl rfl rfl rfl
  · by_cases rest : s.mtu.motion = .rest
    · dsimp only
      rw [chooses (.inl ⟨e, rest⟩)]
      exact kept chosen
    · dsimp only
      rw [moving e rest]
      exact ⟨fun _ => rfl, rfl, rfl, rfl⟩
  · dsimp only
    rw [chooses (.inr (.inl e))]
    exact kept chosen
  · dsimp only
    rw [chooses (.inr (.inr e))]
    exact kept chosen
  · dsimp only
    rw [stays e]
    exact ⟨fun _ => rfl, rfl, rfl, rfl⟩

section
variable {s k : State} {c : Context}

/-- R69, R79: a cancel that stops the paper. -/
theorem cancelLabel_stops (h : LabelCancelled s k c)
    (engine : s.lcu.engine ∈ [Engine.printing, .seeking, .calibrating .arming]) (stopping : s.mtu.stopping = none)
    (latch : s.mtu.latch = none) :
    let t := settle (engineAfterCancel k)
    t.lcu.engine = .presenting .stop ∧ t.lcu.printing = s.lcu.staged ∧ t.lcu.staged = none ∧
      t.lcu.restTof = none ∧ t.lcu.copyTof = none ∧ t.lcu.started = false ∧ t.lcu.seek = none ∧
      t.hdu.state = .idle ∧ t.hdu.strobes = List.replicate 8 false ∧ t.hdu.firing = none ∧
      t.mtu.source = .decelerate ∧ t.mtu.motion = s.mtu.motion ∧
      t.mtu.position = s.mtu.position ∧ t.htu = s.htu ∧ (s.msu.cal = none → t.msu = s.msu) ∧
      (∀ r, s.msu.cal = some r → CalibrationDropped s t r ∧
        t.asu.records.get .media = s.asu.records.get .media) := by
  have same : k.lcu.engine = s.lcu.engine := by rw [h.lcu]
  have differs : (abandonCalibration k).lcu.engine ≠ .presenting .stop := by
    rw [abandonCalibration_lcu, same]
    intro stop
    rw [stop] at engine
    simp at engine
  have ran : engineAfterCancel k = _ := ((engineAfterCancel_cases k).1 (by rwa [same])).trans
    (enterPresentingStop_eq differs (by rw [abandonCalibration_mtu, h.mtu]; exact stopping)
      (by rw [abandonCalibration_mtu, h.mtu]; exact latch))
  have f := settle_followsUp (engineAfterCancel k)
  obtain ⟨b, mtu⟩ : ∃ b, (settle (engineAfterCancel k)).mtu = { (engineAfterCancel k).mtu with tailRunOn := b } :=
    ⟨_, f.mtu⟩
  obtain ⟨x, hdu⟩ : ∃ x, (settle (engineAfterCancel k)).hdu = { (engineAfterCancel k).hdu with forecastTime := x } :=
    ⟨_, f.hdu⟩
  have media := settle_record (n := .media) (by decide) (by decide) (engineAfterCancel k)
  have msu : (settle (engineAfterCancel k)).msu = s.msu.dropCalibration := by
    rw [f.msu, ran, ← h.msu]
    rfl
  have lcu : (engineAfterCancel k).lcu = { s.lcu with
      printing := s.lcu.staged, staged := none, engine := .presenting .stop, copyTof := none, started := false
      seek := none, presentTof := none, armCancelled := false, restTof := none } := by
    rw [ran, abandonCalibration_lcu, h.lcu]
  have course : (engineAfterCancel k).mtu = { s.mtu with source := .decelerate } ∧
      (engineAfterCancel k).hdu = k.hdu.cut ∧ (engineAfterCancel k).htu = s.htu ∧
      (engineAfterCancel k).asu = s.asu := by
    rw [ran, ← h.mtu, ← h.htu, ← h.asu]
    exact ⟨rfl, rfl, rfl, rfl⟩
  obtain ⟨motion, head, htu, asu⟩ := course
  have dropped (r : CalRun) (cal : s.msu.cal = some r) : CalibrationDropped s (settle (engineAfterCancel k)) r := by
    unfold CalibrationDropped
    rw [msu, Msu.dropCalibration_some cal]
    exact ⟨rfl, rfl, rfl, rfl, rfl, rfl, rfl, rfl, rfl, rfl, rfl, rfl⟩
  dsimp only
  rw [msu, media, f.lcu, f.htu, mtu, hdu, lcu, motion, head, htu, asu]
  exact ⟨rfl, rfl, rfl, rfl, rfl, rfl, rfl, rfl, rfl, rfl, rfl, rfl, rfl, rfl, Msu.dropCalibration_none,
    fun r cal => ⟨dropped r cal, rfl⟩⟩

/-- R64, R79: a cancel at rest is followed by the choice. -/
theorem cancelLabel_chooses (h : LabelCancelled s k c)
    (engine : (s.lcu.engine = .arming ∧ s.mtu.motion = .rest) ∨ s.lcu.engine = .stalled ∨
      s.lcu.engine = .holding .thermal) :
    let t := settle (engineAfterCancel k)
    let at_ (e : Engine) : Lcu := { s.lcu with
      printing := s.lcu.staged, staged := none, engine := e, copyTof := none, started := false
      seek := none, presentTof := none, armCancelled := false }
    (s.lcu.pauseLatch = true →
      t.lcu = at_ (.holding .pause) ∧ t.mtu = { s.mtu with tailRunOn := t.mtu.tailRunOn } ∧
      t.msu = s.msu ∧ t.htu.supply = s.htu.supply) ∧
    (s.lcu.pauseLatch = false → s.lcu.staged = none →
      t.lcu = at_ .idle ∧ t.mtu = { s.mtu with tailRunOn := t.mtu.tailRunOn } ∧
      t.msu = s.msu ∧ t.htu = s.htu) ∧
    (s.lcu.pauseLatch = false → s.lcu.staged ≠ none → 1 < s.cfg.calLimit →
      EntersArming s t ∧ t.lcu.printing = s.lcu.staged ∧ t.lcu.staged = none) := by
  have same : k.lcu.engine = s.lcu.engine := by rw [h.lcu]
  have pause : k.lcu.pauseLatch = s.lcu.pauseLatch := by rw [h.lcu]
  have restTof : k.lcu.restTof = s.lcu.restTof := by rw [h.lcu]
  have printing : k.lcu.printing = s.lcu.staged := by rw [h.lcu]
  have ran : engineAfterCancel k = chooseNext k :=
    (engineAfterCancel_cases k).2.2.1 (by rwa [same, h.mtu])
  have f := settle_followsUp (engineAfterCancel k)
  have moved (course : (engineAfterCancel k).mtu = s.mtu) :
      ∃ b, (settle (engineAfterCancel k)).mtu = { s.mtu with tailRunOn := b } := ⟨_, course ▸ f.mtu⟩
  dsimp only
  refine ⟨fun latch => ?_, fun latch staged => ?_, fun latch staged far => ?_⟩
  · have chosen := ran.trans (chooseNext_paused (pause.trans latch))
    have lcu : (engineAfterCancel k).lcu = { s.lcu with
        printing := s.lcu.staged, staged := none, engine := .holding .pause, copyTof := none, started := false
        seek := none, presentTof := none, armCancelled := false } := by
      rw [chosen, setEngine_lcu]
      unfold endCourse releaseCopy
      rw [h.lcu]
    have supply : (engineAfterCancel k).htu.supply = s.htu.supply := by
      rw [chosen, setEngine_htu, ← h.htu]
      split <;> rfl
    obtain ⟨b, mtu⟩ := moved (by rw [chosen, setEngine_mtu, ← h.mtu]; rfl)
    rw [f.lcu, f.msu, f.htu, mtu, lcu, supply, chosen, setEngine_msu]
    exact ⟨rfl, rfl, h.msu, rfl⟩
  · have chosen := ran.trans (chooseNext_empty (pause.trans latch) (printing.trans staged)
      (h.idle (printing.trans staged)))
    have lcu : (engineAfterCancel k).lcu = { s.lcu with
        printing := s.lcu.staged, staged := none, engine := .idle, copyTof := none, started := false
        seek := none, presentTof := none, armCancelled := false } := by
      rw [chosen, setEngine_lcu]
      unfold endCourse releaseCopy
      rw [h.lcu]
    obtain ⟨b, mtu⟩ := moved (by rw [chosen, setEngine_mtu, ← h.mtu]; rfl)
    rw [f.lcu, f.msu, f.htu, mtu, lcu, chosen, setEngine_msu, setEngine_htu_same rfl]
    exact ⟨rfl, rfl, h.msu, h.htu⟩
  · obtain ⟨d, some_⟩ := Option.ne_none_iff_exists'.1 staged
    have chosen := ran.trans (chooseNext_arms (pause.trans latch) (printing.trans some_))
    have as : ArmsAs s (endCourse (releaseCopy k)) :=
      { engine := same, mtu := h.mtu, msu := h.msu, htu := h.htu, settings := h.settings, geometry := h.geometry
        restTof := restTof, unpaused := pause.trans latch }
    obtain ⟨enters, context, waiting, -⟩ := enterArming_settled as far
    rw [chosen]
    exact ⟨enters, context.trans printing, waiting.trans (congrArg Lcu.staged h.lcu)⟩

/-- R79: a cancel in ARMING while the paper goes back waits for the end of the backfeed. -/
theorem cancelLabel_backfeeding (h : LabelCancelled s k c) (engine : s.lcu.engine = .arming)
    (motion : s.mtu.motion ≠ .rest) :
    let t := settle (engineAfterCancel k)
    t.lcu = { s.lcu with
      printing := s.lcu.staged, staged := none, copyTof := none, started := false, armCancelled := true } ∧
    t.mtu = { s.mtu with tailRunOn := t.mtu.tailRunOn } ∧ t.msu = s.msu ∧ t.htu = s.htu := by
  have same : k.lcu.engine = .arming := by rw [h.lcu]; exact engine
  have ran := (engineAfterCancel_cases k).2.1 same (by rwa [h.mtu])
  have f := settle_followsUp (engineAfterCancel k)
  have course : (engineAfterCancel k).mtu = s.mtu := by rw [ran, ← h.mtu]; rfl
  obtain ⟨b, mtu⟩ : ∃ b, (settle (engineAfterCancel k)).mtu = { s.mtu with tailRunOn := b } := ⟨_, course ▸ f.mtu⟩
  dsimp only
  rw [f.lcu, f.msu, f.htu, mtu, ran]
  refine ⟨?_, rfl, h.msu, h.htu⟩
  unfold releaseCopy
  rw [h.lcu]

/-- R41, R79: a cancel in a state that stays. -/
theorem cancelLabel_stays (h : LabelCancelled s k c)
    (engine : s.lcu.engine ∈ [Engine.presenting .atEnd, .presenting .stop, .feeding, .calibrating .item,
      .holding .pause, .faulted]) :
    let t := settle (engineAfterCancel k)
    (s.lcu.staged = none → t.rrd.walk = c.closing.getD (s.rrd.take - 1) + 1 ∧
      t.rrd.inside = false ∧ t.rrd.label = none ∧ t.rrd.hold = none ∧ t.rrd.impliedClose = false ∧
      (∀ f ∈ t.rrd.fetch, f.index = t.rrd.walk ∧ f.data = [])) ∧
    (s.lcu.staged ≠ none → (∀ w ∈ s.rrd.label, w.index ≠ c.label) →
      t.rrd.walk = s.rrd.walk ∧ t.rrd.inside = s.rrd.inside ∧ t.rrd.label = s.rrd.label ∧
      t.rrd.hold = s.rrd.hold ∧ t.rrd.impliedClose = s.rrd.impliedClose ∧
      (s.rrd.fetch ≠ none → t.rrd.fetch = s.rrd.fetch)) ∧
    t.lcu = { s.lcu with printing := s.lcu.staged, staged := none } ∧
    t.mtu.motion = s.mtu.motion ∧ t.mtu.source = s.mtu.source ∧ t.msu = s.msu ∧ t.htu = s.htu := by
  have same : k.lcu.engine = s.lcu.engine := by rw [h.lcu]
  have ran : engineAfterCancel k = k := by
    refine (engineAfterCancel_cases k).2.2.2 ?_
    rw [same]
    simp only [List.mem_cons] at engine ⊢
    exact .inr (.inr engine)
  have f := settle_followsUp k
  obtain ⟨b, mtu⟩ : ∃ b, (settle k).mtu = { k.mtu with tailRunOn := b } := ⟨_, f.mtu⟩
  obtain ⟨retire, table, fetch, reread, rrd⟩ : ∃ i l x y,
      (settle k).rrd = { k.rrd with retire := i, table := l, fetch := x, reread := y } := ⟨_, _, _, _, f.rrd⟩
  rw [ran]
  dsimp only
  refine ⟨fun none_ => ?_, fun some_ other => ?_, f.lcu.trans h.lcu, ?_, ?_, f.msu.trans h.msu, f.htu.trans h.htu⟩
  · have ring := h.follows none_
    have fetched : ∀ x ∈ (settle k).rrd.fetch, x.index = (settle k).rrd.walk ∧ x.data = [] := by
      intro x hx
      by_cases wanted : FetchWanted k
      · rw [f.fetch wanted] at hx
        obtain rfl := Option.some.inj hx
        exact ⟨by rw [rrd], rfl⟩
      · rw [f.noFetch wanted, ring] at hx
        cases hx
    refine ⟨?_, ?_, ?_, ?_, ?_, fetched⟩ <;> rw [rrd, ring]
  · have ring := h.stays some_ other
    refine ⟨?_, ?_, ?_, ?_, ?_, fun fetching => ?_⟩
    · rw [rrd, ring]
    · rw [rrd, ring]
    · rw [rrd, ring]
    · rw [rrd, ring]
    · rw [rrd, ring]
    · have unwanted : ¬ FetchWanted k := by
        unfold FetchWanted
        rw [ring]
        tauto
      rw [f.noFetch unwanted, ring]
  · rw [mtu, h.mtu]
  · rw [mtu, h.mtu]

end

theorem fill_labels {r : Rsu} {label : Idx} (gone : ∀ e ∈ r.stream, e.label ≠ label) :
    (∀ x ∈ r.fill.queue, x.label ≠ label) ∧ ∀ x ∈ r.fill.buffer, x.label ≠ label := by
  have all := fill_all (P := fun _ l => l ≠ label) gone
  refine ⟨fun x hx => ?_, fun x hx => ?_⟩
  · exact all x.element (List.mem_append_right _ (List.mem_map_of_mem hx))
  · exact all x.element (List.mem_append_left _ (List.mem_map_of_mem hx))

/-- R79, R146: the end of a backfeed that a cancel has waited for. -/
theorem comeToRest_cancelled {s : State} (engine : s.lcu.engine = .arming) (cancelled : s.lcu.armCancelled = true) :
    comeToRest s = chooseNext (motionRest s) := by
  unfold comeToRest restReached
  have same : (motionRest s).lcu = s.lcu := by rw [motionRest_eq]
  simp only [same, engine, cancelled, Bool.or_true, if_true]

/-- Settles O15. -/
theorem cancelLabel : Obligations.CancelLabel := by
  refine ⟨fun s anchored live engaged => ⟨fun printing => ?_, fun c printing => ?_⟩,
    fun s arming cancelled motion timer done => ?_⟩
  · obtain ⟨-, -, run, -⟩ := exec_control anchored live
    refine ⟨_, run, ?_⟩
    obtain ⟨m, ρ, written⟩ := requested_form s 4 3
    rw [written, takeCancelLabel_none (by exact engaged) (by exact printing)]
    exact settle_followsUp _
  · obtain ⟨-, -, run, -⟩ := exec_control anchored live
    refine ⟨_, run, storedAt_control (v := 3) anchored live run (by decide), ?_⟩
    obtain ⟨m, ρ, written⟩ := requested_form s 4 3
    have h := cancelled_label c engaged m ρ
    rw [written, takeCancelLabel_some (by exact engaged) (by exact printing)]
    revert h
    generalize State.cancelled _ c = k
    intro h closing cut spoiled table others
    have spoils : table = cancelledTable s c := by
      unfold cancelledTable
      rw [cut_spoiled]
    obtain ⟨rrd, bht, rsu, outcomes⟩ := engineAfterCancel_stands h.idle
    have operation : k.lcu.operation = s.lcu.operation := by rw [h.lcu]
    have f := settle_followsUp (engineAfterCancel k)
    have stream : (∀ x ∈ (settle (engineAfterCancel k)).rsu.queue, x.label ≠ c.label) ∧
        ∀ x ∈ (settle (engineAfterCancel k)).rsu.buffer, x.label ≠ c.label := by
      rw [f.rsu, rsu]
      split
      · exact fill_labels h.stream
      · exact ⟨fun x hx => h.stream x.element (List.mem_append_right _ (List.mem_map_of_mem hx)),
          fun x hx => h.stream x.element (List.mem_append_left _ (List.mem_map_of_mem hx))⟩
    refine ⟨fun none_ => ⟨_, f, bht.trans h.bht, outcomes.trans h.outcomes, fun staged => ?_,
      fun staged other => ?_⟩, stream.1, stream.2, cancelLabel_stays h, cancelLabel_stops h,
      cancelLabel_backfeeding h, cancelLabel_chooses h⟩
    · rw [rrd (operation.trans none_), spoils]
      exact h.follows staged
    · rw [rrd (operation.trans none_), spoils]
      exact h.stays staged other
  · have ran : linePeriodExpires s = chooseNext (motionRest s) := by
      rw [linePeriodExpires_backward timer motion]
      exact (if_neg (by rw [done]; decide)).trans (comeToRest_cancelled arming cancelled)
    have run : exec .linePeriodExpiry s = .next (settle (chooseNext (motionRest s))) :=
      congrArg (fun u => Host.Outcome.next (settle u)) ran
    have f := settle_followsUp (chooseNext (motionRest s))
    have rest : (motionRest s).lcu = s.lcu ∧ (motionRest s).rrd = s.rrd ∧ (motionRest s).mtu.motion = .rest ∧
        (motionRest s).mtu.position = s.mtu.position := by
      rw [motionRest_eq]
      exact ⟨rfl, rfl, rfl, rfl⟩
    obtain ⟨lcu, rrd, still, place⟩ := rest
    obtain ⟨b, mtu⟩ : ∃ b, (settle (chooseNext (motionRest s))).mtu =
        { (chooseNext (motionRest s)).mtu with tailRunOn := b } := ⟨_, f.mtu⟩
    refine ⟨_, run, ?_, fun latch => ?_, fun latch printing ready => ?_⟩
    · rw [f.mem, chooseNext_mem, motionRest_mem]
    · rw [f.lcu, mtu, chooseNext_paused (by rwa [lcu]), setEngine_lcu, setEngine_mtu]
      exact ⟨rfl, still, place⟩
    · have ready_ : operationReady (endCourse (releaseCopy (motionRest s))) = none := by
        rw [← ready]
        unfold operationReady endCourse releaseCopy
        dsimp only
        rw [lcu, rrd]
      rw [f.lcu, mtu, chooseNext_empty (by rwa [lcu]) (by rwa [lcu]) ready_, setEngine_lcu, setEngine_mtu]
      exact ⟨rfl, still, place⟩

/-! ## CANCEL_ALL: the run of items that retires (R9, R57, R58) -/

/-- R9: a run of items that names every record of the release list, in its order, releases every hold. -/
theorem releaseRun_empties (run : List ItemEntry) : ∀ h : Bht,
    (h.release.map fun r => r.1).Sublist (run.map fun e => e.index) →
    (∀ b, h.holdOf b = h.release.countP fun r => r.2 == b) →
    (run.foldl (fun h e => h.releaseItem e.index) h).release = [] ∧
      ∀ b, (run.foldl (fun h e => h.releaseItem e.index) h).holdOf b = 0 := by
  induction run with
  | nil =>
    intro h order counts
    have none_ : h.release = [] := List.map_eq_nil_iff.1 (List.sublist_nil.1 order)
    exact ⟨none_, fun b => by rw [List.foldl_nil, counts, none_]; rfl⟩
  | cons e run ih =>
    intro h order counts
    rw [List.foldl_cons]
    cases release : h.release with
    | nil =>
      rw [releaseItem_none release]
      refine ih h ?_ counts
      rw [release]
      exact List.nil_sublist _
    | cons r rest =>
      obtain ⟨i, b⟩ := r
      rw [release] at order
      by_cases own : i = e.index
      · have room : b < h.entries.length := by
          by_contra out
          have zero : h.holdOf b = 0 := by
            rw [Bht.holdOf, List.getElem?_eq_none (Nat.not_lt.1 out)]
            rfl
          rw [counts, release, List.countP_cons_of_pos (by simp)] at zero
          cases zero
        subst own
        have head := releaseItem_head release
        refine ih _ ?_ fun k => ?_
        · rw [head]
          exact List.cons_sublist_cons.1 order
        · obtain ⟨self, -, others⟩ := holdOf_of_modify (u := h.releaseItem e.index) (by rw [head]) room
          have left : (h.releaseItem e.index).release = rest := by rw [head]
          rw [left]
          by_cases same : k = b
          · have one := counts b
            rw [release, List.countP_cons_of_pos (by simp), holdOf_eq room] at one
            rw [same, self]
            dsimp only
            omega
          · rw [(others k same).1, counts k, release, List.countP_cons_of_neg]
            simpa using Ne.symm same
      · rw [releaseItem_other (by rw [release]; rintro r ⟨⟩; exact own)]
        refine ih h ?_ counts
        rw [release]
        cases order with
        | cons _ later => exact later
        | cons_cons => exact absurd rfl own

/-- R54, R58: the items a CANCEL_ALL retires, in ring order. -/
def cancelAllRun (s : State) : List ItemEntry :=
  List.zipWith (fun old new => if keptByCancelAll s old then new else new.silence) s.rrd.table
    (cancelCompletions s).rrd.table

/-- `t` differs from `s` in the item table alone. -/
def OnlyTable (s t : State) : Prop := t = { s with rrd := { s.rrd with table := t.rrd.table } }

theorem OnlyTable.trans {s t u : State} (h : OnlyTable s t) (k : OnlyTable t u) : OnlyTable s u := by
  rw [OnlyTable] at h k
  rw [OnlyTable, k, h]

theorem onlyTable_completeLabel (label closing : Idx) (r : ItemResult) (good spoiled : Nat) (s : State) :
    OnlyTable s (completeLabel label closing r good spoiled s) := by
  rw [OnlyTable, completeLabel_eq]

/-- R57, R58: the completions of a CANCEL_ALL. -/
theorem onlyTable_cancelCompletions (s : State) : OnlyTable s (cancelCompletions s) := by
  unfold cancelCompletions
  extract_lets s1 s2
  have ended : OnlyTable s s1 := by
    unfold s1
    split
    · split
      · exact onlyTable_completeLabel _ _ _ _ _ _
      · rfl
    · rfl
  have cut : OnlyTable s1 s2 := by
    unfold s2
    split
    · exact onlyTable_completeLabel _ _ _ _ _ _
    · rfl
  refine (ended.trans cut).trans ?_
  split <;> rfl

/-- R58: the ring emptied by a CANCEL_ALL, its retire index not yet moved. -/
def allRetired (s : State) : State :=
  let u := discardHold (retireRun (cancelAllRun s) (cancelCompletions s))
  { u with rrd := { u.rrd with
      table := [], take := s.rrd.producer, walk := s.rrd.producer, inside := false, label := none
      impliedClose := false } }

theorem cancelAllInRing_eq (s : State) : cancelAllInRing s =
    if s.rrd.retire = s.rrd.producer then allRetired s
    else endAdvance s.bht.free s.rrd.producer (allRetired s) := rfl

theorem allRetired_rrd (s : State) : (allRetired s).rrd = { s.rrd with
    take := s.rrd.producer, walk := s.rrd.producer, table := [], inside := false, label := none
    impliedClose := false, fetch := none, hold := none, reread := none } := by
  have table := onlyTable_cancelCompletions s
  rw [OnlyTable] at table
  unfold allRetired discardHold discardFetch State.withdraw
  dsimp only
  rw [retireRun_rrd, table]

theorem allRetired_units (s : State) :
    let run := cancelAllRun s
    (allRetired s).bht = run.foldl (fun h e => h.releaseItem e.index) s.bht ∧
    (allRetired s).bpu.waiting.filter Transfer.isOutcome =
      s.bpu.waiting.filter Transfer.isOutcome ++ outcomesOf s.geo s.bht run ∧
    (allRetired s).asu.records.get .label = (s.asu.records.get .label).after (run.filterMap labelEvent) ∧
    (allRetired s).asu.records.get .media = s.asu.records.get .media ∧
    (allRetired s).lcu = s.lcu ∧ (allRetired s).mtu = s.mtu ∧ (allRetired s).msu = s.msu ∧
    (allRetired s).htu = s.htu ∧ (allRetired s).settings = s.settings := by
  have table := onlyTable_cancelCompletions s
  rw [OnlyTable] at table
  have outcomes := (discardHold_outcomes (retireRun (cancelAllRun s) (cancelCompletions s))).trans
    (retireRun_outcomes _ _)
  have record (n : Source) := retireRun_record (cancelAllRun s) n (cancelCompletions s)
  unfold allRetired
  dsimp only
  refine ⟨?_, outcomes.trans (by rw [table]; rfl), ?_, ?_, ?_, ?_, ?_, ?_, ?_⟩
  · rw [discardHold_bht, retireRun_bht, table]
  · rw [discardHold_asu, record, if_pos rfl, table]
  · rw [discardHold_asu, record, if_neg (by decide), table]
  · rw [discardHold_lcu, retireRun_lcu, table]
  · rw [discardHold_mtu, retireRun_mtu, table]
  · rw [discardHold_msu, retireRun_msu, table]
  · rw [discardHold_htu, retireRun_htu, table]
  · rw [discardHold_settings, retireRun_settings, table]

theorem endAdvance_record {n : Source} (other : n ≠ .bands) (before : Nat) (i : Idx) (s : State) :
    (endAdvance before i s).asu.records.get n = s.asu.records.get n := by
  refine (judgeBandsFree_record before { s with rrd := { s.rrd with retire := i } } n).trans (if_neg ?_)
  exact fun h => other h.1

/-- R58: what a CANCEL_ALL does to the ring, the holds, the outcomes and the events. -/
theorem cancelAllInRing_units (s : State) :
    let t := cancelAllInRing s
    let run := cancelAllRun s
    t.rrd = { s.rrd with
      take := s.rrd.producer, walk := s.rrd.producer, retire := s.rrd.producer, table := [], inside := false
      label := none, impliedClose := false, fetch := none, hold := none, reread := none } ∧
    t.bht = run.foldl (fun h e => h.releaseItem e.index) s.bht ∧
    t.bpu.waiting.filter Transfer.isOutcome =
      s.bpu.waiting.filter Transfer.isOutcome ++ outcomesOf s.geo s.bht run ∧
    t.asu.records.get .label = (s.asu.records.get .label).after (run.filterMap labelEvent) ∧
    t.asu.records.get .media = s.asu.records.get .media ∧
    t.lcu = s.lcu ∧ t.mtu = s.mtu ∧ t.msu = s.msu ∧ t.htu = s.htu ∧ t.settings = s.settings := by
  obtain ⟨bht, outcomes, label, media, lcu, mtu, msu, htu, settings⟩ := allRetired_units s
  intro t run
  have same : t = _ := cancelAllInRing_eq s
  rw [same]
  split
  next still =>
    refine ⟨?_, bht, outcomes, label, media, lcu, mtu, msu, htu, settings⟩
    rw [allRetired_rrd, ← still]
  · rw [endAdvance_rrd, endAdvance_bht, endAdvance_outcomes, endAdvance_record (by decide),
      endAdvance_record (by decide), endAdvance_lcu, endAdvance_mtu, endAdvance_msu, endAdvance_htu,
      endAdvance_settings, allRetired_rrd]
    exact ⟨rfl, bht, outcomes, label, media, lcu, mtu, msu, htu, settings⟩

/-! ## CANCEL_ALL: the engine state (R64, R69, R80) -/

/-- R80: the states in which a CANCEL_ALL stops the paper. -/
def Engine.stopsAll (e : Engine) : Prop :=
  e ∈ [Engine.printing, .seeking, .feeding, .calibrating .item, .calibrating .arming]

/-- R80: the states in which the choice of R64 follows a CANCEL_ALL at once. -/
def State.choosesAll (s : State) : Prop :=
  (s.lcu.engine = .arming ∧ s.mtu.motion = .rest) ∨ s.lcu.engine = .stalled ∨ s.lcu.engine = .holding .thermal

/-- R80: what follows a CANCEL_ALL in each state. -/
theorem engineAfterCancelAll_cases (s : State) :
    (s.lcu.engine.stopsAll → s.lcu.engine ≠ .feeding →
      engineAfterCancelAll s = enterPresentingStop (abandonCalibration s)) ∧
    (s.lcu.engine = .feeding → engineAfterCancelAll s = enterPresentingStop s) ∧
    (¬ s.lcu.engine.stopsAll → engineAfterCancelAll s = engineAfterCancel s) := by
  obtain ⟨stops, -⟩ := engineAfterCancel_cases s
  unfold engineAfterCancelAll Engine.stopsAll
  refine ⟨fun h other => ?_, fun feeding => by rw [feeding], fun h => ?_⟩
  · split
    next e => exact absurd e other
    · rfl
    next calibrating feeding =>
      refine stops ?_
      simp only [List.mem_cons, List.not_mem_nil, or_false] at h ⊢
      rcases h with e | e | e | e | e
      · exact .inl e
      · exact .inr (.inl e)
      · exact absurd e other
      · exact .inr (.inr (absurd e (feeding _)))
      · exact .inr (.inr e)
  · split
    next e => exact absurd (by simp [e]) h
    next why e => cases why <;> exact absurd (by simp [e]) h
    · rfl

/-- The units that the engine state's change after a CANCEL_ALL leaves. -/
structure UnitsStand (s t : State) : Prop where
  rrd : t.rrd = s.rrd
  bht : t.bht = s.bht
  rsu : t.rsu = s.rsu
  asu : t.asu = s.asu
  settings : t.settings = s.settings
  outcomes : t.bpu.waiting.filter Transfer.isOutcome = s.bpu.waiting.filter Transfer.isOutcome
  contexts : t.lcu.printing = s.lcu.printing ∧ t.lcu.staged = s.lcu.staged ∧ t.lcu.operation = s.lcu.operation
  latch : t.lcu.pauseLatch = s.lcu.pauseLatch
  motion : t.mtu.motion = s.mtu.motion
  position : t.mtu.position = s.mtu.position
  supply : t.htu.supply = s.htu.supply

theorem unitsStand_setEngine (e : Engine) (s : State) : UnitsStand s (setEngine e (endCourse (releaseCopy s))) := by
  obtain ⟨-, -, rrd, bht, rsu, outcomes⟩ :=
    ((streamStands_release (releaseCopy s)).trans (streamStands_setEngine e _)) rfl
  have lcu := setEngine_lcu e (endCourse (releaseCopy s))
  have supply : (setEngine e (endCourse (releaseCopy s))).htu.supply = s.htu.supply := by
    rw [setEngine_htu]
    split <;> rfl
  exact {
    rrd := setEngine_rrd _ _, bht := bht, rsu := rsu, asu := setEngine_asu _ _, settings := setEngine_settings _ _
    outcomes := outcomes, contexts := by rw [lcu]; exact ⟨rfl, rfl, rfl⟩, latch := by rw [lcu]; rfl
    motion := congrArg Mtu.motion (setEngine_mtu _ _), position := congrArg Mtu.position (setEngine_mtu _ _)
    supply := supply }

/-- R69, R80: the stop of a CANCEL_ALL. -/
theorem cancelAll_stops {s : State} (differs : s.lcu.engine ≠ .presenting .stop) (stopping : s.mtu.stopping = none)
    (latch : s.mtu.latch = none) :
    let t := enterPresentingStop s
    UnitsStand s t ∧ t.lcu.engine = .presenting .stop ∧ t.mtu.source = .decelerate ∧ t.hdu.state = .idle ∧
      t.hdu.strobes = List.replicate 8 false ∧ t.lcu.restTof = none ∧ t.lcu.copyTof = none ∧ t.lcu.seek = none ∧
      t.msu = s.msu := by
  dsimp only
  rw [enterPresentingStop_eq differs stopping latch]
  exact ⟨⟨rfl, rfl, rfl, rfl, rfl, withRefresh_outcomes _, ⟨rfl, rfl, rfl⟩, rfl, rfl, rfl, rfl⟩, rfl, rfl, rfl,
    rfl, rfl, rfl, rfl, rfl⟩

/-- R64: the choice with nothing left to print and nothing held. -/
theorem chooseNext_bare {s : State} (printing : s.lcu.printing = none) (hold : s.rrd.hold = none) :
    chooseNext s =
      setEngine (if s.lcu.pauseLatch then .holding .pause else .idle) (endCourse (releaseCopy s)) := by
  by_cases latch : s.lcu.pauseLatch = true
  · rw [chooseNext_paused latch, if_pos latch]
  · have ready : operationReady (endCourse (releaseCopy s)) = none :=
      operationReady_none (by rw [show (endCourse (releaseCopy s)).rrd = s.rrd from rfl, hold]; nofun)
        (by rw [show (endCourse (releaseCopy s)).rrd = s.rrd from rfl, hold]; nofun)
    rw [if_neg latch]
    exact chooseNext_empty (Bool.not_eq_true _ ▸ latch) printing ready

/-- R64, R69, R80: the engine state after everything has been cancelled. -/
theorem engineAfterCancelAll_units {s : State} (printing : s.lcu.printing = none) (hold : s.rrd.hold = none)
    (stopping : s.mtu.stopping = none) (latch : s.mtu.latch = none) :
    let t := engineAfterCancelAll s
    UnitsStand s t ∧
    (s.lcu.engine.stopsAll → t.lcu.engine = .presenting .stop ∧ t.mtu.source = .decelerate ∧ t.hdu.state = .idle ∧
      t.hdu.strobes = List.replicate 8 false ∧ t.lcu.restTof = none ∧ t.lcu.copyTof = none ∧ t.lcu.seek = none ∧
      (s.lcu.engine ≠ .feeding → t.msu = s.msu.dropCalibration)) ∧
    (s.choosesAll → t.lcu.copyTof = none ∧
      t.lcu.engine = (if s.lcu.pauseLatch then .holding .pause else .idle)) ∧
    (s.lcu.engine = .arming → s.mtu.motion ≠ .rest →
      t.lcu.engine = .arming ∧ t.lcu.armCancelled = true ∧ t.lcu.copyTof = none) ∧
    (¬ s.lcu.engine.stopsAll → ¬ s.choosesAll → t.lcu.engine = s.lcu.engine) := by
  obtain ⟨running, feeding, others⟩ := engineAfterCancelAll_cases s
  obtain ⟨-, backfeeding, choosing, staying⟩ := engineAfterCancel_cases s
  intro t
  by_cases stops : s.lcu.engine.stopsAll
  · have differs : s.lcu.engine ≠ .presenting .stop ∧ s.lcu.engine ≠ .arming ∧ ¬ s.choosesAll := by
      unfold State.choosesAll
      refine ⟨?_, ?_, ?_⟩
      · intro e
        simp [Engine.stopsAll, e] at stops
      · intro e
        simp [Engine.stopsAll, e] at stops
      · rintro (⟨e, -⟩ | e | e) <;> simp [Engine.stopsAll, e] at stops
    obtain ⟨presenting, arming, chooses⟩ := differs
    have stopped : UnitsStand s t ∧ t.lcu.engine = .presenting .stop ∧ t.mtu.source = .decelerate ∧
        t.hdu.state = .idle ∧ t.hdu.strobes = List.replicate 8 false ∧ t.lcu.restTof = none ∧
        t.lcu.copyTof = none ∧ t.lcu.seek = none ∧ (s.lcu.engine ≠ .feeding → t.msu = s.msu.dropCalibration) := by
      by_cases feed : s.lcu.engine = .feeding
      · have same : t = enterPresentingStop s := feeding feed
        obtain ⟨units, engine, source, idle, strobes, rest, copy, seek, -⟩ := cancelAll_stops presenting stopping latch
        rw [same]
        exact ⟨units, engine, source, idle, strobes, rest, copy, seek, fun other => absurd feed other⟩
      · have same : t = enterPresentingStop (abandonCalibration s) := running stops feed
        obtain ⟨units, engine, source, idle, strobes, rest, copy, seek, msu⟩ :=
          cancelAll_stops (s := abandonCalibration s) presenting stopping latch
        rw [same]
        exact ⟨⟨units.rrd, units.bht, units.rsu, units.asu, units.settings, units.outcomes, units.contexts, units.latch,
          units.motion, units.position, units.supply⟩, engine, source, idle, strobes, rest, copy, seek, fun _ => msu⟩
    obtain ⟨units, clauses⟩ := stopped
    exact ⟨units, fun _ => clauses, fun h => absurd h chooses, fun h => absurd h arming, fun h => absurd stops h⟩
  · have same : t = engineAfterCancel s := others stops
    have chosen (h : s.choosesAll) : t =
        setEngine (if s.lcu.pauseLatch then .holding .pause else .idle) (endCourse (releaseCopy s)) :=
      same.trans ((choosing h).trans (chooseNext_bare printing hold))
    have waits (e : s.lcu.engine = .arming) (moving : s.mtu.motion ≠ .rest) : t =
        { releaseCopy s with lcu := { (releaseCopy s).lcu with armCancelled := true } } :=
      same.trans (backfeeding e moving)
    have stays (other : ¬ s.choosesAll) (notArming : s.lcu.engine ≠ .arming) : t = s := by
      refine same.trans (staying ?_)
      rcases engine_atCancel s.lcu.engine with e | e | e | e | e
      · refine absurd ?_ stops
        simp only [List.mem_cons, List.not_mem_nil, or_false] at e
        rcases e with e | e | e <;> simp [Engine.stopsAll, e]
      · exact absurd e notArming
      · exact absurd (.inr (.inl e)) other
      · exact absurd (.inr (.inr e)) other
      · exact e
    refine ⟨?_, fun h => absurd h stops, fun h => ?_, fun e moving => ?_, fun _ other => ?_⟩
    · by_cases h : s.choosesAll
      · rw [chosen h]
        exact unitsStand_setEngine _ _
      · by_cases e : s.lcu.engine = .arming
        · rw [waits e fun rest => h (.inl ⟨e, rest⟩)]
          exact ⟨rfl, rfl, rfl, rfl, rfl, rfl, ⟨rfl, rfl, rfl⟩, rfl, rfl, rfl, rfl⟩
        · rw [stays h e]
          exact ⟨rfl, rfl, rfl, rfl, rfl, rfl, ⟨rfl, rfl, rfl⟩, rfl, rfl, rfl, rfl⟩
    · rw [chosen h, setEngine_lcu]
      exact ⟨rfl, rfl⟩
    · rw [waits e moving]
      exact ⟨e, rfl, rfl⟩
    · by_cases e : s.lcu.engine = .arming
      · rw [waits e fun rest => other (.inl ⟨e, rest⟩)]
        rfl
      · rw [stays other e]

/-! ## CANCEL_ALL: the items that keep their outcome (R58) -/

/-- R54, R58: the label whose last copy has ended with its body open, and its counts. -/
def Rrd.endedLabel (r : Rrd) : Option (WalkLabel × (Nat × Nat)) :=
  r.label.bind fun w => w.ended.map fun n => (w, n)

/-- R58: the table with the items of that label DONE. -/
def Rrd.tableEnded (r : Rrd) : List ItemEntry :=
  match r.endedLabel with
  | some (w, n) => labelEnds r.retire w.index (w.closing.getD (r.take - 1)) .done n.1 n.2 r.table
  | none => r.table

/-- R57, R58: then with the items of the PRINTING label CANCELLED. -/
def Rrd.tableCut (r : Rrd) (printing : Option Context) : List ItemEntry :=
  match printing with
  | some c => labelEnds r.retire c.label (c.closing.getD (r.take - 1)) .cancelled c.good c.spoiled r.tableEnded
  | none => r.tableEnded

/-- R58: then with the operation in execution CANCELLED. -/
def Rrd.tableOver (r : Rrd) (printing : Option Context) (operation : Option Operation) : List ItemEntry :=
  match operation with
  | some o => (r.tableCut printing).map fun e : ItemEntry =>
      if e.index = o.index then { e.ends .cancelled with byte13 := 0 } else e
  | none => r.tableCut printing

theorem cancelCompletions_table (s : State) :
    (cancelCompletions s).rrd.table = s.rrd.tableOver s.lcu.printing s.lcu.operation := by
  unfold cancelCompletions
  extract_lets s1 s2
  have ended : OnlyTable s s1 ∧ s1.rrd.table = s.rrd.tableEnded := by
    unfold s1 Rrd.tableEnded Rrd.endedLabel
    cases s.rrd.label with
    | none => exact ⟨rfl, rfl⟩
    | some w =>
      cases h : w.ended with
      | none =>
        simp only [h, Option.bind_some, Option.map_none]
        exact ⟨rfl, trivial⟩
      | some n =>
        simp only [h, Option.bind_some, Option.map_some]
        exact ⟨onlyTable_completeLabel .., by rw [completeLabel_eq]; rfl⟩
  obtain ⟨only, table⟩ := ended
  rw [OnlyTable] at only
  have cut : s2.rrd.table = s.rrd.tableCut s.lcu.printing := by
    unfold s2 Rrd.tableCut
    cases s.lcu.printing with
    | none => exact table
    | some c =>
      dsimp only
      rw [completeLabel_eq, table, only]
      rfl
  unfold Rrd.tableOver
  rw [← cut]
  cases s.lcu.operation with
  | none => rfl
  | some o => rfl

theorem labelEnds_length (retire label closing : Idx) (r : ItemResult) (good spoiled : Nat)
    (table : List ItemEntry) : (labelEnds retire label closing r good spoiled table).length = table.length :=
  List.length_map _

theorem tableOver_length (r : Rrd) (printing : Option Context) (operation : Option Operation) :
    (r.tableOver printing operation).length = r.table.length := by
  have ended : r.tableEnded.length = r.table.length := by
    unfold Rrd.tableEnded
    split
    · exact labelEnds_length ..
    · rfl
  have cut : (r.tableCut printing).length = r.table.length := by
    unfold Rrd.tableCut
    split
    · exact (labelEnds_length ..).trans ended
    · exact ended
  unfold Rrd.tableOver
  split
  · exact (List.length_map _).trans cut
  · exact cut

/-- R58: completion names the items as they stood. -/
theorem tableOver_index (r : Rrd) (printing : Option Context) (operation : Option Operation) :
    ((r.tableOver printing operation).map fun e => e.index) = r.table.map fun e => e.index := by
  have ends (retire label closing : Idx) (x : ItemResult) (good spoiled : Nat) (table : List ItemEntry) :
      ((labelEnds retire label closing x good spoiled table).map fun e => e.index) =
        table.map fun e => e.index := by
    unfold labelEnds
    rw [List.map_map]
    refine List.map_congr_left fun e _ => ?_
    rw [Function.comp]
    split
    · split <;> rfl
    · rfl
  have ended : (r.tableEnded.map fun e => e.index) = r.table.map fun e => e.index := by
    unfold Rrd.tableEnded
    split
    · exact ends ..
    · rfl
  have cut : ((r.tableCut printing).map fun e => e.index) = r.table.map fun e => e.index := by
    unfold Rrd.tableCut
    split
    · exact (ends ..).trans ended
    · exact ended
  unfold Rrd.tableOver
  split
  · rw [List.map_map, ← cut]
    refine List.map_congr_left fun e _ => ?_
    rw [Function.comp]
    split <;> rfl
  · exact cut

/-- R58: the run of a CANCEL_ALL, item by item. -/
theorem cancelAllRun_get (s : State) {n : Nat} {e d : ItemEntry} (old : s.rrd.table[n]? = some e)
    (new : (s.rrd.tableOver s.lcu.printing s.lcu.operation)[n]? = some d) :
    (cancelAllRun s)[n]? = some (if keptByCancelAll s e then d else d.silence) := by
  unfold cancelAllRun
  rw [List.getElem?_zipWith, old, cancelCompletions_table, new]

theorem cancelAllRun_length (s : State) : (cancelAllRun s).length = s.rrd.table.length := by
  unfold cancelAllRun
  rw [List.length_zipWith, cancelCompletions_table, tableOver_length, Nat.min_self]

theorem zipWith_second {f : ItemEntry → ItemEntry → Idx} {index : ItemEntry → Idx}
    (same : ∀ old new, f old new = index new) : ∀ olds news : List ItemEntry, olds.length = news.length →
    List.zipWith f olds news = news.map index := by
  intro olds
  induction olds with
  | nil =>
    intro news length
    rw [List.length_eq_zero_iff.1 length.symm]
    rfl
  | cons old olds ih =>
    intro news length
    cases news with
    | nil => cases length
    | cons new news => rw [List.zipWith_cons_cons, same, ih news (Nat.succ.inj length), List.map_cons]

/-- R58: silence names no other item. -/
theorem cancelAllRun_index (s : State) :
    ((cancelAllRun s).map fun e => e.index) = s.rrd.table.map fun e => e.index := by
  unfold cancelAllRun
  rw [List.map_zipWith, cancelCompletions_table,
    zipWith_second (index := fun e => e.index) _ _ _ (tableOver_length ..).symm, tableOver_index]
  intro old new
  split <;> rfl

/-- R80: the state in which everything has been cancelled and the engine state stands. -/
def State.allCancelled (s : State) : State :=
  let u := flushStream ((cancelAllInRing (s.updatePrinting (Context.cut s.lcu.engine))).withdraw Transfer.isFormat)
  { u with lcu := { u.lcu with printing := none, staged := none, operation := none } }

theorem takeCancelAll_eq {s : State} (engaged : s.lcu.engine ≠ .unconfigured) :
    takeCancelAll s = engineAfterCancelAll s.allCancelled :=
  if_pos ((configured_iff s).2 engaged)

/-- R58, R80: what a CANCEL_ALL makes of `s`, the engine state apart, the run `run` retiring. -/
structure EverythingCancelled (s t : State) (run : List ItemEntry) : Prop where
  rrd : t.rrd = { s.rrd with
    take := s.rrd.producer, walk := s.rrd.producer, retire := s.rrd.producer, table := [], inside := false
    label := none, impliedClose := false, fetch := none, hold := none, reread := none }
  bht : t.bht = run.foldl (fun h e => h.releaseItem e.index) s.bht
  outcomes : t.bpu.waiting.filter Transfer.isOutcome =
    s.bpu.waiting.filter Transfer.isOutcome ++ outcomesOf s.geo s.bht run
  label : t.asu.records.get .label = (s.asu.records.get .label).after (run.filterMap labelEvent)
  media : t.asu.records.get .media = s.asu.records.get .media
  lcu : t.lcu = { s.lcu with printing := none, staged := none, operation := none }
  mtu : t.mtu = s.mtu
  msu : t.msu = s.msu
  htu : t.htu = s.htu
  settings : t.settings = s.settings
  stream : t.rsu.queue = [] ∧ t.rsu.buffer = []

theorem allCancelled_units (s : State) :
    EverythingCancelled s s.allCancelled (cancelAllRun (s.updatePrinting (Context.cut s.lcu.engine))) := by
  obtain ⟨rrd, bht, outcomes, label, media, lcu, mtu, msu, htu, settings⟩ :=
    cancelAllInRing_units (s.updatePrinting (Context.cut s.lcu.engine))
  have withdrawn := withdraw_outcomes (p := Transfer.isFormat)
    (fun x => by cases x <;> simp [Transfer.isFormat, Transfer.isOutcome])
    (cancelAllInRing (s.updatePrinting (Context.cut s.lcu.engine)))
  unfold State.allCancelled
  dsimp only
  refine ⟨?_, ?_, ?_, ?_, ?_, ?_, ?_, ?_, ?_, ?_, rfl, rfl⟩
  · exact (flushStream_rrd _).trans rrd
  · exact (flushStream_bht _).trans bht
  · rw [flushStream_bpu]
    exact withdrawn.trans outcomes
  · rw [flushStream_asu]
    exact label
  · rw [flushStream_asu]
    exact media
  · dsimp only
    rw [flushStream_lcu]
    show { (cancelAllInRing _).lcu with printing := none, staged := none, operation := none } = _
    rw [lcu]
    rfl
  · exact (flushStream_mtu _).trans mtu
  · exact (flushStream_msu _).trans msu
  · exact (flushStream_htu _).trans htu
  · exact (flushStream_settings _).trans settings

theorem inSpan_iff (retire a b : Idx) (e : ItemEntry) : inSpan retire a b e = true ↔
    (a - retire).toNat ≤ (e.index - retire).toNat ∧ (e.index - retire).toNat ≤ (b - retire).toNat := by
  exact (Bool.and_eq_true _ _).to_iff.trans (and_congr decide_eq_true_iff decide_eq_true_iff)

/-- R58: the items that keep their outcome, said of the state before the copy is cut. -/
def KeptByCancelAll (s : State) (e : ItemEntry) : Prop :=
  let spans (a : Idx) (k : Option Idx) : Prop :=
    (a - s.rrd.retire).toNat ≤ (e.index - s.rrd.retire).toNat ∧
      (e.index - s.rrd.retire).toNat ≤ (k.getD (s.rrd.take - 1) - s.rrd.retire).toNat
  (∃ c, s.lcu.printing = some c ∧ (spans c.label c.closing ∨ (e.complete = true ∧
    (e.index - s.rrd.retire).toNat < (c.label - s.rrd.retire).toNat))) ∨
  (∃ w n, s.rrd.endedLabel = some (w, n) ∧ spans w.index w.closing) ∨
  ∃ o, s.lcu.operation = some o ∧ o.index = e.index

theorem keptByCancelAll_iff (s : State) (e : ItemEntry) :
    keptByCancelAll (s.updatePrinting (Context.cut s.lcu.engine)) e = true ↔ KeptByCancelAll s e := by
  unfold KeptByCancelAll
  extract_lets spans
  let u := s.updatePrinting (Context.cut s.lcu.engine)
  have cut : (u.lcu.printing.any fun c => inSpan s.rrd.retire c.label (cancelClosing c.closing u) e
        || (e.complete && decide (ringDist e.index s.rrd.retire < ringDist c.label s.rrd.retire))) = true ↔
      ∃ c, s.lcu.printing = some c ∧ (spans c.label c.closing ∨ (e.complete = true ∧
        (e.index - s.rrd.retire).toNat < (c.label - s.rrd.retire).toNat)) := by
    have same : u.lcu.printing = s.lcu.printing.map (Context.cut s.lcu.engine) := rfl
    rw [same]
    cases s.lcu.printing with
    | none => simp
    | some c =>
      rw [Option.map_some, Option.any_some, cut_eq, Bool.or_eq_true, inSpan_iff, Bool.and_eq_true,
        decide_eq_true_iff]
      exact ⟨fun h => ⟨c, rfl, h⟩, fun ⟨d, hd, h⟩ => by obtain rfl := Option.some.inj hd; exact h⟩
  have ended : (s.rrd.label.any fun w => w.ended.isSome && inSpan s.rrd.retire w.index (cancelClosing w.closing u) e)
        = true ↔ ∃ w n, s.rrd.endedLabel = some (w, n) ∧ spans w.index w.closing := by
    unfold Rrd.endedLabel
    cases s.rrd.label with
    | none => simp
    | some w =>
      rw [Option.any_some, Bool.and_eq_true, inSpan_iff, Option.bind_some]
      cases w.ended with
      | none => simp
      | some n =>
        rw [Option.map_some]
        exact ⟨fun h => ⟨w, n, rfl, h.2⟩, fun ⟨v, m, hv, h⟩ => ⟨rfl, by
          obtain ⟨rfl, -⟩ := Prod.mk.inj (Option.some.inj hv)
          exact h⟩⟩
  have running : (s.lcu.operation.any fun o => o.index == e.index) = true ↔
      ∃ o, s.lcu.operation = some o ∧ o.index = e.index := by
    rw [Option.any_eq_true]
    simp only [beq_iff_eq]
  have parts : keptByCancelAll u e = true ↔ _ :=
    (Bool.or_eq_true _ _).to_iff.trans (or_congr ((Bool.or_eq_true _ _).to_iff.trans (or_congr cut ended)) running)
  exact parts.trans or_assoc

theorem fill_empty {r : Rsu} (queue : r.queue = []) (buffer : r.buffer = []) :
    r.fill.queue = [] ∧ r.fill.buffer = [] := by
  have none_ := fill_all (P := fun _ _ => False) (r := r) (by simp [Rsu.stream, queue, buffer])
  refine ⟨List.eq_nil_iff_forall_not_mem.2 fun x hx => ?_, List.eq_nil_iff_forall_not_mem.2 fun x hx => ?_⟩
  · exact none_ x.element (List.mem_append_right _ (List.mem_map_of_mem hx))
  · exact none_ x.element (List.mem_append_left _ (List.mem_map_of_mem hx))

/-- R58, R80: what follows the command once everything has been cancelled. -/
theorem cancelAll_settled {s k : State} {run : List ItemEntry} (h : EverythingCancelled s k run)
    (stopping : s.mtu.stopping = none) (latch : s.mtu.latch = none) :
    let t := settle (engineAfterCancelAll k)
    (t.lcu.printing = none ∧ t.lcu.staged = none ∧ t.lcu.operation = none ∧
      t.rsu.queue = [] ∧ t.rsu.buffer = [] ∧ t.rrd.table = [] ∧ t.rrd.hold = none ∧
      t.rrd.fetch = none ∧ t.rrd.reread = none ∧ t.rrd.inside = false ∧
      t.rrd.producer = s.rrd.producer ∧ t.rrd.take = s.rrd.producer ∧ t.rrd.walk = s.rrd.producer ∧
      t.rrd.retire = s.rrd.producer ∧ t.lcu.pauseLatch = s.lcu.pauseLatch ∧
      t.mtu.motion = s.mtu.motion ∧ t.mtu.position = s.mtu.position ∧
      t.htu.supply = s.htu.supply ∧ t.settings = s.settings) ∧
    (t.bht = run.foldl (fun h e => h.releaseItem e.index) s.bht ∧
      t.bpu.waiting.filter Transfer.isOutcome =
        s.bpu.waiting.filter Transfer.isOutcome ++ outcomesOf s.geo s.bht run ∧
      t.asu = k.asu) ∧
    (s.lcu.engine.stopsAll → t.lcu.engine = .presenting .stop ∧ t.mtu.source = .decelerate ∧
      t.hdu.state = .idle ∧ t.hdu.strobes = List.replicate 8 false ∧ t.lcu.restTof = none ∧
      t.lcu.copyTof = none ∧ t.lcu.seek = none ∧
      (s.lcu.engine ≠ .feeding → t.msu = s.msu.dropCalibration)) ∧
    (s.choosesAll → t.lcu.copyTof = none ∧
      t.lcu.engine = (if s.lcu.pauseLatch then .holding .pause else .idle)) ∧
    (s.lcu.engine = .arming → s.mtu.motion ≠ .rest →
      t.lcu.engine = .arming ∧ t.lcu.armCancelled = true ∧ t.lcu.copyTof = none) ∧
    (¬ s.lcu.engine.stopsAll → ¬ s.choosesAll → t.lcu.engine = s.lcu.engine) := by
  have engine : k.lcu.engine = s.lcu.engine := by rw [h.lcu]
  have pause : k.lcu.pauseLatch = s.lcu.pauseLatch := by rw [h.lcu]
  have clauses := engineAfterCancelAll_units (s := k) (by rw [h.lcu]) (by rw [h.rrd]) (by rwa [h.mtu])
    (by rwa [h.mtu])
  revert clauses
  unfold State.choosesAll
  dsimp only
  rw [engine, h.mtu, h.msu, pause]
  generalize engineAfterCancelAll k = w
  intro ⟨units, stops, chooses, waits, stays⟩
  have f := settle_followsUp w
  obtain ⟨b, mtu⟩ : ∃ b, (settle w).mtu = { w.mtu with tailRunOn := b } := ⟨_, f.mtu⟩
  obtain ⟨x, hdu⟩ : ∃ x, (settle w).hdu = { w.hdu with forecastTime := x } := ⟨_, f.hdu⟩
  have ring := units.rrd.trans h.rrd
  obtain ⟨retire, table, bht, asu⟩ := f.quiet (by rw [ring]; nofun)
  obtain ⟨-, -, -, outcomes⟩ := f.retires [] [] (by rw [ring]; rfl) (by nofun) (by nofun)
  have fetch : (settle w).rrd.fetch = none := by
    rw [f.noFetch fun wanted => wanted.2.1 (by rw [ring]), ring]
  have reread : (settle w).rrd.reread = none := by
    refine (f.noReread fun wanted => ?_).trans (by rw [ring])
    have settings := wanted.2.2
    rw [ring] at settings
    cases settings
  have stream : (settle w).rsu.queue = [] ∧ (settle w).rsu.buffer = [] := by
    obtain ⟨queue, buffer⟩ := h.stream
    rw [f.rsu, units.rsu]
    split
    · exact fill_empty queue buffer
    · exact ⟨queue, buffer⟩
  obtain ⟨printing, staged, operation⟩ := units.contexts
  refine ⟨⟨?_, ?_, ?_, stream.1, stream.2, ?_, ?_, fetch, reread, ?_, ?_, ?_, ?_, ?_, ?_, ?_, ?_, ?_, ?_⟩,
    ⟨?_, ?_, ?_⟩, ?_, ?_, ?_, ?_⟩
  · rw [f.lcu, printing, h.lcu]
  · rw [f.lcu, staged, h.lcu]
  · rw [f.lcu, operation, h.lcu]
  · rw [table, ring]
  · rw [f.rrd, ring]
  · rw [f.rrd, ring]
  · rw [f.rrd, ring]
  · rw [f.rrd, ring]
  · rw [f.rrd, ring]
  · rw [retire, ring]
  · rw [f.lcu, units.latch, pause]
  · rw [mtu, units.motion, h.mtu]
  · rw [mtu, units.position, h.mtu]
  · rw [f.htu, units.supply, h.htu]
  · rw [f.settings, units.settings, h.settings]
  · rw [bht, units.bht, h.bht]
  · rw [outcomes, units.outcomes, h.outcomes]
    exact List.append_nil _
  · rw [asu, units.asu]
  · rw [f.lcu, f.msu, mtu, hdu]
    exact stops
  · rw [f.lcu]
    exact chooses
  · rw [f.lcu]
    exact waits
  · rw [f.lcu]
    exact stays

theorem calibrationDropped_of_msu {s t : State} {r : CalRun} (msu : t.msu = s.msu.dropCalibration)
    (cal : s.msu.cal = some r) : CalibrationDropped s t r := by
  unfold CalibrationDropped
  rw [msu, Msu.dropCalibration_some cal]
  exact ⟨rfl, rfl, rfl, rfl, rfl, rfl, rfl, rfl, rfl, rfl, rfl, rfl⟩

/-- R57, R58: the completed table, the copy in progress counted as cut. -/
theorem tableCut_cut (r : Rrd) (printing : Option Context) (e : Engine) :
    r.tableCut (printing.map (Context.cut e)) = printing.elim r.tableEnded fun c =>
      labelEnds r.retire c.label (c.closing.getD (r.take - 1)) .cancelled c.good (c.cut e).spoiled r.tableEnded := by
  cases printing with
  | none => rfl
  | some c =>
    rw [Option.map_some, Rrd.tableCut, cut_eq]
    rfl

/-- R58: the run of a CANCEL_ALL, said of the state before the copy is cut. -/
theorem cancelAllRun_cut {s r : State} (ring : r.rrd = s.rrd) (label : r.lcu = s.lcu) :
    let run := cancelAllRun (r.updatePrinting (Context.cut r.lcu.engine))
    run.length = s.rrd.table.length ∧ (run.map fun e => e.index) = s.rrd.table.map (fun e => e.index) ∧
    ∀ (n : Nat) e d, s.rrd.table[n]? = some e →
      (s.rrd.tableOver (s.lcu.printing.map (Context.cut s.lcu.engine)) s.lcu.operation)[n]? = some d →
      (KeptByCancelAll s e → run[n]? = some d) ∧ (¬ KeptByCancelAll s e → run[n]? = some d.silence) := by
  intro run
  have keeps (e : ItemEntry) := keptByCancelAll_iff r e
  rw [← ring, ← label]
  refine ⟨cancelAllRun_length _, cancelAllRun_index _, fun n e d old new => ?_⟩
  have item : run[n]? = _ := cancelAllRun_get (r.updatePrinting (Context.cut r.lcu.engine)) old new
  have same : KeptByCancelAll s e ↔ KeptByCancelAll r e := by
    unfold KeptByCancelAll
    rw [ring, label]
  rw [item, same]
  exact ⟨fun kept => by rw [if_pos ((keeps e).2 kept)], fun left => by rw [if_neg fun kept => left ((keeps e).1 kept)]⟩

/-- Settles O16. -/
theorem cancelAll : Obligations.CancelAll := by
  intro s anchored live engaged stopping latch
  obtain ⟨-, -, -, run, -⟩ := exec_control anchored live
  refine ⟨_, run, storedAt_control (v := 4) anchored live run (by decide), ?_⟩
  obtain ⟨m, ρ, written⟩ := requested_form s 4 4
  rw [written, takeCancelAll_eq (by exact engaged)]
  obtain ⟨r, form⟩ : ∃ r : State, r = { s with mem := m, rsu := ρ } := ⟨_, rfl⟩
  rw [← form]
  have h : EverythingCancelled s r.allCancelled (cancelAllRun (r.updatePrinting (Context.cut r.lcu.engine))) := by
    obtain ⟨rrd, bht, outcomes, label, media, lcu, mtu, msu, htu, settings, stream⟩ := allCancelled_units r
    rw [form] at *
    exact ⟨rrd, bht, outcomes, label, media, lcu, mtu, msu, htu, settings, stream⟩
  generalize r.allCancelled = k at h ⊢
  obtain ⟨⟨printing, staged, operation, queue, buffer, table, hold, fetch, reread, inside, producer, take, walk, retire,
    pause, motion, position, supply, settings⟩, ⟨bht, outcomes, asu⟩, stops, chooses, waits, stays⟩ :=
    cancelAll_settled h stopping latch
  have label := (congrArg (fun a : Asu => a.records.get .label) asu).trans h.label
  have media := (congrArg (fun a : Asu => a.records.get .media) asu).trans h.media
  refine ⟨printing, staged, operation, queue, buffer, table, hold, fetch, reread, inside, producer, take, walk, retire,
    pause, motion, position, supply, settings, ⟨fun stop => ?_, chooses, waits, stays⟩, ?_⟩
  · obtain ⟨engine, source, idle, strobes, rest, copy, seek, msu⟩ := stops stop
    exact ⟨engine, source, idle, strobes, rest, copy, seek, fun r cal other =>
      ⟨calibrationDropped_of_msu (msu other) cal, media⟩⟩
  · obtain ⟨length, index, items⟩ := cancelAllRun_cut (s := s) (r := r) (by rw [form]) (by rw [form])
    generalize cancelAllRun _ = run at *
    refine ⟨⟨run, length, fun n e d old new => ?_, outcomes, bht, fun none_ => ?_, fun e last => ?_⟩,
      fun order counts => ?_⟩
    · refine items n e d old (Eq.trans (congrArg (fun table : List ItemEntry => table[n]?) ?_) new)
      have table2 := tableCut_cut s.rrd s.lcu.printing s.lcu.engine
      unfold Rrd.tableOver
      rw [table2]
      cases s.lcu.printing with
      | none => cases s.lcu.operation <;> rfl
      | some c =>
        rw [Option.elim_some, cut_spoiled]
        cases s.lcu.operation <;> rfl
    · rw [label, none_]
      rfl
    · rw [label, SourceRecord.after_last last]
      exact ⟨rfl, rfl, rfl⟩
    · rw [bht]
      exact releaseRun_empties _ _ (by rw [index]; exact order) counts

end Sys2Proof.Machine
